-- ==== Sys2Proof/Word.lean ====
section
/-!
DEFINITION. Words of the WG816: frames and table rows are runs of 16-bit words (spec 11_frame_layouts.md),
header fields are bytes. Everything else the manual calls a whole number is an `Int` or a `Nat` of the model.
-/

namespace Sys2Proof

/-- A 16-bit word of a frame or a row of a table (chapter Frame Layouts). -/
abbrev Word := BitVec 16

/-- An 8-bit address, tag or strap group (chapter Frame Layouts, 11.1). -/
abbrev Byte := BitVec 8

/-- A gate number 0..7 (00_scope.md, Numbering). -/
abbrev GateNo := Fin 8

/-- A hoist number 0..15; hoists 2g and 2g+1 belong to gate g (00_scope.md, Numbering). -/
abbrev HoistNo := Fin 16

/-- A schedule number 0..3 (00_scope.md, Numbering). -/
abbrev ScheduleNo := Fin 4

end Sys2Proof
end

