-- ==== Sys2Proof/Syntax.lean ====
section
/-!
DEFINITION. The commands of the WG816: one constructor per row of spec/opcode_table.json. The part is a block: a
command is a thing that happens to it (a frame, a line, a timer, the execution of a request), and the table's
rows are the part's steps, "each whole and indivisible" (95_what_each_step_holds.md).
-/

namespace Sys2Proof

/-- The four level channels (R37): U1, U2 upstream, D1, D2 downstream. -/
inductive ChannelName
  | u1 | u2 | d1 | d2
deriving DecidableEq, Repr

/-- One constructor per row of spec/opcode_table.json, in the table's order.

A timer's row names the timer that expires. The sixteen request rows (SET_MODE to SOFT_RESET but for the two
frames) carry no operands of their own: their operands stand in the payload of the ORDER or MANAGE frame that the
Request Unit has taken from its intake FIFO and is executing (R180), which `State` holds
(notes/assumptions/3.md). -/
inductive Instr
  /-- FRAME_ARRIVAL (R5): the end mark of a frame. `words` are the whole 16-bit words between the marks, in order
  of reception; `strayBits` is the number of bits after the last whole word. -/
  | frameArrival (words : List Word) (strayBits : Nat)
  /-- TRANSMISSION_COMPLETE (R19): the frame on RING-OUT ends. -/
  | transmissionComplete
  /-- HARD_RESET (R20, R3, R176): the RESET line or power-up. The operands are the levels of the SADDR and CADDR
  straps and of the HOLD line as they stand at that moment. -/
  | hardReset (saddr caddr : Byte) (hold : Bool)
  /-- HOLD_LINE_ASSERTED (R120). -/
  | holdLineAsserted
  /-- HOLD_LINE_RELEASED (R121). -/
  | holdLineReleased
  /-- AGE_TIMER_EXPIRY (R42) of one level channel. -/
  | ageTimerExpiry (c : ChannelName)
  /-- ACK_TIMER_EXPIRY (R135) of one hoist's post slot. -/
  | ackTimerExpiry (h : HoistNo)
  /-- REFRESH_TIMER_EXPIRY (R138) of one hoist. -/
  | refreshTimerExpiry (h : HoistNo)
  /-- MOVE_TIMER_EXPIRY (R114) of one gate. -/
  | moveTimerExpiry (g : GateNo)
  /-- STOP_TIMER_EXPIRY (R116, R164) of one gate. -/
  | stopTimerExpiry (g : GateNo)
  /-- SETTLE_TIMER_EXPIRY (R149) of one hoist. -/
  | settleTimerExpiry (h : HoistNo)
  /-- DRAIN_TIMER_EXPIRY (R174). -/
  | drainTimerExpiry
  /-- DRAIN_COMPLETION (R175): the completion of a drain whose conditions have come to hold. -/
  | drainCompletion
  /-- SET_MODE (R89): execution of a SET-MODE order. -/
  | setMode
  /-- MOVE_TO (R103): execution of a MOVE-TO order. -/
  | moveTo
  /-- MOVE_BY (R103): execution of a MOVE-BY order. -/
  | moveBy
  /-- STOP (R106): execution of a STOP order. -/
  | stop
  /-- CANCEL (R107): execution of a CANCEL order. -/
  | cancel
  /-- WRITE_ROWS (R182). -/
  | writeRows
  /-- READ_ROWS (R181). -/
  | readRows
  /-- SET_LENGTH (R183). -/
  | setLength
  /-- ACTIVATE (R183). -/
  | activate
  /-- READ_STATE (R185). -/
  | readState
  /-- CLEAR_FLAGS (R186). -/
  | clearFlags
  /-- CLEAR_GATE (R166). -/
  | clearGate
  /-- RESUME_GATE (R167). -/
  | resumeGate
  /-- FORCE_INDEX (R68). -/
  | forceIndex
  /-- RELEASE_INDEX (R68). -/
  | releaseIndex
  /-- SOFT_RESET (R172). -/
  | softReset
  /-- START_MARK_BEFORE_END_MARK (R5): a start mark arrives while a frame is being received. -/
  | startMarkBeforeEndMark
deriving DecidableEq, Repr

end Sys2Proof
end

