-- ==== Sys2Proof/Decode.lean ====
section
/-!
DEFINITION. The commands that a word of bits spells. spec/opcode_table.json gives no row any bits (its "fields" are
empty throughout): the rows are things that happen to the part, and a request's bits are those of its frame
(11_frame_layouts.md), read in Machine/Operands.lean where FRAME_ARRIVAL takes the frame.
-/

namespace Sys2Proof

/-- The command spelled by a word of `nbits` bits: none, since no row of the table gives bits
(notes/assumptions/8.md). -/
def decodeTableWord (_nbits _w : Nat) : Option Instr := none

end Sys2Proof
end

