-- ==== Sys2Proof/Config.lean ====
section
/-!
DEFINITION. What the manual leaves to the part or to its surroundings: the order in which events that meet are
taken (a free value: a constant with no body), and the strap settings `State.reset` is written for.
-/

namespace Sys2Proof.Config

/-- FREE VALUE (notes/assumptions/1.md). The manual says "Events that touch different state are not ordered
against one another" and gives the outcome of either order. Where one command of the model holds several such
events, the n-th order it takes is read from this constant. It has no body, so nothing can be proved of a
particular order: a statement holds for every order. -/
opaque order : Nat → Nat

/-- The level of the SADDR straps in `State.reset`. DESIGN CHOICE (notes/assumptions/2.md): the own address of
the manual's worked examples. The HARD_RESET command carries the straps' levels itself (R3). -/
def saddrStraps : Byte := 37#8

/-- The level of the CADDR straps in `State.reset`. DESIGN CHOICE (notes/assumptions/2.md): the commissioning
address of the manual's worked examples. -/
def caddrStraps : Byte := 12#8

end Sys2Proof.Config
end

