-- ==== Sys2Proof/Machine/State.lean ====
section
/-!
DEFINITION. The state of the WG816: one structure per block of the manual ("The blocks", 00_scope.md), plain data
throughout. Timers hold the interval they were started with, in milliseconds; `none` is a stopped timer.
-/

namespace Sys2Proof.Machine

/-! ### Frames -/

/-- A well-formed frame (chapter Frame Layouts, 11.1). The length field of word 1 is the payload's length. -/
structure Frame where
  dest : Byte
  src : Byte
  kind : BitVec 4
  tag : Byte
  payload : List Word
  check : Word
deriving DecidableEq, Repr

/-- A frame the part originates, as the block that built it gives it. The Ring Interface adds the own address and
the check word at transmission (R2). -/
structure OwnFrame where
  dest : Byte
  kind : BitVec 4
  tag : Byte
  payload : List Word
deriving DecidableEq, Repr

/-! ### Ring Interface (01_the_gate_ring.md) -/

/-- RING-OUT: IDLE, or SENDING one named frame (R1). The constructor names the owner of the frame, to whom its
completion is reported (R19). -/
inductive RingOut
  | idle
  | transit (f : Frame)
  | post (h : HoistNo) (f : Frame)
  | report (f : Frame)
deriving DecidableEq, Repr

/-- The Ring Interface's state (table at the head of 01_the_gate_ring.md). -/
structure RingInterface where
  own : Byte
  commissioning : Byte
  /-- The transit FIFO, oldest first, at most 8 frames (R13). -/
  transit : List Frame
  out : RingOut
  /-- The consecutive-transit count, 0..3 (R17). -/
  consecutive : Nat
  /-- The check-error count, saturating at 65535 (R7). -/
  checkErrors : Nat
  /-- The transit-loss count, saturating at 65535 (R14). -/
  transitLosses : Nat
deriving DecidableEq, Repr

/-! ### Pass Filter (02_the_pass_table.md) -/

/-- The Pass Filter's own state; the images belong to the Table Store. -/
structure PassFilter where
  /-- One hit count per active entry, saturating (R26). -/
  hits : List Nat
  /-- POLICED-DROP, sticky (R33). -/
  policedDrop : Bool
deriving DecidableEq, Repr

/-! ### Level Unit (03_level_channels_and_working_levels.md) -/

inductive ChannelState
  | noData | fresh | aged | faulted
deriving DecidableEq, Repr

/-- A channel record. Here and elsewhere a timer holds the interval it was started with, in milliseconds, while it
runs (notes/assumptions/7.md). -/
structure Channel where
  state : ChannelState
  /-- -8000..+12000 mm (R40). -/
  value : Int
  /-- Range used: COARSE when set, FINE when clear (R40). -/
  coarse : Bool
  clamped : Bool
  ageTimer : Option Nat
deriving DecidableEq, Repr

inductive SideState
  | noData | valid | stale
deriving DecidableEq, Repr

/-- A side record. The stale flag is set exactly while `state` is `stale` (R44) and is read from it
(notes/assumptions/16.md). -/
structure Side where
  state : SideState
  level : Int
  formed : Bool
  disagree : Bool
  updated : Bool
deriving DecidableEq, Repr

structure LevelUnit where
  u1 : Channel
  u2 : Channel
  d1 : Channel
  d2 : Channel
  up : Side
  down : Side
  /-- -20000..+20000 mm (R51). -/
  head : Int
deriving DecidableEq, Repr

/-! ### Gate Sequencers (05, 06, 09) -/

inductive Mode
  | off | hold | manual | auto | flood
deriving DecidableEq, Repr

inductive Motion
  | idle | moving | trim | stopping | faultStopping | faulted
deriving DecidableEq, Repr

inductive Speed
  | creep | normal | fast
deriving DecidableEq, Repr

/-- Whence a request or a move comes (R99, R159). `unset` is the NONE of a save record. -/
inductive Origin
  | unset
  | order (source tag : Byte)
  | auto
  | flood
  | closure
deriving DecidableEq, Repr

inductive Form
  | absolute | relative
deriving DecidableEq, Repr

/-- An entry of a request queue (R99). A speed of `none` is speed class 0, the gate's default. -/
structure Entry where
  origin : Origin
  form : Form
  value : Int
  speed : Option Speed
deriving DecidableEq, Repr

/-- The move context (R109). `up` is the direction UP. -/
structure MoveContext where
  target : Int
  speed : Speed
  origin : Origin
  up : Bool
deriving DecidableEq, Repr

/-- The eight fault causes (09, 9.1). -/
inductive Cause
  | overload | slack | skew | driveFault | driveSilent | moveTimeout | stopTimeout | localTakeover
deriving DecidableEq, Repr

inductive Recoverable
  | pending | yes | no
deriving DecidableEq, Repr

/-- The save record (R159). `causes` holds cause n in bit n, as the save record section shows it (11.3). -/
structure SaveRecord where
  occupied : Bool
  resumed : Bool
  firstCause : Cause
  causes : BitVec 8
  stateAtFault : Motion
  target : Int
  speed : Speed
  origin : Origin
  left : Int
  right : Int
  recoverable : Recoverable
deriving DecidableEq, Repr

/-- One Gate Sequencer, with the gate's blocked-notice indicator of the Schedule Evaluator (R75). -/
structure Gate where
  mode : Mode
  motion : Motion
  standing : Int
  /-- The request queue, oldest first, at most 4 entries (R99). -/
  queue : List Entry
  context : Option MoveContext
  /-- The hoist stopped on entry to TRIM, to be re-posted at release (R112). -/
  trimHoist : Option HoistNo
  closurePending : Bool
  tideClosed : Bool
  rangeFlag : Bool
  moveTimer : Option Nat
  stopTimer : Option Nat
  save : SaveRecord
  blockedNotice : Bool
deriving DecidableEq, Repr

/-! ### Hoist Interface (07) and the hoists' part of the Threshold Monitor (08) -/

inductive Drive
  | still | running | fault | takenLocal
deriving DecidableEq, Repr

inductive Command
  | move | stop
deriving DecidableEq, Repr

/-- A setpoint (R128). -/
structure Setpoint where
  command : Command
  target : Int
  speed : Speed
deriving DecidableEq, Repr

/-- The phase of an occupied slot (R130). -/
inductive Phase
  | waiting | sending | sent
deriving DecidableEq, Repr

/-- An occupied post slot (R130). `dest` is the drive station the Hoist Map held at the post (R128). -/
structure Slot where
  setpoint : Setpoint
  dest : Byte
  tag : Byte
  tries : Nat
  phase : Phase
  ackTimer : Option Nat
deriving DecidableEq, Repr

/-- Four outcomes or four flags of a monitored quantity (R146, R147). -/
structure Quad where
  ha : Bool
  hw : Bool
  lw : Bool
  la : Bool
deriving DecidableEq, Repr

/-- A monitored quantity: the outcomes held and the flags (R145). -/
structure Quantity where
  outcomes : Quad
  flags : Quad
deriving DecidableEq, Repr

/-- All the part holds about one hoist: its record (R125), post slot (R130), last-posted setpoint (R139), refresh
timer (R138), retry flags (R137), settle timer (R149) and the outcomes and flags of its load (R145). -/
structure Hoist where
  position : Int
  load : Int
  drive : Drive
  valid : Bool
  slot : Option Slot
  lastPosted : Option Setpoint
  refreshTimer : Option Nat
  retry : Bool
  exhausted : Bool
  settleTimer : Option Nat
  monitor : Quantity
deriving DecidableEq, Repr

/-- The device-wide part of the Hoist Interface: the tag counter (R129) and the post queue, the hoists whose slots
are WAITING, oldest first (R130); the frame of each stands in its slot. -/
structure PostUnit where
  tagCounter : Byte
  queue : List HoistNo
deriving DecidableEq, Repr

/-- The Threshold Monitor's three level quantities and the FAULT line (R145, R154). -/
structure Monitor where
  up : Quantity
  down : Quantity
  head : Quantity
  faultLine : Bool
deriving DecidableEq, Repr

/-! ### Supervisor (09) -/

inductive Device
  | run | drain | lockout
deriving DecidableEq, Repr

inductive LockoutCause
  | unset | responseOff | recoveryFault | stopFailed
deriving DecidableEq, Repr

structure Supervisor where
  device : Device
  lockoutCause : LockoutCause
  lockoutGate : Option GateNo
  drainTimer : Option Nat
  /-- The completion conditions of the drain have come to hold (R174) and its completion, the event
  DRAIN_COMPLETION, is outstanding (notes/assumptions/5.md). -/
  drainFulfilled : Bool
  /-- The HOLD line: asserted when set. -/
  holdLine : Bool
  /-- The LOCKOUT line: asserted when set. -/
  lockoutLine : Bool
deriving DecidableEq, Repr

/-! ### Request Unit (10) -/

/-- An entry of the report FIFO (R187): the reservation of a reply, a reply, or a notice. -/
inductive ReportEntry
  | reserved
  | reply (f : OwnFrame)
  | notice (f : OwnFrame)
deriving DecidableEq, Repr

structure RequestUnit where
  /-- The intake FIFO, oldest first, at most 4 frames (R179). -/
  intake : List Frame
  /-- The request whose execution is under way: its head has left the intake FIFO and its report entry is
  reserved (R180). -/
  executing : Option Frame
  /-- The report FIFO, oldest first, at most 16 entries, of which at most 12 are notices (R187). -/
  report : List ReportEntry
  requestLost : Bool
  noticeLost : Bool
deriving DecidableEq, Repr

/-! ### Table Store -/

/-- An image of the Pass Table (R22): its entry length and its 96 rows. -/
structure PassImage where
  length : Nat
  rows : Vector Word 96
deriving DecidableEq, Repr

/-- An image of a schedule (R57): the 6 header rows, row 0 being the length, and the 64 rows. -/
structure ScheduleImage where
  header : Vector Word 6
  rows : Vector Word 64
deriving DecidableEq, Repr

structure Schedule where
  pending : ScheduleImage
  active : ScheduleImage
deriving DecidableEq, Repr

/-- The tables, each as its numbered 16-bit rows (10.3; row formats 11.4). -/
structure TableStore where
  control : Vector Word 16
  access : Vector Word 14
  stations : Vector Word 254
  hoistMap : Vector Word 16
  passPending : PassImage
  passActive : PassImage
  thresholds : Vector Word 19
  gateRecords : Vector (Vector Word 12) 8
  schedules : Vector Schedule 4
deriving DecidableEq, Repr

/-- The orders of meeting events (notes/assumptions/1.md). `given` are orders fixed beforehand, taken first;
`State.reset` fixes none. `count` counts the orders read from `Config.order`. The model's own, not the spec's. -/
structure Orders where
  given : List Nat
  count : Nat
deriving DecidableEq, Repr

/-- The state of the part and the queue of commands that wait for it. -/
structure State where
  ring : RingInterface
  pass : PassFilter
  levels : LevelUnit
  /-- The forced-index state: FORCED with a value 0..63, or RELEASED (R68). -/
  forcedIndex : Option Nat
  gates : Vector Gate 8
  hoists : Vector Hoist 16
  post : PostUnit
  monitor : Monitor
  sup : Supervisor
  req : RequestUnit
  store : TableStore
  orders : Orders
  /-- The commands that wait, first in, first out (notes/assumptions/22.md). The model's own, not the spec's. -/
  pending : List Instr
deriving DecidableEq, Repr

/-- Why the part would stop with a fault. EMPTY: the manual gives every command an effect in every state, so no
meaning raises a fault. Safe: nothing is cut off (notes/assumptions/17.md). -/
inductive Fault
deriving DecidableEq, Repr

/-- Why a command would be refused. -/
inductive Refusal
  /-- A command of the table without a meaning. Raised by no arm of `exec`: every row has its meaning. Safe. -/
  | notModelled (mnemonic : String)
deriving DecidableEq, Repr

/-! ### Views and updates -/

/-- Gate `g`. -/
def State.gate (s : State) (g : GateNo) : Gate := s.gates[g.val]

/-- Hoist `h`. -/
def State.hoist (s : State) (h : HoistNo) : Hoist := s.hoists[h.val]

/-- Change gate `g` alone. -/
def State.onGate (s : State) (g : GateNo) (f : Gate → Gate) : State :=
  { s with gates := s.gates.set g.val (f (s.gate g)) }

/-- Change hoist `h` alone. -/
def State.onHoist (s : State) (h : HoistNo) (f : Hoist → Hoist) : State :=
  { s with hoists := s.hoists.set h.val (f (s.hoist h)) }

def State.onRing (s : State) (f : RingInterface → RingInterface) : State := { s with ring := f s.ring }
def State.onPass (s : State) (f : PassFilter → PassFilter) : State := { s with pass := f s.pass }
def State.onLevels (s : State) (f : LevelUnit → LevelUnit) : State := { s with levels := f s.levels }
def State.onPost (s : State) (f : PostUnit → PostUnit) : State := { s with post := f s.post }
def State.onMonitor (s : State) (f : Monitor → Monitor) : State := { s with monitor := f s.monitor }
def State.onSup (s : State) (f : Supervisor → Supervisor) : State := { s with sup := f s.sup }
def State.onReq (s : State) (f : RequestUnit → RequestUnit) : State := { s with req := f s.req }
def State.onStore (s : State) (f : TableStore → TableStore) : State := { s with store := f s.store }

/-! ### Hard-reset values -/

/-- No outcome true, or no flag set. -/
def Quad.clear : Quad := ⟨false, false, false, false⟩

def Channel.reset : Channel := ⟨.noData, 0, false, false, none⟩

def Side.reset : Side := ⟨.noData, 0, false, false, false⟩

/-- A hard reset clears `occupied` and `resumed` "and leaves the other fields without meaning" (R159): they are
given values here, DESIGN CHOICE (notes/assumptions/4.md). -/
def SaveRecord.reset : SaveRecord :=
  ⟨false, false, .overload, 0#8, .idle, 0, .creep, .unset, 0, 0, .pending⟩

def Gate.reset : Gate :=
  ⟨.off, .idle, 0, [], none, none, false, false, false, none, none, SaveRecord.reset, false⟩

def Hoist.reset : Hoist :=
  ⟨0, 0, .still, false, none, none, none, false, false, none, ⟨Quad.clear, Quad.clear⟩⟩

/-- Every row 0, length 0. The active image's rows beyond its length are named by no rule at a hard reset: 0,
DESIGN CHOICE (notes/assumptions/4.md). -/
def PassImage.reset : PassImage := ⟨0, Vector.replicate 96 0#16⟩

def ScheduleImage.reset : ScheduleImage := ⟨Vector.replicate 6 0#16, Vector.replicate 64 0#16⟩

/-- The defaults of the Control Record (R184): notice destination the commissioning address, no channel bound, age
limits 5 s, agree limit 50 mm, FRE 1 and ABANDON (row 8), N 2 and retry limit 4 (row 9), 100 ms, 1000 ms, 10 s,
30 s, every group of the fault mask disabled. -/
def controlReset (caddr : Byte) : Vector Word 16 :=
  #v[caddr.setWidth 16, 0#16, 0#16, 0#16, 0#16, 5#16, 5#16, 50#16, 0b1001#16, 0b010010#16, 100#16, 1000#16, 10#16,
    30#16, 0#16, 0#16]

/-- The Station Class table: all NONE, but the commissioning address ENGINEER (R177). -/
def stationsReset (caddr : Byte) : Vector Word 254 :=
  (Vector.replicate 254 0#16).setIfInBounds (caddr.toNat - 1) 3#16

/-- The Threshold Set (R143): HA and HW 32767, LW and LA -32768 in each of the four classes, every latch LIVE,
settle interval 3000 ms. -/
def thresholdsReset : Vector Word 19 :=
  #v[0x7FFF#16, 0x7FFF#16, 0x8000#16, 0x8000#16, 0x7FFF#16, 0x7FFF#16, 0x8000#16, 0x8000#16,
    0x7FFF#16, 0x7FFF#16, 0x8000#16, 0x8000#16, 0x7FFF#16, 0x7FFF#16, 0x8000#16, 0x8000#16, 0#16, 0#16, 3000#16]

def storeReset (caddr : Byte) : TableStore where
  control := controlReset caddr
  access := Vector.replicate 14 0#16
  stations := stationsReset caddr
  hoistMap := Vector.replicate 16 0#16
  passPending := PassImage.reset
  passActive := PassImage.reset
  thresholds := thresholdsReset
  gateRecords := Vector.replicate 8 (Vector.replicate 12 0#16)
  schedules := Vector.replicate 4 ⟨ScheduleImage.reset, ScheduleImage.reset⟩

/-- Every block at the value its chapter's "Hard reset" column gives, before the RESET-DONE notice is offered:
own address `own`, commissioning address `caddr`, the HOLD line as it stands. -/
def State.hardResetValues (own caddr : Byte) (hold : Bool) : State where
  ring := ⟨own, caddr, [], .idle, 0, 0, 0⟩
  pass := ⟨[], false⟩
  levels := ⟨Channel.reset, Channel.reset, Channel.reset, Channel.reset, Side.reset, Side.reset, 0⟩
  forcedIndex := none
  gates := Vector.replicate 8 Gate.reset
  hoists := Vector.replicate 16 Hoist.reset
  post := ⟨0#8, []⟩
  monitor := ⟨⟨Quad.clear, Quad.clear⟩, ⟨Quad.clear, Quad.clear⟩, ⟨Quad.clear, Quad.clear⟩, false⟩
  sup := ⟨.run, .unset, none, none, false, hold, false⟩
  req := ⟨[], none, [], false, false⟩
  store := storeReset caddr
  orders := ⟨[], 0⟩
  pending := []

/-- The RESET-DONE notice of kind HARD as it stands on RING-OUT after the reset of `State.reset` (R176): to the
commissioning address, tag 1 (R129), outcome YES, no gate cut off, with its check word (R190). -/
def resetDoneFrame : Frame :=
  ⟨Config.caddrStraps, Config.saddrStraps, 7#4, 1#8, [0x0700#16, 1#16, 0#16], 0xE91E#16⟩

/-- The machine right after a hard reset with the straps of `Config` and the HOLD line negated: every block at its
hard-reset value, and the RESET-DONE notice of kind HARD, "the first frame the part sends after the reset"
(R176), built with tag 1 and granted to the idle RING-OUT at once (R16). It is what HARD_RESET gives
(`Sys2Proof.Tests`; notes/assumptions/2.md). -/
def State.reset : State :=
  { State.hardResetValues Config.saddrStraps Config.caddrStraps false with
    ring := ⟨Config.saddrStraps, Config.caddrStraps, [], .report resetDoneFrame, 0, 0, 0⟩
    post := ⟨1#8, []⟩ }

end Sys2Proof.Machine
end

