-- ==== Sys2Proof/Machine/Operands.lean ====
section
/-!
DEFINITION. What the bits of frames and table rows mean (chapter Frame Layouts, 11_frame_layouts.md): fields,
codes, payload layouts, row addresses, and the fields of the Control Record, the gate records, the schedules and
the Pass Table.
-/

namespace Sys2Proof.Machine

/-! ### Bit fields -/

/-- The field of `n` bits whose lowest bit is bit `lo`. -/
def field (w : Word) (lo n : Nat) : Nat := w.toNat / 2 ^ lo % 2 ^ n

/-- A word built of fields, each given by its value and its lowest bit; every other bit is 0 (R191). -/
def pack (fields : List (Nat × Nat)) : Word :=
  BitVec.ofNat 16 (fields.foldl (fun acc f => acc + f.1 * 2 ^ f.2) 0)

/-- One bit of a packed word. -/
def flag (b : Bool) : Nat := if b then 1 else 0

/-- A number as a word, two's complement (11_frame_layouts.md). -/
def word (i : Int) : Word := BitVec.ofInt 16 i

/-- The low byte of a word that holds an address. -/
def addressOf (w : Word) : Byte := BitVec.ofNat 8 w.toNat

/-- Clamped to `lo..hi` (00_scope.md, Arithmetic). -/
def clamp (lo hi x : Int) : Int := if x < lo then lo else if hi < x then hi else x

/-- A count that saturates at 65535 (00_scope.md, Arithmetic). -/
def bump (n : Nat) : Nat := if n < 65535 then n + 1 else 65535

/-- A row that holds a saturating write count (R81, R178). -/
def bumpWord (w : Word) : Word := if w = 0xFFFF#16 then w else w + 1

/-! ### Codes (11.4, 11.3) -/

def Mode.code : Mode → Nat
  | .off => 0 | .hold => 1 | .manual => 2 | .auto => 3 | .flood => 4

def Motion.code : Motion → Nat
  | .idle => 0 | .moving => 1 | .trim => 2 | .stopping => 3 | .faultStopping => 4 | .faulted => 5

def Speed.code : Speed → Nat
  | .creep => 1 | .normal => 2 | .fast => 3

/-- The speed a gate record or a MOVE setpoint names. Code 0 is no speed; a VALID record holds none (R82), and 0
is read as CREEP (notes/assumptions/4.md). -/
def speedOfCode (n : Nat) : Speed :=
  if n = 3 then .fast else if n = 2 then .normal else .creep

/-- The speed class of an order's extension: 0 is the gate's default (R102). -/
def speedOfOrder (n : Nat) : Option Speed := if n = 0 then none else some (speedOfCode n)

def Origin.code : Origin → Nat
  | .unset => 0 | .order _ _ => 1 | .auto => 2 | .flood => 3 | .closure => 4

def Cause.code : Cause → Nat
  | .overload => 0 | .slack => 1 | .skew => 2 | .driveFault => 3 | .driveSilent => 4
  | .moveTimeout => 5 | .stopTimeout => 6 | .localTakeover => 7

def Recoverable.code : Recoverable → Nat
  | .pending => 0 | .yes => 1 | .no => 2

def ChannelState.code : ChannelState → Nat
  | .noData => 0 | .fresh => 1 | .aged => 2 | .faulted => 3

def SideState.code : SideState → Nat
  | .noData => 0 | .valid => 1 | .stale => 2

def Drive.code : Drive → Nat
  | .still => 0 | .running => 1 | .fault => 2 | .takenLocal => 3

def Device.code : Device → Nat
  | .run => 0 | .drain => 1 | .lockout => 2

def LockoutCause.code : LockoutCause → Nat
  | .unset => 0 | .responseOff => 1 | .recoveryFault => 2 | .stopFailed => 3

def Command.code : Command → Nat
  | .move => 1 | .stop => 2

/-- The phase of a slot, 0 for an empty one. -/
def slotPhaseCode : Option Slot → Nat
  | none => 0
  | some sl => match sl.phase with
    | .waiting => 1 | .sending => 2 | .sent => 3

def modeOfCode (n : Nat) : Option Mode :=
  match n with
  | 0 => some .off | 1 => some .hold | 2 => some .manual | 3 => some .auto | 4 => some .flood | _ => none

def driveOfCode (n : Nat) : Option Drive :=
  match n with
  | 0 => some .still | 1 => some .running | 2 => some .fault | 3 => some .takenLocal | _ => none

/-! ### Frames (11.1, R5, R190) -/

def kindSample : BitVec 4 := 1#4
def kindHoistStatus : BitVec 4 := 2#4
def kindSetpoint : BitVec 4 := 3#4
def kindOrder : BitVec 4 := 4#4
def kindManage : BitVec 4 := 5#4
def kindReply : BitVec 4 := 6#4
def kindNotice : BitVec 4 := 7#4

/-- The broadcast address. -/
def broadcast : Byte := 255#8

/-- The words before the check word. -/
def Frame.body (f : Frame) : List Word :=
  pack [(f.dest.toNat, 8), (f.src.toNat, 0)]
    :: pack [(f.kind.toNat, 12), (f.payload.length, 8), (f.tag.toNat, 0)] :: f.payload

/-- The words of a frame as they stand on the ring. -/
def Frame.words (f : Frame) : List Word := f.body ++ [f.check]

/-- One bit of the check: the register's bit 15 is compared with the data bit, the register is shifted, and on a
difference combined with the pattern of x^12 + x^5 + 1 (R190). -/
def crcBit (r : Word) (d : Bool) : Word :=
  if r.getLsbD 15 = d then r <<< 1 else (r <<< 1) ^^^ 0x1021#16

/-- The bits of one word, from bit 15 to bit 0 (R190). -/
def crcWord (r w : Word) : Word :=
  [15, 14, 13, 12, 11, 10, 9, 8, 7, 6, 5, 4, 3, 2, 1, 0].foldl (fun acc i => crcBit acc (w.getLsbD i)) r

/-- The check word over the words before it (R190). -/
def checkWord (ws : List Word) : Word := ws.foldl crcWord 0xFFFF#16

/-- A frame is well-formed when the bits are a whole number of words, there are at least three, and their number is
3 plus the payload length field of word 1 (R5). -/
def parseFrame (ws : List Word) (strayBits : Nat) : Option Frame :=
  match ws with
  | w0 :: w1 :: rest =>
    if strayBits = 0 ∧ rest.length = field w1 8 4 + 1 then
      some { dest := BitVec.ofNat 8 (field w0 8 8)
             src := BitVec.ofNat 8 (field w0 0 8)
             kind := BitVec.ofNat 4 (field w1 12 4)
             tag := BitVec.ofNat 8 (field w1 0 8)
             payload := rest.take (field w1 8 4)
             check := rest.getD (field w1 8 4) 0#16 }
    else none
  | _ => none

/-- A well-formed frame whose check word is the check formed over the words before it (R6). -/
def checkedFrame (ws : List Word) (strayBits : Nat) : Option Frame :=
  match parseFrame ws strayBits with
  | some f => if checkWord f.body = f.check then some f else none
  | none => none

/-- The frame the Ring Interface sends for a frame of the part's own: the own address as source, and the check
computed over all words before it (R2). -/
def sealFrame (own : Byte) (o : OwnFrame) : Frame :=
  let f : Frame := ⟨o.dest, own, o.kind, o.tag, o.payload, 0#16⟩
  { f with check := checkWord f.body }

/-! ### Payloads the part reads (11.2) -/

/-- Word `i` of a payload, 0 where the payload ends before it. -/
def Frame.word (f : Frame) (i : Nat) : Word := f.payload.getD i 0#16

/-- A SAMPLE's payload (R38). -/
structure SampleData where
  fine : Int
  coarse : Int
  fineValid : Bool
  sensorFault : Bool
deriving DecidableEq, Repr

/-- `none` when the payload is shorter than 3 words (R38). -/
def readSample (f : Frame) : Option SampleData :=
  if 3 ≤ f.payload.length then
    some ⟨(f.word 0).toInt, (f.word 1).toInt, (f.word 2).getLsbD 0, (f.word 2).getLsbD 1⟩
  else none

/-- A HOIST-STATUS's payload (R126). -/
structure StatusData where
  position : Int
  load : Int
  drive : Drive
  ackTag : Byte
deriving DecidableEq, Repr

/-- `none` for a damaged status: too short, or a drive state code of 4..7 (R126, R191). -/
def readStatus (f : Frame) : Option StatusData :=
  if 3 ≤ f.payload.length then
    match driveOfCode (field (f.word 2) 8 3) with
    | some d => some ⟨(f.word 0).toInt, (f.word 1).toInt, d, BitVec.ofNat 8 (field (f.word 2) 0 8)⟩
    | none => none
  else none

/-- What POLICE reads of a SETPOINT: its command and target. `none` when the payload is too short to hold them or the
command code is neither MOVE nor STOP (R31). The target is compared with the travel window as a whole number. -/
def readSetpoint (f : Frame) : Option (Command × Int) :=
  if 2 ≤ f.payload.length then
    if field (f.word 0) 8 8 = 1 then some (.move, ((f.word 1).toNat : Int))
    else if field (f.word 0) 8 8 = 2 then some (.stop, ((f.word 1).toNat : Int))
    else none
  else none

/-- The payload of a SETPOINT the part builds (11.2), two words. -/
def setpointPayload (sp : Setpoint) : List Word :=
  [pack [(sp.command.code, 8), (sp.speed.code, 0)], word sp.target]

/-- The order code of an ORDER frame; `none` for a payload with no word 0. -/
def orderCode (f : Frame) : Option Nat :=
  if 1 ≤ f.payload.length then some (field (f.word 0) 8 8) else none

/-- The gate number of an order, 0..15 (R102). -/
def orderGate (f : Frame) : Nat := field (f.word 0) 0 4

/-- The MANAGE code; `none` for a payload with no word 0. -/
def manageCode (f : Frame) : Option Nat :=
  if 1 ≤ f.payload.length then some (field (f.word 0) 12 4) else none

/-- A request named by its table row (R180: MANAGE codes 1..11, ORDER codes 1..5). -/
inductive RequestName
  | setMode | moveTo | moveBy | stop | cancel
  | writeRows | readRows | setLength | activate | readState | clearFlags | clearGate | resumeGate
  | forceIndex | releaseIndex | softReset
deriving DecidableEq, Repr

/-- The request a frame of the intake FIFO names; `none` when its code is no listed one (R180, step 2). -/
def requestName (f : Frame) : Option RequestName :=
  if f.kind = kindOrder then
    match orderCode f with
    | some 1 => some .setMode
    | some 2 => some .moveTo
    | some 3 => some .moveBy
    | some 4 => some .stop
    | some 5 => some .cancel
    | _ => none
  else if f.kind = kindManage then
    match manageCode f with
    | some 1 => some .writeRows
    | some 2 => some .readRows
    | some 3 => some .setLength
    | some 4 => some .activate
    | some 5 => some .readState
    | some 6 => some .clearFlags
    | some 7 => some .clearGate
    | some 8 => some .resumeGate
    | some 9 => some .forceIndex
    | some 10 => some .releaseIndex
    | some 11 => some .softReset
    | _ => none
  else none

/-- A gate number 0..7. -/
def gateOfNat (n : Nat) : Option GateNo := if h : n < 8 then some ⟨n, h⟩ else none

/-! ### Gates and hoists -/

/-- Hoist 2g, the left hoist of gate g. -/
def leftHoist (g : GateNo) : HoistNo := ⟨2 * g.val, by omega⟩

/-- Hoist 2g+1, the right hoist of gate g. -/
def rightHoist (g : GateNo) : HoistNo := ⟨2 * g.val + 1, by omega⟩

/-- The gate of hoist h, h div 2. -/
def gateOf (h : HoistNo) : GateNo := ⟨h.val / 2, by omega⟩

/-- The gates in order of gate number. -/
def allGates : List GateNo := [0, 1, 2, 3, 4, 5, 6, 7]

/-- The hoists in order of hoist number. -/
def allHoists : List HoistNo := [0, 1, 2, 3, 4, 5, 6, 7, 8, 9, 10, 11, 12, 13, 14, 15]

/-! ### Rows and tables (10.3, 11.2) -/

/-- Row `r` of a table, 0 outside it. -/
def rowAt {n : Nat} (v : Vector Word n) (r : Nat) : Word := if h : r < n then v[r] else 0#16

/-- Store values in consecutive rows from row `start`; rows outside the table are left alone. -/
def storeRows {n : Nat} (v : Vector Word n) (start : Nat) : List Word → Vector Word n
  | [] => v
  | w :: ws => storeRows (v.setIfInBounds start w) (start + 1) ws

/-- The tables of the Table Store. -/
inductive Table
  | control | access | stations | hoistMap | pass | thresholds
  | gate (g : GateNo)
  | header (n : ScheduleNo)
  | rows (n : ScheduleNo)
deriving DecidableEq, Repr

/-- Capacity in rows (table of 10.3). -/
def Table.capacity : Table → Nat
  | .control => 16 | .access => 14 | .stations => 254 | .hoistMap => 16 | .pass => 96 | .thresholds => 19
  | .gate _ => 12 | .header _ => 6 | .rows _ => 64

/-- The table and the row that a row address names (R192); `none` in no table's range. -/
def tableOfAddress (a : Nat) : Option (Table × Nat) :=
  if a < 16 then some (.control, a)
  else if a < 30 then if 16 ≤ a then some (.access, a - 16) else none
  else if a < 32 then none
  else if a < 286 then some (.stations, a - 32)
  else if a < 288 then none
  else if a < 304 then some (.hoistMap, a - 288)
  else if a < 400 then some (.pass, a - 304)
  else if a < 419 then some (.thresholds, a - 400)
  else if a < 432 then none
  else if a < 560 then
    if (a - 432) % 16 < 12 then some (.gate (Fin.ofNat 8 ((a - 432) / 16)), (a - 432) % 16) else none
  else if a < 592 then
    if (a - 560) % 8 < 6 then some (.header (Fin.ofNat 4 ((a - 560) / 8)), (a - 560) % 8) else none
  else if a < 640 then none
  else if a < 896 then some (.rows (Fin.ofNat 4 ((a - 640) / 64)), (a - 640) % 64)
  else none

/-- The table a table identifier names (table of 10.3); 6, 7 and 24 to 31 name none. -/
def tableOfId (n : Nat) : Option Table :=
  if n = 0 then some .control
  else if n = 1 then some .access
  else if n = 2 then some .stations
  else if n = 3 then some .hoistMap
  else if n = 4 then some .pass
  else if n = 5 then some .thresholds
  else if 8 ≤ n ∧ n < 16 then some (.gate (Fin.ofNat 8 (n - 8)))
  else if 16 ≤ n ∧ n < 20 then some (.header (Fin.ofNat 4 (n - 16)))
  else if 20 ≤ n ∧ n < 24 then some (.rows (Fin.ofNat 4 (n - 20)))
  else none

/-- The access group of a table, as its row among the OBSERVER rights of the Access Record: PASS, HOISTMAP, GATES,
SCHEDULES, THRESHOLDS, CONTROL (R178). -/
def Table.group : Table → Nat
  | .pass => 0 | .hoistMap => 1 | .gate _ => 2 | .header _ => 3 | .rows _ => 3 | .thresholds => 4
  | .control => 5 | .access => 5 | .stations => 5

/-! ### The Control Record (R184, 11.4) -/

def noticeDest (t : Vector Word 16) : Byte := addressOf t[0]

/-- The station address a channel is bound to (R37). -/
def binding (t : Vector Word 16) : ChannelName → Byte
  | .u1 => addressOf t[1] | .u2 => addressOf t[2] | .d1 => addressOf t[3] | .d2 => addressOf t[4]

/-- The age limit of the channel's side, in milliseconds (R41). -/
def ageLimit (t : Vector Word 16) : ChannelName → Nat
  | .u1 => t[5].toNat * 1000 | .u2 => t[5].toNat * 1000 | .d1 => t[6].toNat * 1000 | .d2 => t[6].toNat * 1000

def agreeLimit (t : Vector Word 16) : Int := t[7].toNat

/-- Fault response enable. -/
def faultResponse (t : Vector Word 16) : Bool := t[8].getLsbD 0
def floodOnPoolAlarm (t : Vector Word 16) : Bool := t[8].getLsbD 1
/-- The default pass action is DROP. -/
def defaultDrop (t : Vector Word 16) : Bool := t[8].getLsbD 2
/-- The exhaustion action is ABANDON. -/
def abandonAction (t : Vector Word 16) : Bool := t[8].getLsbD 3

/-- Rotation N. -/
def rotation (t : Vector Word 16) : Nat := field t[9] 0 2

def retryLimit (t : Vector Word 16) : Nat :=
  match field t[9] 4 2 with
  | 0 => 2 | 1 => 4 | 2 => 16 | _ => 64

def ackTimeout (t : Vector Word 16) : Nat := t[10].toNat
def refreshInterval (t : Vector Word 16) : Nat := t[11].toNat
/-- In milliseconds. -/
def stopTimeout (t : Vector Word 16) : Nat := t[12].toNat * 1000
/-- In milliseconds. -/
def drainLimit (t : Vector Word 16) : Nat := t[13].toNat * 1000

/-! ### Gate records (R81) -/

/-- The gate record in force. -/
def State.record (s : State) (g : GateNo) : Vector Word 12 := s.store.gateRecords[g.val]

def recordSchedule (r : Vector Word 12) : ScheduleNo := Fin.ofNat 4 r[0].toNat
def trimOffset (r : Vector Word 12) : Int := r[1].toInt
def lowerLimit (r : Vector Word 12) : Int := r[2].toNat
def upperLimit (r : Vector Word 12) : Int := r[3].toNat
def defaultSpeed (r : Vector Word 12) : Speed := speedOfCode r[4].toNat
def arrivalTolerance (r : Vector Word 12) : Int := r[5].toNat
def trimThreshold (r : Vector Word 12) : Int := r[6].toNat
def trimRelease (r : Vector Word 12) : Int := r[7].toNat
def skewAlarm (r : Vector Word 12) : Int := r[8].toNat
/-- In milliseconds. -/
def moveTimeLimit (r : Vector Word 12) : Nat := r[9].toNat * 1000
def recordValid (r : Vector Word 12) : Bool := r[10] = 1#16

/-! ### Schedules (R57) -/

def State.schedule (s : State) (n : ScheduleNo) : Schedule := s.store.schedules[n.val]

def scheduleLength (i : ScheduleImage) : Nat := i.header[0].toNat
def poolSetpoint (i : ScheduleImage) : Int := i.header[1].toInt
def gain (i : ScheduleImage) : Int := i.header[2].toNat
def correctionLimit (i : ScheduleImage) : Int := i.header[3].toNat
def headMargin (i : ScheduleImage) : Int := i.header[4].toNat
def deadband (i : ScheduleImage) : Int := i.header[5].toNat
/-- The base opening of a stage index. -/
def baseRow (i : ScheduleImage) (k : Nat) : Int := (rowAt i.rows k).toNat

/-! ### Pass Table entries (R22, 11.4) -/

inductive PassAction
  | forward | snoop | drop | police
deriving DecidableEq, Repr

structure PassEntry where
  source : Byte
  low : Nat
  high : Nat
  kinds : Word
  /-- `none` for a code outside the four actions. -/
  action : Option PassAction
deriving DecidableEq, Repr

def passActionOfCode (n : Nat) : Option PassAction :=
  match n with
  | 0 => some .forward | 1 => some .snoop | 2 => some .drop | 3 => some .police | _ => none

/-- Entry `e` of an image: rows 3e, 3e+1 and 3e+2. -/
def passEntry (i : PassImage) (e : Nat) : PassEntry :=
  { source := BitVec.ofNat 8 (field (rowAt i.rows (3 * e)) 0 8)
    low := field (rowAt i.rows (3 * e + 1)) 0 8
    high := field (rowAt i.rows (3 * e + 1)) 8 8
    kinds := rowAt i.rows (3 * e + 2)
    action := passActionOfCode (field (rowAt i.rows (3 * e)) 8 3) }

/-! ### The Hoist Map (R85) and the Station Class table (R177) -/

/-- The drive station of hoist `h`; 0 leaves it unmapped. -/
def State.driveOf (s : State) (h : HoistNo) : Byte := addressOf s.store.hoistMap[h.val]

inductive StationClass
  | unheard | observer | operator | engineer
deriving DecidableEq, Repr

def stationClassOfCode (n : Nat) : StationClass :=
  match n with
  | 1 => .observer | 2 => .operator | 3 => .engineer | _ => .unheard

/-- The class of a station address 1..254: row `address - 1` of the Station Class table (R177). -/
def State.classOf (s : State) (a : Byte) : StationClass :=
  if a = 0#8 then .unheard else stationClassOfCode (rowAt s.store.stations (a.toNat - 1)).toNat

/-- A source is a mapped level station (R10). -/
def State.isLevelStation (s : State) (a : Byte) : Bool :=
  a ≠ 0#8 && [ChannelName.u1, .u2, .d1, .d2].any (fun c => binding s.store.control c = a)

/-- The hoists mapped to an address other than 0, in order of hoist number (R10). -/
def State.hoistsAt (s : State) (a : Byte) : List HoistNo :=
  if a = 0#8 then [] else allHoists.filter (fun h => s.driveOf h = a)

end Sys2Proof.Machine
end

