-- ==== Sys2Proof/Machine/Flags.lean ====
section
/-!
DEFINITION. The Threshold Set, comparisons, flags and the FAULT line (08_threshold_monitoring.md).
-/

namespace Sys2Proof.Machine

/-- The classes of the Threshold Set, numbered as R143 numbers them. -/
inductive ThresholdClass
  | levelU | levelD | head | load
deriving DecidableEq, Repr

def ThresholdClass.code : ThresholdClass → Nat
  | .levelU => 0 | .levelD => 1 | .head => 2 | .load => 3

def thresholdClassOfNat (n : Nat) : Option ThresholdClass :=
  match n with
  | 0 => some .levelU | 1 => some .levelD | 2 => some .head | 3 => some .load | _ => none

/-- Row 4c + k of the Threshold Set: kind k is 0 HA, 1 HW, 2 LW, 3 LA (R143). -/
def threshold (t : Vector Word 19) (c : ThresholdClass) (k : Nat) : Int := (rowAt t (4 * c.code + k)).toInt

def alarmLatched (t : Vector Word 19) (c : ThresholdClass) : Bool := t[16].getLsbD c.code
def warningLatched (t : Vector Word 19) (c : ThresholdClass) : Bool := t[17].getLsbD c.code
/-- In milliseconds. -/
def settleInterval (t : Vector Word 19) : Nat := t[18].toNat

/-- The four outcomes of a comparison, each strict (R146); `inhibited` takes LW and LA as false (R150). -/
def compareValue (t : Vector Word 19) (c : ThresholdClass) (value : Int) (inhibited : Bool) : Quad :=
  { ha := decide (threshold t c 0 < value)
    hw := decide (threshold t c 1 < value)
    lw := !inhibited && decide (value < threshold t c 2)
    la := !inhibited && decide (value < threshold t c 3) }

/-- A flag after a comparison: LIVE follows the outcome, LATCHED is set by a true one and kept by a false one
(R147). -/
def flagAfter (latched outcome now : Bool) : Bool := outcome || (latched && now)

/-- The four flags of a quantity after a comparison (R147). -/
def flagsAfter (t : Vector Word 19) (c : ThresholdClass) (o now : Quad) : Quad :=
  { ha := flagAfter (alarmLatched t c) o.ha now.ha
    hw := flagAfter (warningLatched t c) o.hw now.hw
    lw := flagAfter (warningLatched t c) o.lw now.lw
    la := flagAfter (alarmLatched t c) o.la now.la }

/-- Flag or outcome of kind 0 HA, 1 HW, 2 LW, 3 LA. -/
def Quad.kind (q : Quad) (k : Nat) : Bool :=
  match k with
  | 0 => q.ha | 1 => q.hw | 2 => q.lw | _ => q.la

/-- The four flags or outcomes as a number, HA highest (threshold section of 11.3). -/
def Quad.code (q : Quad) : Nat := flag q.ha * 8 + flag q.hw * 4 + flag q.lw * 2 + flag q.la

/-- Whether the fault mask enables the group of a class and kind: bit 4c + k of row 14 (11.4). -/
def groupEnabled (t : Vector Word 16) (c : ThresholdClass) (k : Nat) : Bool := t[14].getLsbD (4 * c.code + k)

/-- A threshold group of the fault mask is set while a flag it gathers is set; LOAD pools the 16 hoists (R153). -/
def State.thresholdGroupSet (s : State) (c : ThresholdClass) (k : Nat) : Bool :=
  match c with
  | .levelU => s.monitor.up.flags.kind k
  | .levelD => s.monitor.down.flags.kind k
  | .head => s.monitor.head.flags.kind k
  | .load => allHoists.any (fun h => (s.hoist h).monitor.flags.kind k)

/-- The gate is in FAULT-STOPPING or FAULTED. -/
def Gate.faulty (x : Gate) : Bool := x.motion = .faultStopping || x.motion = .faulted

/-- The stale flag of a side (R44). -/
def Side.stale (x : Side) : Bool := x.state = .stale

/-- The five further groups, by their bits in row 15 (R153, 11.4). -/
def State.furtherGroupSet (s : State) (k : Nat) : Bool :=
  match k with
  | 0 => allGates.any (fun g => (s.gate g).faulty)
  | 1 => s.levels.up.stale || s.levels.down.stale
  | 2 => s.levels.up.disagree || s.levels.down.disagree
  | 3 => allHoists.any (fun h => (s.hoist h).exhausted)
  | _ => s.pass.policedDrop

/-- At least one enabled group is set (R154). -/
def State.faultDemanded (s : State) : Bool :=
  [ThresholdClass.levelU, .levelD, .head, .load].any (fun c =>
      [0, 1, 2, 3].any (fun k => groupEnabled s.store.control c k && s.thresholdGroupSet c k))
    || [0, 1, 2, 3, 4].any (fun k => (s.store.control[15]).getLsbD k && s.furtherGroupSet k)

/-- The FAULT line recomputed (R154). -/
def updateFaultLine (s : State) : State := s.onMonitor (fun m => { m with faultLine := s.faultDemanded })

end Sys2Proof.Machine
end

