-- ==== Sys2Proof/Machine/Ops.lean ====
section
/-!
DEFINITION. The operations the meanings share: the ring-out arbiter, notices and replies, posts, slots and timers of
a hoist, the drain's conditions, and the start of a request's execution.
-/

namespace Sys2Proof.Machine

/-! ### The order of meeting events -/

/-- One of `n` orders, from the free value (notes/assumptions/1.md). -/
def chooseOrder (n : Nat) (s : State) : Nat × State :=
  match s.orders.given with
  | c :: cs => (c % n, { s with orders := { s.orders with given := cs } })
  | [] => (Config.order s.orders.count % n, { s with orders := { s.orders with count := s.orders.count + 1 } })

/-- A list in an order taken from the free value: `fuel` is its length. A list of fewer than two takes none. -/
def drawOrder {α : Type} : Nat → List α → State → List α × State
  | 0, xs, s => (xs, s)
  | fuel + 1, xs, s =>
    if xs.length < 2 then (xs, s)
    else
      let c := chooseOrder xs.length s
      match xs[c.1]? with
      | none => (xs, s)
      | some x =>
        let r := drawOrder fuel (xs.eraseIdx c.1) c.2
        (x :: r.1, r.2)

/-! ### The ring-out arbiter (R16 to R18) -/

/-- What the report FIFO offers: its oldest entry, unless that is a reservation not yet filled (R187). -/
def offeredReport (r : List ReportEntry) : Option OwnFrame :=
  match r with
  | .reply f :: _ => some f
  | .notice f :: _ => some f
  | _ => none

/-- An own frame waits for RING-OUT. One that stands behind an unfilled reservation is not offered (R187) and does not
wait here: DESIGN CHOICE (notes/assumptions/24.md). -/
def State.ownWaiting (s : State) : Bool := !s.post.queue.isEmpty || (offeredReport s.req.report).isSome

/-- Grant the head of the transit FIFO. -/
def grantTransit (count : Nat) (s : State) : State :=
  match s.ring.transit with
  | f :: rest => s.onRing (fun r => { r with transit := rest, out := .transit f, consecutive := count })
  | [] => s

/-- The SETPOINT frame of an occupied slot (R128). -/
def Slot.frame (sl : Slot) : OwnFrame := ⟨sl.dest, kindSetpoint, sl.tag, setpointPayload sl.setpoint⟩

/-- Grant an own frame: the head of the post queue, whose slot goes to SENDING, or otherwise the head of the report
FIFO, whose entry is freed (R18, R133). -/
def grantOwn (s : State) : State :=
  match s.post.queue with
  | h :: rest =>
    match (s.hoist h).slot with
    | some sl =>
      ((s.onPost (fun p => { p with queue := rest })).onHoist h
          (fun x => { x with slot := some { sl with phase := .sending } })).onRing
        (fun r => { r with out := .post h (sealFrame r.own sl.frame), consecutive := 0 })
    | none => s.onPost (fun p => { p with queue := rest })
  | [] =>
    match offeredReport s.req.report with
    | some f =>
      (s.onReq (fun q => { q with report := q.report.tail })).onRing
        (fun r => { r with out := .report (sealFrame r.own f), consecutive := 0 })
    | none => s

/-- The arbiter's choice (table of R17). -/
def grant (s : State) : State :=
  if s.ring.transit.isEmpty then
    if s.ownWaiting then grantOwn s else s.onRing (fun r => { r with consecutive := 0 })
  else if !s.ownWaiting then grantTransit 0 s
  else if rotation s.store.control = 0 then grantTransit 0 s
  else if s.ring.consecutive < rotation s.store.control then grantTransit (s.ring.consecutive + 1) s
  else grantOwn s

/-- A frame has become ready: the arbiter chooses when RING-OUT is IDLE (R16), at the frame's own joining
(notes/assumptions/10.md). -/
def arbitrate (s : State) : State :=
  match s.ring.out with
  | .idle => grant s
  | _ => s

/-- Whether the post queue or the report FIFO holds a frame, one behind an unfilled reservation among them: DESIGN
CHOICE (notes/assumptions/24.md). -/
def State.holdsOwnFrame (s : State) : Bool :=
  !s.post.queue.isEmpty || s.req.report.any (fun e => e ≠ .reserved)

/-- When an own frame has left without a grant and none is held any longer, the consecutive-transit count is 0 (R17;
notes/assumptions/24.md). -/
def settleRotation (s : State) : State :=
  if s.holdsOwnFrame then s else s.onRing (fun r => { r with consecutive := 0 })

/-! ### Tags, notices and replies (R129, R187, R188) -/

/-- 0 to 254 becomes that value plus one, and 255 becomes 1 (R129). -/
def nextTag (t : Byte) : Byte := if t = 255#8 then 1#8 else t + 1

def takeTag (s : State) : State := s.onPost (fun p => { p with tagCounter := nextTag p.tagCounter })

/-- How many notices the report FIFO holds. -/
def noticeCount (r : List ReportEntry) : Nat :=
  r.countP (fun e => match e with
    | .notice _ => true
    | _ => false)

/-- Offer a notice: dropped unbuilt while the notice destination is 0 (R188); otherwise built with a tag, and placed
at the tail of the report FIFO when it holds fewer than 12 notices and has a free entry, or else discarded with
NOTICE-LOST set (R187). -/
def offerNotice (dest : Byte) (payload : List Word) (s : State) : State :=
  if noticeDest s.store.control = 0#8 then s
  else
    let s1 := takeTag s
    if noticeCount s1.req.report < 12 ∧ s1.req.report.length < 16 then
      arbitrate (s1.onReq (fun q =>
        { q with report := q.report ++ [.notice ⟨dest, kindNotice, s1.post.tagCounter, payload⟩] }))
    else s1.onReq (fun q => { q with noticeLost := true })

/-- Word 0 of a notice: its code, and the gate or side (11.3). -/
def noticeHead (code gateByte : Nat) : Word := pack [(code, 8), (gateByte, 0)]

/-- Offer a notice addressed to the notice destination. -/
def notify (payload : List Word) (s : State) : State := offerNotice (noticeDest s.store.control) payload s

/-- Result codes of a REPLY (11.3). -/
inductive Result
  | done | access | malformed | range | busy | full | mode | notValid | locked | held | notFaulted
  | notRecoverable | standing
deriving DecidableEq, Repr

def Result.code : Result → Nat
  | .done => 0 | .access => 1 | .malformed => 2 | .range => 3 | .busy => 4 | .full => 5 | .mode => 6
  | .notValid => 7 | .locked => 8 | .held => 9 | .notFaulted => 10 | .notRecoverable => 11 | .standing => 12

/-- What a request is answered: its result, BEYOND, the section field (bits 14-8) and the data (11.3). -/
structure Answer where
  result : Result
  beyond : Bool := false
  sectionBits : Nat := 0
  data : List Word := []
deriving DecidableEq, Repr

/-- A refusal carries no data (R180). -/
def refuse (r : Result) : Answer := { result := r }

def Answer.payload (a : Answer) : List Word :=
  pack [(flag a.beyond, 15), (a.sectionBits, 8), (a.result.code, 0)] :: a.data

/-- Put a frame in the place of the oldest reservation (there is at most one, R180). -/
def fillReservation (f : OwnFrame) : List ReportEntry → List ReportEntry
  | [] => []
  | .reserved :: rest => .reply f :: rest
  | e :: rest => e :: fillReservation f rest

/-- Take the reservation away (R180, step 1). -/
def dropReservation : List ReportEntry → List ReportEntry
  | [] => []
  | .reserved :: rest => rest
  | e :: rest => e :: dropReservation rest

/-- Place the reply to `f` in its reserved entry: to its source, with its tag (R180, R187). -/
def placeReply (f : Frame) (a : Answer) (s : State) : State :=
  arbitrate (s.onReq (fun q => { q with report := fillReservation ⟨f.src, kindReply, f.tag, a.payload⟩ q.report }))

/-- A source of class NONE is not answered: its reservation is released (R180, step 1). The frames behind it are then
offered (R187), and the arbiter chooses at once when RING-OUT is IDLE: DESIGN CHOICE (notes/assumptions/25.md). -/
def releaseReservation (s : State) : State :=
  arbitrate (settleRotation (s.onReq (fun q => { q with report := dropReservation q.report })))

/-! ### The start of an execution (R180) -/

/-- The head of the intake FIFO may be executed: none is under way and the report FIFO has a free entry. -/
def State.mayExecute (s : State) : Bool :=
  !s.req.intake.isEmpty && s.req.executing.isNone && s.req.report.length < 16

/-- The head leaves the intake FIFO and a report entry is reserved for its reply. -/
def startExecution (s : State) : State :=
  match s.req.intake with
  | f :: rest =>
    s.onReq (fun q => { q with intake := rest, executing := some f, report := q.report ++ [.reserved] })
  | [] => s

/-- The execution is over. -/
def endExecution (s : State) : State := s.onReq (fun q => { q with executing := none })

/-- A frame that names no request of the table is decided when its execution starts: discarded when its source's
class is NONE, and otherwise answered MALFORMED (R180, steps 1 and 2; notes/assumptions/3.md). -/
def answerUnlisted (f : Frame) (s : State) : State :=
  endExecution (if s.classOf f.src = .unheard then releaseReservation s else placeReply f (refuse .malformed) s)

/-- The chance for the next execution (R180). Frames that name no request are answered on the way; `fuel` bounds
how many. -/
def nextExecution : Nat → State → State
  | 0, s => s
  | fuel + 1, s =>
    if s.mayExecute then
      match s.req.intake with
      | f :: _ =>
        if (requestName f).isSome then startExecution s
        else nextExecution fuel (answerUnlisted f (startExecution s))
      | [] => s
    else s

/-- What every command ends with: the chance for an execution when an entry was freed (R180), and the FAULT line
recomputed (R154; notes/assumptions/15.md). -/
def settle (s : State) : State := updateFaultLine (nextExecution (s.req.intake.length + 1) s)

/-! ### The drain's conditions (R174) -/

/-- Every gate not in mode OFF is IDLE or FAULTED, and every post slot is empty. -/
def State.drained (s : State) : Bool :=
  allGates.all (fun g =>
      (s.gate g).mode = .off || (s.gate g).motion = .idle || (s.gate g).motion = .faulted)
    && allHoists.all (fun h => (s.hoist h).slot.isNone)

/-- The test made in DRAIN: when the conditions hold, the drain is fulfilled and its timer stopped; its completion is
the event DRAIN_COMPLETION (R174; notes/assumptions/5.md). -/
def testDrain (s : State) : State :=
  if s.sup.device = .drain && s.drained then
    s.onSup (fun x => { x with drainFulfilled := true, drainTimer := none })
  else s

/-! ### Posts and slots (R131, R132, R134, R141) -/

/-- The phase of a hoist's slot. -/
def Hoist.phase (x : Hoist) : Option Phase :=
  match x.slot with
  | some sl => some sl.phase
  | none => none

/-- A MOVE is not placed in LOCKOUT or DRAIN, nor for a hoist whose gate is OFF (R131). -/
def State.mayPost (s : State) (h : HoistNo) (c : Command) : Bool :=
  c = .stop || (s.sup.device = .run && (s.gate (gateOf h)).mode ≠ .off)

/-- Place a post: a new tag, the slot occupied or merged with tries 0 in phase WAITING, the last-posted setpoint the
one posted. The frame of a slot that was WAITING keeps its place in the post queue; any other joins its tail
(R131, R132). -/
def placePost (h : HoistNo) (sp : Setpoint) (s : State) : State :=
  let s1 := takeTag s
  let s2 := if (s.hoist h).phase = some .waiting then s1 else s1.onPost (fun p => { p with queue := p.queue ++ [h] })
  arbitrate (s2.onHoist h (fun x =>
    { x with slot := some ⟨sp, s.driveOf h, s1.post.tagCounter, 0, .waiting, none⟩, lastPosted := some sp }))

/-- A post handed to the Hoist Interface (R131). -/
def post (h : HoistNo) (sp : Setpoint) (s : State) : State :=
  if s.mayPost h sp.command then placePost h sp s else s

/-- The STOP setpoint of a hoist: the position its record holds at the post, CREEP (R128). -/
def stopSetpoint (x : Hoist) : Setpoint := ⟨.stop, x.position, .creep⟩

def postStop (h : HoistNo) (s : State) : State := post h (stopSetpoint (s.hoist h)) s

/-- STOP to both hoists of a gate, the left first (R129). -/
def postStops (g : GateNo) (s : State) : State := postStop (rightHoist g) (postStop (leftHoist g) s)

def moveSetpoint (target : Int) (speed : Speed) : Setpoint := ⟨.move, target, speed⟩

/-- MOVE to both hoists of a gate, the left first (R110). -/
def postMoves (g : GateNo) (target : Int) (speed : Speed) (s : State) : State :=
  post (rightHoist g) (moveSetpoint target speed) (post (leftHoist g) (moveSetpoint target speed) s)

/-- Empty a slot: a waiting frame leaves the post queue, and a running acknowledgement timer goes with the slot
(R134, R141). -/
def emptySlot (h : HoistNo) (s : State) : State :=
  settleRotation ((s.onHoist h (fun x => { x with slot := none })).onPost
    (fun p => { p with queue := p.queue.filter (fun k => k ≠ h) }))

/-- The refresh timer restarts, or stops at an interval of 0 (R138). -/
def restartRefresh (h : HoistNo) (s : State) : State :=
  let i := refreshInterval s.store.control
  s.onHoist h (fun x => { x with refreshTimer := if i = 0 then none else some i })

/-- The settle timers of both hoists of a gate start anew, or stop at an interval of 0 (R149). -/
def startSettle (g : GateNo) (s : State) : State :=
  let i := settleInterval s.store.thresholds
  let t := if i = 0 then none else some i
  (s.onHoist (leftHoist g) (fun x => { x with settleTimer := t })).onHoist (rightHoist g)
    (fun x => { x with settleTimer := t })

end Sys2Proof.Machine
end

