-- ==== Sys2Proof/Machine/Sequencer.lean ====
section
/-!
DEFINITION. The Gate Sequencers: issue, motion, stops, faults, lockout and the statuses they receive
(06_move_requests_and_gate_motion.md, 09_gate_faults_lockout_and_soft_reset.md).
-/

namespace Sys2Proof.Machine

/-! ### Positions -/

def State.leftOf (s : State) (g : GateNo) : Hoist := s.hoist (leftHoist g)
def State.rightOf (s : State) (g : GateNo) : Hoist := s.hoist (rightHoist g)

/-- The gate position: the mean of the two hoist positions, rounded down (R97). -/
def State.gatePosition (s : State) (g : GateNo) : Int :=
  Int.fdiv ((s.leftOf g).position + (s.rightOf g).position) 2

/-- The skew: left position less right position (R112). -/
def State.skew (s : State) (g : GateNo) : Int := (s.leftOf g).position - (s.rightOf g).position

/-- The magnitude of a number. -/
def magnitude (x : Int) : Int := if x < 0 then -x else x

def State.bothStill (s : State) (g : GateNo) : Bool := (s.leftOf g).drive = .still && (s.rightOf g).drive = .still

/-- Each drive is STILL, FAULT or LOCAL (R116, R163). -/
def State.bothAtRest (s : State) (g : GateNo) : Bool :=
  (s.leftOf g).drive ≠ .running && (s.rightOf g).drive ≠ .running

/-- Both hoists lie within the arrival tolerance of the target (R110, R113). -/
def State.withinTolerance (s : State) (g : GateNo) (target : Int) : Bool :=
  decide (magnitude ((s.leftOf g).position - target) ≤ arrivalTolerance (s.record g))
    && decide (magnitude ((s.rightOf g).position - target) ≤ arrivalTolerance (s.record g))

/-- The target lies in the travel window of the record in force. -/
def State.inWindow (s : State) (g : GateNo) (target : Int) : Bool :=
  decide (lowerLimit (s.record g) ≤ target) && decide (target ≤ upperLimit (s.record g))

/-! ### Notices of the sequencers (R122, R160; 11.3) -/

def arrivedPayload (g : GateNo) (target : Int) (tag : Byte) : List Word :=
  [noticeHead 1 g.val, word target, pack [(tag.toNat, 0)]]

def rangePayload (g : GateNo) (target : Int) (tag : Byte) (r : Vector Word 12) : List Word :=
  [noticeHead 8 g.val, word (clamp (-32768) 32767 target), pack [(tag.toNat, 0)], word (lowerLimit r),
    word (upperLimit r)]

/-- `replaced` is the in-flight target replaced by a retargeting. Where there is none word 3 is 0: DESIGN CHOICE
(notes/assumptions/23.md). -/
def closurePayload (g : GateNo) (lower : Int) (m : Motion) (replaced : Option Int) : List Word :=
  [noticeHead 3 g.val, word lower, pack [(m.code, 0), (flag replaced.isSome, 15)], word (replaced.getD 0)]

def gateFaultPayload (g : GateNo) (r : SaveRecord) (demanded : Bool) : List Word :=
  [noticeHead 2 g.val,
    pack [(r.firstCause.code, 13), (r.stateAtFault.code, 10), (r.origin.code, 7), (flag demanded, 6)],
    word r.target, word r.left, word r.right]

/-- The notice the end of a move of this origin sends: ARRIVED for ORDER, none for the others (R113, R122). -/
def notifyArrived (g : GateNo) (target : Int) (o : Origin) (s : State) : State :=
  match o with
  | .order src tag => offerNotice src (arrivedPayload g target tag) s
  | _ => s

/-- The notice a discard at issue sends: RANGE for ORDER, none for the others (R108, R122). -/
def notifyRange (g : GateNo) (target : Int) (o : Origin) (s : State) : State :=
  match o with
  | .order src tag => offerNotice src (rangePayload g target tag (s.record g)) s
  | _ => s

/-! ### Capture, start, completion, issue (R108 to R110, R113) -/

/-- The move context captured for a target: direction UP when it lies above the gate position taken now (R109). -/
def State.capture (s : State) (g : GateNo) (target : Int) (speed : Speed) (o : Origin) : MoveContext :=
  ⟨target, speed, o, decide (s.gatePosition g < target)⟩

/-- A captured move starts: MOVING, MOVE posted to both hoists, move timer and settle timers started (R110). -/
def startMove (g : GateNo) (c : MoveContext) (s : State) : State :=
  let s1 := s.onGate g (fun x => { x with motion := .moving, context := some c, trimHoist := none })
  let s2 := postMoves g c.target c.speed s1
  let s3 := s2.onGate g (fun x => { x with moveTimer := some (moveTimeLimit (s2.record g)) })
  startSettle g s3

/-- The save record of a resumed move is released: occupied and resumed cleared (R165). -/
def SaveRecord.releaseResumed (r : SaveRecord) : SaveRecord :=
  if r.resumed then { r with occupied := false, resumed := false } else r

/-- A move is completed: IDLE, the context released, the standing target the target, a resumed record released, the
tide-closed flag set for a closure, ARRIVED sent for an order (R113, steps 1 to 4). -/
def completeMove (g : GateNo) (c : MoveContext) (s : State) : State :=
  let s1 := s.onGate g (fun x =>
    { x with moveTimer := none, motion := .idle, context := none, trimHoist := none, standing := c.target,
             save := x.save.releaseResumed, tideClosed := x.tideClosed || c.origin = .closure })
  notifyArrived g c.target c.origin (testDrain s1)

/-- A captured move completes at once when both hoists lie within the tolerance, and otherwise starts (R110). -/
def issueMove (g : GateNo) (c : MoveContext) (s : State) : State :=
  if s.withinTolerance g c.target then completeMove g c s else startMove g c s

/-- The conditions of issue (R108). -/
def State.mayIssue (s : State) (g : GateNo) : Bool :=
  (s.gate g).motion = .idle && s.sup.device = .run && !s.sup.holdLine && s.bothStill g

/-- A pending closure is issued: the lower limit at FAST with origin CLOSURE, the flag cleared, a CLOSURE notice
(R118, R119) after the posts (notes/assumptions/11.md). -/
def issueClosure (g : GateNo) (s : State) : State :=
  let lower := lowerLimit (s.record g)
  let s1 := s.onGate g (fun x => { x with closurePending := false })
  notify (closurePayload g lower (s.gate g).motion none) (issueMove g (s.capture g lower .fast .closure) s1)

/-- The target an entry forms (R108). -/
def Entry.target (e : Entry) (standing : Int) : Int :=
  match e.form with
  | .absolute => e.value
  | .relative => standing + e.value

/-- AUTO and FLOOD entries are not taken while the tide-closed flag is set (R108). -/
def Entry.automatic (e : Entry) : Bool := e.origin = .auto || e.origin = .flood

/-- The speed of an entry, with 0 resolved to the gate's default (R109). -/
def State.resolveSpeed (s : State) (g : GateNo) (sp : Option Speed) : Speed :=
  sp.getD (defaultSpeed (s.record g))

/-- The head entry `e` is taken: issued when its target lies within the window, and otherwise discarded with the
range flag set and a RANGE notice for an order (R108). -/
def takeEntry (g : GateNo) (e : Entry) (s : State) : State :=
  let target := e.target (s.gate g).standing
  let s1 := s.onGate g (fun x => { x with queue := x.queue.tail })
  if s.inWindow g target then issueMove g (s.capture g target (s.resolveSpeed g e.speed) e.origin) s1
  else notifyRange g target e.origin (s1.onGate g (fun x => { x with rangeFlag := true }))

/-- The examination for issue (R108). Each turn issues the pending closure or takes the head entry; `fuel` bounds the
turns, and a move that starts ends them, since the gate is then not IDLE. -/
def examineFor : Nat → GateNo → State → State
  | 0, _, s => s
  | fuel + 1, g, s =>
    if s.mayIssue g then
      if (s.gate g).closurePending then examineFor fuel g (issueClosure g s)
      else match (s.gate g).queue with
        | [] => s
        | e :: _ =>
          if e.automatic && (s.gate g).tideClosed then s else examineFor fuel g (takeEntry g e s)
    else s

def examine (g : GateNo) (s : State) : State := examineFor ((s.gate g).queue.length + 2) g s

/-! ### Retargeting and stopping (R105, R115, R116) -/

/-- A move in flight is retargeted (R105). -/
def retarget (g : GateNo) (target : Int) (speed : Speed) (o : Origin) (s : State) : State :=
  startMove g (s.capture g target speed o) s

/-- MOVING or TRIM. -/
def Gate.inFlight (x : Gate) : Bool := x.motion = .moving || x.motion = .trim

/-- A gate goes to STOPPING: the move timer stopped, STOP to both hoists, the stop timer started (R115). -/
def enterStopping (g : GateNo) (s : State) : State :=
  let s1 := s.onGate g (fun x => { x with motion := .stopping, moveTimer := none, trimHoist := none })
  let s2 := postStops g s1
  s2.onGate g (fun x => { x with stopTimer := some (stopTimeout s2.store.control) })

/-- A gate in MOVING or TRIM goes to STOPPING; any other is not changed (R120, R121). -/
def stopIfMoving (g : GateNo) (s : State) : State := if (s.gate g).inFlight then enterStopping g s else s

/-- The end of a stop in STOPPING (R116). -/
def endStop (g : GateNo) (s : State) : State :=
  let s1 := s.onGate g (fun x =>
    { x with stopTimer := none, motion := .idle, context := none, standing := s.gatePosition g,
             save := x.save.releaseResumed })
  examine g (testDrain s1)

/-! ### Lockout (R140, R169, R170) -/

def lockoutPayload (c : LockoutCause) (g : GateNo) : List Word := [noticeHead 6 g.val, pack [(c.code, 0)]]

/-- STOP is posted to every mapped hoist of a gate not in OFF, in order of hoist number (R140). -/
def lockoutStops (s : State) : State :=
  allHoists.foldl (fun acc h =>
    if acc.driveOf h ≠ 0#8 && (acc.gate (gateOf h)).mode ≠ .off then postStop h acc else acc) s

/-- The blocks the entry into LOCKOUT is handed to: a sequencer, or the Hoist Interface (R170, step 4). -/
inductive EntryTaker
  | sequencer (g : GateNo)
  | hoistInterface
deriving DecidableEq, Repr

def takeLockout (t : EntryTaker) (s : State) : State :=
  match t with
  | .sequencer g => stopIfMoving g s
  | .hoistInterface => lockoutStops s

/-- The gates in MOVING or TRIM, in order of gate number. -/
def State.movingGates (s : State) : List GateNo := allGates.filter (fun g => (s.gate g).inFlight)

/-- The entry handed to every sequencer and to the Hoist Interface, in an order the manual leaves open
(notes/assumptions/1.md). Sequencers of gates not in MOVING or TRIM do nothing with it. -/
def handLockout (s : State) : State :=
  let takers := s.movingGates.map EntryTaker.sequencer ++ [EntryTaker.hoistInterface]
  let r := drawOrder takers.length takers s
  r.1.foldl (fun acc t => takeLockout t acc) r.2

/-- The device enters LOCKOUT (R170). -/
def enterLockout (c : LockoutCause) (g : GateNo) (s : State) : State :=
  let s1 := s.onSup (fun x =>
    { x with device := .lockout, lockoutCause := c, lockoutGate := some g, lockoutLine := true })
  handLockout (notify (lockoutPayload c g) s1)

/-- A lockout demand: taken in RUN, discarded in DRAIN and LOCKOUT (R169). -/
def demandLockout (c : LockoutCause) (g : GateNo) (s : State) : State :=
  if s.sup.device = .run then enterLockout c g s else s

/-! ### Gate faults (R160 to R163) -/

/-- The save record a fault fills (R160, step 2). -/
def State.savedMove (s : State) (g : GateNo) (c : Cause) : SaveRecord :=
  let x := s.gate g
  let base : SaveRecord :=
    { occupied := true, resumed := false, firstCause := c, causes := BitVec.ofNat 8 (2 ^ c.code),
      stateAtFault := x.motion, target := x.standing, speed := defaultSpeed (s.record g), origin := .unset,
      left := (s.leftOf g).position, right := (s.rightOf g).position, recoverable := .pending }
  match x.context with
  | some m => { base with target := m.target, speed := m.speed, origin := m.origin }
  | none => base

/-- Steps 1 to 5 of a fault (R160): timers stopped, the record filled, the context released, FAULT-STOPPING, STOP to
both hoists, the stop timer started, a GATE-FAULT notice that says whether a lockout is demanded. -/
def faultStop (g : GateNo) (saved : SaveRecord) (demanded : Bool) (s : State) : State :=
  let s1 := s.onGate g (fun x =>
    { x with moveTimer := none, stopTimer := none, save := saved, context := none, trimHoist := none,
             motion := .faultStopping })
  let s2 := postStops g s1
  let s3 := s2.onGate g (fun x => { x with stopTimer := some (stopTimeout s2.store.control) })
  notify (gateFaultPayload g saved demanded) s3

/-- A gate takes a fault (R160). A lockout is demanded when `recovery` (R162) or when the fault response enable
is 0, in every device state, and the demand reaches the Supervisor at once (notes/assumptions/12.md). -/
def takeFault (g : GateNo) (c : Cause) (recovery : Bool) (s : State) : State :=
  let demanded := recovery || !faultResponse s.store.control
  let s1 := faultStop g (s.savedMove g c) demanded s
  if demanded then demandLockout (if recovery then .recoveryFault else .responseOff) g s1 else s1

/-- A cause added to the cause set (R161). -/
def addCause (g : GateNo) (c : Cause) (s : State) : State :=
  s.onGate g (fun x => { x with save := { x.save with causes := x.save.causes ||| BitVec.ofNat 8 (2 ^ c.code) } })

/-- The gate carries out a resumed move (R159, R162). -/
def Gate.resumedMove (x : Gate) : Bool := x.save.occupied && x.save.resumed

/-- A fault cause reaches a gate: nothing in OFF; added to the set of a gate in FAULT-STOPPING or FAULTED (R161);
otherwise a fault (R160), a recovery fault when the gate carries out a resumed move (R162). -/
def reachCause (g : GateNo) (c : Cause) (s : State) : State :=
  let x := s.gate g
  if x.mode = .off then s
  else if x.faulty then addCause g c s
  else takeFault g c x.resumedMove s

/-- Whether the first cause lets a faulted gate be recovered (R163). -/
def Cause.recoverable : Cause → Bool
  | .overload => true | .slack => true | .driveSilent => true | .moveTimeout => true | .stopTimeout => true
  | .skew => false | .driveFault => false | .localTakeover => false

/-- The end of a fault stop (R163). -/
def endFaultStop (g : GateNo) (s : State) : State :=
  let yes := (s.gate g).save.firstCause.recoverable && s.bothStill g
    && decide (magnitude (s.skew g) ≤ trimThreshold (s.record g))
  testDrain (s.onGate g (fun x =>
    { x with stopTimer := none, motion := .faulted,
             save := { x.save with recoverable := if yes then .yes else .no } }))

/-! ### Trim (R112) -/

/-- The leading hoist: the higher one when the direction is UP, the lower one when it is DOWN. -/
def State.leadingHoist (s : State) (g : GateNo) (up : Bool) : HoistNo :=
  if decide (0 < s.skew g) = up then leftHoist g else rightHoist g

def enterTrim (g : GateNo) (c : MoveContext) (s : State) : State :=
  let h := s.leadingHoist g c.up
  postStop h (s.onGate g (fun x => { x with motion := .trim, trimHoist := some h }))

def releaseTrim (g : GateNo) (c : MoveContext) (s : State) : State :=
  let s1 := s.onGate g (fun x => { x with motion := .moving, trimHoist := none })
  match (s.gate g).trimHoist with
  | some h => post h (moveSetpoint c.target c.speed) s1
  | none => s1

/-! ### A HOIST-STATUS at the sequencer (R111, R158, R161) -/

/-- The checks of R111 in MOVING and TRIM after the drive-state check: skew alarm, arrival, trim. -/
def checkMove (g : GateNo) (c : MoveContext) (s : State) : State :=
  let m := magnitude (s.skew g)
  let r := s.record g
  if skewAlarm r < m then reachCause g .skew s
  else if s.bothStill g && s.withinTolerance g c.target then examine g (completeMove g c s)
  else if (s.gate g).motion = .moving then if trimThreshold r < m then enterTrim g c s else s
  else if m ≤ trimRelease r then releaseTrim g c s
  else s

/-- What follows the drive-state check, by motion state (R111, R116, R161, R163). -/
def checkMotion (g : GateNo) (s : State) : State :=
  match (s.gate g).motion with
  | .moving => match (s.gate g).context with
    | some c => checkMove g c s
    | none => s
  | .trim => match (s.gate g).context with
    | some c => checkMove g c s
    | none => s
  | .stopping => if s.bothAtRest g then endStop g s else s
  | .idle => examine g s
  | .faultStopping => if s.bothAtRest g then endFaultStop g s else s
  | .faulted => s

/-- A drive state LOCAL is a fault in MOVING, TRIM and STOPPING alone (R158). -/
def Gate.takesLocal (x : Gate) : Bool := x.inFlight || x.motion = .stopping

/-- A HOIST-STATUS of hoist `h` reaches the sequencer of its gate; the record already holds it (R111). -/
def sequencerStatus (h : HoistNo) (s : State) : State :=
  let g := gateOf h
  let x := s.gate g
  if x.mode = .off then s
  else match (s.hoist h).drive with
    | .fault =>
      if x.faulty then checkMotion g (reachCause g .driveFault s) else reachCause g .driveFault s
    | .takenLocal => if x.takesLocal then reachCause g .localTakeover s else checkMotion g s
    | _ => checkMotion g s

/-! ### Outcomes of the Schedule Evaluator (R66, R100, R117, R118) -/

/-- An automatic entry replaces the held entry of its origin in its place, or joins the tail (R100). -/
def joinAutomatic (e : Entry) (q : List Entry) : List Entry :=
  if q.any (fun k => k.origin = e.origin) then q.map (fun k => if k.origin = e.origin then e else k)
  else q ++ [e]

/-- An AUTO REQUEST or FLOOD REQUEST: both closure flags cleared, the entry joined, the gate examined (R117). -/
def takeRequest (g : GateNo) (e : Entry) (s : State) : State :=
  examine g (s.onGate g (fun x =>
    { x with closurePending := false, tideClosed := false, queue := joinAutomatic e x.queue }))

/-- A NO-CLOSURE: both flags cleared; the clearing of the tide-closed flag is an examination (R66, R108, R119). -/
def takeNoClosure (g : GateNo) (s : State) : State :=
  let s1 := s.onGate g (fun x => { x with closurePending := false, tideClosed := false })
  if (s.gate g).tideClosed then examine g s1 else s1

/-- A CLOSURE-HELD sets the tide-closed flag of a gate in IDLE, MOVING or TRIM (R118). -/
def takeClosureHeld (g : GateNo) (s : State) : State :=
  if (s.gate g).motion = .idle || (s.gate g).inFlight then s.onGate g (fun x => { x with tideClosed := true }) else s

/-- The in-flight target: the target of the move context, present while MOVING, TRIM or STOPPING (R98). -/
def Gate.inFlightTarget (x : Gate) : Option Int :=
  if x.inFlight || x.motion = .stopping then x.context.map (fun c => c.target) else none

/-- A CLOSURE (R118): issued at once or left pending in IDLE, pending in STOPPING, a retargeting in MOVING and
TRIM. -/
def takeClosure (g : GateNo) (s : State) : State :=
  let x := s.gate g
  let pendingSet := s.onGate g (fun y => { y with closurePending := true })
  if x.inFlight then
    let lower := lowerLimit (s.record g)
    notify (closurePayload g lower x.motion x.inFlightTarget)
      (retarget g lower .fast .closure (s.onGate g (fun y => { y with closurePending := false })))
  else match x.motion with
    | .idle => examine g pendingSet
    | .stopping => pendingSet
    | _ => s

/-! ### The HOLD line (R120, R121) -/

/-- An event handed to every sequencer of a gate in MOVING or TRIM, in an order the manual leaves open
(notes/assumptions/1.md). -/
def stopMovingGates (s : State) : State :=
  let r := drawOrder s.movingGates.length s.movingGates s
  r.1.foldl (fun acc g => stopIfMoving g acc) r.2

/-- An IDLE gate that has a pending closure or an entry: the examination of any other takes nothing
(notes/assumptions/19.md). -/
def Gate.hasWork (x : Gate) : Bool := x.motion = .idle && (x.closurePending || !x.queue.isEmpty)

/-- The IDLE gates with something to issue, in order of gate number. -/
def State.idleGates (s : State) : List GateNo := allGates.filter (fun g => (s.gate g).hasWork)

/-- Every IDLE gate is examined for issue, in an order the manual leaves open (notes/assumptions/1.md). -/
def examineIdleGates (s : State) : State :=
  let r := drawOrder s.idleGates.length s.idleGates s
  r.1.foldl (fun acc g => examine g acc) r.2

end Sys2Proof.Machine
end

