-- ==== Sys2Proof/Machine/Monitor.lean ====
section
/-!
DEFINITION. The comparisons of the Threshold Monitor and their notices (R145 to R147, R155), and the gate effects of
load outcomes (R151).
-/

namespace Sys2Proof.Machine

/-- The payload of a THRESHOLD notice (11.3), its gate byte 0 (notes/assumptions/11.md). `kind` is 0 HA or 3 LA;
`quantity` is 0 U, 1 D, 2 head, 16 + h. -/
def thresholdPayload (t : Vector Word 19) (c : ThresholdClass) (kind quantity : Nat) (value : Int) : List Word :=
  [noticeHead 5 0,
    pack [(c.code, 14), (kind, 12), (flag (alarmLatched t c), 11), (quantity, 0)],
    word value, word (threshold t c kind)]

/-- An alarm flag taken from clear to set offers a notice when its group is enabled in the fault mask (R155). -/
def notifyAlarm (c : ThresholdClass) (kind quantity : Nat) (value : Int) (before after : Bool) (s : State) : State :=
  if !before && after && groupEnabled s.store.control c kind then
    notify (thresholdPayload s.store.thresholds c kind quantity value) s
  else s

/-- A quantity after a comparison: the outcomes replaced, the flags following (R146, R147). -/
def Quantity.compared (q : Quantity) (t : Vector Word 19) (c : ThresholdClass) (value : Int) (inhibited : Bool) :
    Quantity :=
  let o := compareValue t c value inhibited
  ⟨o, flagsAfter t c o q.flags⟩

/-- The notices of one comparison, HA before LA (R155). -/
def notifyAlarms (c : ThresholdClass) (quantity : Nat) (value : Int) (before after : Quad) (s : State) : State :=
  notifyAlarm c 3 quantity value before.la after.la (notifyAlarm c 0 quantity value before.ha after.ha s)

/-- Compare the upstream working level just formed. -/
def compareUp (value : Int) (s : State) : State :=
  let q := s.monitor.up.compared s.store.thresholds .levelU value false
  notifyAlarms .levelU 0 value s.monitor.up.flags q.flags (s.onMonitor (fun m => { m with up := q }))

/-- Compare the downstream working level just formed. -/
def compareDown (value : Int) (s : State) : State :=
  let q := s.monitor.down.compared s.store.thresholds .levelD value false
  notifyAlarms .levelD 1 value s.monitor.down.flags q.flags (s.onMonitor (fun m => { m with down := q }))

/-- Compare the head just formed. -/
def compareHead (value : Int) (s : State) : State :=
  let q := s.monitor.head.compared s.store.thresholds .head value false
  notifyAlarms .head 2 value s.monitor.head.flags q.flags (s.onMonitor (fun m => { m with head := q }))

/-- Compare the load held in hoist `h`'s record, its low outcomes inhibited while its settle timer runs (R150). -/
def compareLoad (h : HoistNo) (s : State) : State :=
  let x := s.hoist h
  let q := x.monitor.compared s.store.thresholds .load x.load x.settleTimer.isSome
  notifyAlarms .load (16 + h.val) x.load x.monitor.flags q.flags (s.onHoist h (fun y => { y with monitor := q }))

/-- OVERLOAD, delivered when the HA outcome held is true (R151); a gate in OFF receives none (`reachCause`). -/
def deliverOverload (h : HoistNo) (s : State) : State :=
  if (s.hoist h).monitor.outcomes.ha then reachCause (gateOf h) .overload s else s

/-- SLACK, delivered when the LA outcome held is true (R151). -/
def deliverSlack (h : HoistNo) (s : State) : State :=
  if (s.hoist h).monitor.outcomes.la then reachCause (gateOf h) .slack s else s

end Sys2Proof.Machine
end

