-- ==== Sys2Proof/Machine/Evaluator.lean ====
section
/-!
DEFINITION. The Schedule Evaluator (04_schedules_and_the_opening_computation.md).
-/

namespace Sys2Proof.Machine

/-- The stage index and the remainder (table of R67). -/
def stageIndex (forced : Option Nat) (length : Nat) (d : Int) : Nat × Int :=
  match forced with
  | some f => (min f (length - 1), 0)
  | none =>
    let x := d + 4000
    if x < 0 then (0, 0)
    else if ((length : Int) - 1) * 200 ≤ x then (length - 1, 0)
    else ((x / 200).toNat, x % 200)

/-- The base opening (R69). -/
def baseOpening (i : ScheduleImage) (k : Nat) (r : Int) : Int :=
  if k = scheduleLength i - 1 then baseRow i k
  else baseRow i k + Int.tdiv ((baseRow i (k + 1) - baseRow i k) * r) 200

/-- The pool correction (R70). -/
def poolCorrection (i : ScheduleImage) (u : Int) : Int :=
  clamp (-(correctionLimit i)) (correctionLimit i) (Int.tdiv ((u - poolSetpoint i) * gain i) 16)

/-- The pool-alarm override (R72). -/
def State.poolAlarm (s : State) (u : Int) : Bool :=
  floodOnPoolAlarm s.store.control && decide (threshold s.store.thresholds .levelU 0 < u)

/-- The active image of the schedule the gate's record names. -/
def State.scheduleOf (s : State) (g : GateNo) : ScheduleImage := (s.schedule (recordSchedule (s.record g))).active

/-- The raw target (R71, R72). -/
def State.rawTarget (s : State) (g : GateNo) (u d : Int) : Int :=
  let r := s.record g
  let i := s.scheduleOf g
  if (s.gate g).mode = .flood || s.poolAlarm u then upperLimit r
  else
    let k := stageIndex s.forcedIndex (scheduleLength i) d
    baseOpening i k.1 k.2 + poolCorrection i u + trimOffset r

/-- The target: the raw target clamped to the travel window (R73). -/
def State.autoTarget (s : State) (g : GateNo) (u d : Int) : Int :=
  clamp (lowerLimit (s.record g)) (upperLimit (s.record g)) (s.rawTarget g u d)

/-- The closure condition of the gate's schedule (R74). -/
def State.closureCondition (s : State) (g : GateNo) (u d : Int) : Bool := decide (u ≤ d + headMargin (s.scheduleOf g))

/-- The gate's present aim: the in-flight target in MOVING and TRIM, the standing target in IDLE and STOPPING
(R76). -/
def Gate.aim (x : Gate) : Int :=
  if x.inFlight then (match x.context with
    | some c => c.target
    | none => x.standing)
  else x.standing

/-- A closure is dropped: the gate is IDLE at its lower limit, or in flight to it (R77). -/
def State.closureDropped (s : State) (g : GateNo) : Bool :=
  let x := s.gate g
  let lower := lowerLimit (s.record g)
  (x.motion = .idle && x.standing = lower) || (x.inFlight && x.aim = lower)

/-- The entry an automatic request brings (R66, R117). -/
def automaticEntry (m : Mode) (target : Int) : Entry :=
  if m = .flood then ⟨.flood, .absolute, target, some .fast⟩ else ⟨.auto, .absolute, target, some .normal⟩

def closureBlockedPayload (g : GateNo) (m : Motion) (d u margin : Int) : List Word :=
  [noticeHead 9 g.val, pack [(m.code, 0)], word d, word u, word margin]

def setBlocked (g : GateNo) (b : Bool) (s : State) : State := s.onGate g (fun x => { x with blockedNotice := b })

/-- A gate in FAULT-STOPPING or FAULTED: the reverse-head test alone (R75). -/
def evaluateFaulty (g : GateNo) (u d : Int) (s : State) : State :=
  if s.closureCondition g u d then
    let s1 := takeClosureHeld g s
    if (s.gate g).blockedNotice then s1
    else setBlocked g true
      (notify (closureBlockedPayload g (s.gate g).motion d u (headMargin (s.scheduleOf g))) s1)
  else setBlocked g false (takeNoClosure g s)

/-- The full computation of a gate (R67 to R77). -/
def evaluateFull (g : GateNo) (u d : Int) (s : State) : State :=
  let s1 := setBlocked g false s
  if s1.closureCondition g u d then
    if s1.closureDropped g then takeClosureHeld g s1 else takeClosure g s1
  else
    let t := s1.autoTarget g u d
    if magnitude (t - (s1.gate g).aim) < deadband (s1.scheduleOf g) then takeNoClosure g s1
    else takeRequest g (automaticEntry (s1.gate g).mode t) s1

/-- A gate is taken up when it is in AUTO or FLOOD and the schedule its record names has an active length of 2 or
more (R65). -/
def State.takenUp (s : State) (g : GateNo) : Bool :=
  ((s.gate g).mode = .auto || (s.gate g).mode = .flood) && decide (2 ≤ scheduleLength (s.scheduleOf g))

/-- One gate of an evaluation (R65). -/
def evaluateGate (u d : Int) (g : GateNo) (s : State) : State :=
  if s.takenUp g then if (s.gate g).faulty then evaluateFaulty g u d s else evaluateFull g u d s
  else setBlocked g false s

/-- A formation event at the evaluator: evaluated in RUN, gate 0 to gate 7, and discarded in DRAIN and LOCKOUT
(R64, R66). -/
def evaluate (u d : Int) (s : State) : State :=
  if s.sup.device = .run then allGates.foldl (fun acc g => evaluateGate u d g acc) s else s

end Sys2Proof.Machine
end

