-- ==== Sys2Proof/Machine/Supervisor.lean ====
section
/-!
DEFINITION. The HOLD line, the drain and its completion, and the hard reset (R120, R121, R172 to R176, R3, R20).
-/

namespace Sys2Proof.Machine

/-! ### The HOLD line -/

/-- Assertion of the HOLD line: every gate in MOVING or TRIM goes to STOPPING (R120). A line already asserted does
not change. -/
def holdAsserted (s : State) : State :=
  if s.sup.holdLine then s else stopMovingGates (s.onSup (fun x => { x with holdLine := true }))

/-- Release of the HOLD line: every IDLE gate is examined for issue (R121). A line already negated does not
change. -/
def holdReleased (s : State) : State :=
  if s.sup.holdLine then examineIdleGates (s.onSup (fun x => { x with holdLine := false })) else s

/-! ### The drain -/

/-- Entry into DRAIN (R172): the LOCKOUT line negated, the drain timer started, the entry handed to the sequencers
(R121), the completion conditions tested. The Hoist Interface does nothing at the entry (R142). -/
def enterDrain (s : State) : State :=
  let s1 := s.onSup (fun x =>
    { x with device := .drain, lockoutLine := false, drainTimer := some (drainLimit s.store.control),
             drainFulfilled := false })
  testDrain (stopMovingGates s1)

/-- The gates cut off: not IDLE or FAULTED when the reset takes effect, as bit g for gate g (R176). -/
def State.cutOffGates (s : State) : Nat :=
  (allGates.filter (fun g => (s.gate g).motion ≠ .idle && (s.gate g).motion ≠ .faulted)).foldl
    (fun acc g => acc + 2 ^ g.val) 0

/-- The payload of a RESET-DONE notice (11.3). -/
def resetDonePayload (soft yes : Bool) (cutOff : Nat) : List Word :=
  [noticeHead 7 0, pack [(flag soft, 1), (flag yes, 0)], pack [(cutOff, 0)]]

/-- A hoist at drain completion: slot emptied, retry flags and threshold flags cleared, settle timer stopped; its
record, last-posted setpoint, refresh timer and held outcomes kept (R175). -/
def Hoist.drained (x : Hoist) : Hoist :=
  { x with slot := none, retry := false, exhausted := false, settleTimer := none,
           monitor := { x.monitor with flags := Quad.clear } }

/-- A gate at drain completion: range flag and blocked-notice indicator cleared; a gate not in OFF is put IDLE in
mode HOLD at the gate position `p`, its queue, context, timers, save record and closure flags gone (R175). -/
def Gate.drained (p : Int) (x : Gate) : Gate :=
  if x.mode = .off then { x with rangeFlag := false, blockedNotice := false }
  else
    { x with mode := .hold, motion := .idle, standing := p, queue := [], context := none, trimHoist := none,
             closurePending := false, tideClosed := false, rangeFlag := false, moveTimer := none, stopTimer := none,
             save := { x.save with occupied := false, resumed := false }, blockedNotice := false }

def drainHoists (s : State) : State := allHoists.foldl (fun acc h => acc.onHoist h Hoist.drained) s

def drainGates (s : State) : State :=
  allGates.foldl (fun acc g => acc.onGate g (Gate.drained (acc.gatePosition g))) s

/-- Flags cleared, outcomes kept (R156). -/
def Quantity.clearFlags (q : Quantity) : Quantity := { q with flags := Quad.clear }

/-- What drain completion sets at the blocks other than gates and hoists (table of R175). -/
def drainBlocks (s : State) : State :=
  { s with
    post := { s.post with queue := [] }
    forcedIndex := none
    monitor := { s.monitor with up := s.monitor.up.clearFlags, down := s.monitor.down.clearFlags,
                                head := s.monitor.head.clearFlags }
    levels := { s.levels with up := { s.levels.up with updated := false, disagree := false },
                              down := { s.levels.down with updated := false, disagree := false } }
    pass := { s.pass with policedDrop := false }
    req := { s.req with requestLost := false, noticeLost := false }
    ring := { s.ring with consecutive := 0 }
    sup := { s.sup with device := .run, lockoutCause := .unset, lockoutGate := none, drainTimer := none,
                        drainFulfilled := false } }

/-- Drain completion (R175), with outcome YES or NO: the blocks reinitialised, then RESET-DONE of kind SOFT offered
(R176). The return to RUN finds empty queues and gates in HOLD, and nothing is issued. -/
def completeDrain (yes : Bool) (s : State) : State :=
  let cutOff := if yes then 0 else s.cutOffGates
  notify (resetDonePayload true yes cutOff) (drainBlocks (drainGates (drainHoists s)))

/-- DRAIN_COMPLETION: the completion, with outcome YES, of a drain whose conditions have come to hold (R174, R175).
While they have not there is nothing to complete. -/
def drainCompletes (s : State) : State :=
  if s.sup.device = .drain && s.sup.drainFulfilled then completeDrain true s else s

/-- DRAIN_TIMER_EXPIRY: the drain completes with outcome NO, whatever the conditions (R174). -/
def drainExpires (s : State) : State :=
  if s.sup.device = .drain && s.sup.drainTimer.isSome then completeDrain false s else s

/-! ### The hard reset -/

/-- A strap value of 0 or of 255 is taken as 254 (R3). -/
def strapAddress (v : Byte) : Byte := if v = 0#8 ∨ v = 255#8 then 254#8 else v

/-- The commissioning address: the CADDR value, unless it equals the own address (R3). -/
def commissioningAddress (own caddr : Byte) : Byte :=
  if strapAddress caddr = own then if own = 254#8 then 253#8 else 254#8 else strapAddress caddr

/-- HARD_RESET (R20, R176): every block at its hard-reset value with the straps sampled and the HOLD line as it
stands, then the RESET-DONE notice of kind HARD, addressed to the commissioning address. The waiting commands and
the model's own orders are kept. -/
def hardReset (saddr caddr : Byte) (hold : Bool) (s : State) : State :=
  let own := strapAddress saddr
  let com := commissioningAddress own caddr
  offerNotice com (resetDonePayload false true 0)
    { State.hardResetValues own com hold with orders := s.orders, pending := s.pending }

/-- HARD_RESET. -/
def execHardReset (saddr caddr : Byte) (hold : Bool) (s : State) : Host.Outcome State Fault Refusal :=
  .next (hardReset saddr caddr hold s)

/-- HOLD_LINE_ASSERTED. -/
def execHoldLineAsserted (s : State) : Host.Outcome State Fault Refusal := .next (settle (holdAsserted s))

/-- HOLD_LINE_RELEASED. -/
def execHoldLineReleased (s : State) : Host.Outcome State Fault Refusal := .next (settle (holdReleased s))

/-- DRAIN_TIMER_EXPIRY. -/
def execDrainTimerExpiry (s : State) : Host.Outcome State Fault Refusal := .next (settle (drainExpires s))

/-- DRAIN_COMPLETION. -/
def execDrainCompletion (s : State) : Host.Outcome State Fault Refusal := .next (settle (drainCompletes s))

end Sys2Proof.Machine
end

