-- ==== Sys2Proof/Machine/Orders.lean ====
section
/-!
DEFINITION. The execution of a request (R180) and the five orders (R88 to R96, R102 to R107).
-/

namespace Sys2Proof.Machine

/-! ### Execution (R180) -/

/-- The request under way is of the name `r`. -/
def State.executes (s : State) (r : RequestName) : Option Frame :=
  match s.req.executing with
  | some f => if requestName f = some r then some f else none
  | none => none

/-- Execute the request under way, when it is of the name `r` (R180). A source of class NONE is discarded without a
reply; otherwise the answer is decided, the reply placed in the reserved entry, a DONE carried out by `effect`, and
the execution is over, which is a chance for the next. When no request of that name is under way there is nothing to
execute (notes/assumptions/3.md). -/
def serve (r : RequestName) (answer : Frame → State → Answer) (effect : Frame → State → State) (s : State) : State :=
  match s.executes r with
  | none => s
  | some f =>
    if s.classOf f.src = .unheard then settle (endExecution (releaseReservation s))
    else
      let a := answer f s
      let s1 := placeReply f a s
      let s2 := if a.result = .done then effect f s1 else s1
      settle (endExecution s2)

/-- The first refusal of steps 2 to 4 of R180, or the request's own answer: MALFORMED, then ACCESS, then the device
state. `inLockout` and `inDrain` say whether the request is taken in those states. -/
def decideRequest (s : State) (malformed permitted inLockout inDrain : Bool) (own : Answer) : Answer :=
  if malformed then refuse .malformed
  else if !permitted then refuse .access
  else match s.sup.device with
    | .run => own
    | .lockout => if inLockout then own else refuse .locked
    | .drain => if inDrain then own else refuse .busy

/-- Every ORDER is held by OPERATOR and ENGINEER (R178). -/
def State.mayOrder (s : State) (src : Byte) : Bool :=
  s.classOf src = .operator || s.classOf src = .engineer

/-- An order is refused with LOCKED in LOCKOUT and BUSY in DRAIN (R180). -/
def decideOrder (f : Frame) (s : State) (malformed : Bool) (own : Result) : Answer :=
  decideRequest s malformed (s.mayOrder f.src) false false (refuse own)

/-! ### SET-MODE (R88 to R96) -/

/-- The operands of a SET-MODE order; `none` when MALFORMED (R88). -/
def readSetMode (f : Frame) : Option (GateNo × Mode) :=
  if 2 ≤ f.payload.length then
    match gateOfNat (orderGate f), modeOfCode (f.word 1).toNat with
    | some g, some m => some (g, m)
    | _, _ => none
  else none

/-- Both hoists of the gate are mapped, with valid records (R89). -/
def State.hoistsReady (s : State) (g : GateNo) : Bool :=
  s.driveOf (leftHoist g) ≠ 0#8 && s.driveOf (rightHoist g) ≠ 0#8 && (s.leftOf g).valid && (s.rightOf g).valid

/-- The checks of R89 after the device state. -/
def setModeResult (g : GateNo) (m : Mode) (s : State) : Result :=
  let motion := (s.gate g).motion
  if motion = .stopping ∨ motion = .faultStopping ∨ motion = .faulted then .busy
  else if m = .off then if motion = .idle then .done else .busy
  else if !recordValid (s.record g) || !s.hoistsReady g then .notValid
  else if (m = .auto ∨ m = .flood) ∧ scheduleLength (s.scheduleOf g) < 2 then .notValid
  else .done

/-- The slots of both hoists emptied and both refresh timers stopped (R141). -/
def silenceHoists (g : GateNo) (s : State) : State :=
  let stopRefresh := fun (x : Hoist) => { x with refreshTimer := none }
  ((emptySlot (rightHoist g) (emptySlot (leftHoist g) s)).onHoist (leftHoist g) stopRefresh).onHoist (rightHoist g)
    stopRefresh

/-- Entering OFF (R91). -/
def enterOff (g : GateNo) (s : State) : State :=
  silenceHoists g (s.onGate g (fun x =>
    { x with mode := .off, queue := [], closurePending := false, tideClosed := false }))

/-- Entering HOLD (R92): a gate in MOVING or TRIM goes to STOPPING; on an IDLE one STOP is posted and the standing
target becomes the gate position. -/
def enterHold (g : GateNo) (s : State) : State :=
  let s1 := s.onGate g (fun x =>
    { x with mode := .hold, queue := [], closurePending := false, tideClosed := false })
  if (s.gate g).inFlight then enterStopping g s1
  else postStops g (s1.onGate g (fun x => { x with standing := s.gatePosition g }))

/-- Entering MANUAL (R93). -/
def enterManual (g : GateNo) (s : State) : State :=
  examine g (s.onGate g (fun x =>
    { x with mode := .manual, queue := x.queue.filter (fun e => !e.automatic), closurePending := false,
             tideClosed := false }))

/-- Entering AUTO (R94). -/
def enterAuto (g : GateNo) (s : State) : State :=
  s.onGate g (fun x => { x with mode := .auto, queue := x.queue.filter (fun e => e.origin = .auto) })

/-- Entering FLOOD (R95): one FLOOD request for the upper limit, unless the gate is IDLE at it. -/
def enterFlood (g : GateNo) (s : State) : State :=
  let upper := upperLimit (s.record g)
  let atUpper := (s.gate g).motion = .idle ∧ (s.gate g).standing = upper
  examine g (s.onGate g (fun x =>
    { x with mode := .flood, queue := if atUpper then [] else [⟨.flood, .absolute, upper, some .fast⟩] }))

/-- A gate leaving OFF takes the gate position as its standing target (R96). -/
def leaveOff (g : GateNo) (m : Mode) (s : State) : State :=
  if (s.gate g).mode = .off ∧ m ≠ .off then s.onGate g (fun x => { x with standing := s.gatePosition g }) else s

/-- The entry of a mode (R91 to R96). -/
def enterMode (g : GateNo) (m : Mode) (s : State) : State :=
  let s1 := leaveOff g m s
  match m with
  | .off => enterOff g s1
  | .hold => enterHold g s1
  | .manual => enterManual g s1
  | .auto => enterAuto g s1
  | .flood => enterFlood g s1

def answerSetMode (f : Frame) (s : State) : Answer :=
  match readSetMode f with
  | some (g, m) => decideOrder f s false (setModeResult g m s)
  | none => decideOrder f s true .done

def effectSetMode (f : Frame) (s : State) : State :=
  match readSetMode f with
  | some (g, m) => enterMode g m s
  | none => s

/-! ### MOVE-TO and MOVE-BY (R102 to R105) -/

/-- The operands of a MOVE order (R102). -/
structure MoveOrder where
  gate : GateNo
  form : Form
  value : Int
  speed : Option Speed
  preempt : Bool
deriving DecidableEq, Repr

/-- `none` when MALFORMED: no word 1, or a gate number of 8 or more. An absent extension is all zeros (R102). -/
def readMove (form : Form) (f : Frame) : Option MoveOrder :=
  if 2 ≤ f.payload.length then
    match gateOfNat (orderGate f) with
    | some g =>
      some
        { gate := g
          form := form
          value := match form with
            | .absolute => (f.word 1).toNat
            | .relative => (f.word 1).toInt
          speed := speedOfOrder (field (f.word 2) 0 2)
          preempt := (f.word 2).getLsbD 15 }
    | none => none
  else none

/-- The target a preempting MOVE forms: from the in-flight target while MOVING or TRIM, from the standing target in
IDLE (R104). -/
def MoveOrder.target (o : MoveOrder) (x : Gate) : Int :=
  match o.form with
  | .absolute => o.value
  | .relative => x.aim + o.value

/-- The checks of a preempting MOVE (table of R104). -/
def preemptResult (o : MoveOrder) (s : State) : Result :=
  let x := s.gate o.gate
  if x.inFlight || (x.motion = .idle && s.bothStill o.gate) then
    if s.inWindow o.gate (o.target x) then .done else .range
  else .busy

/-- The checks of R103 after the device state. -/
def moveResult (o : MoveOrder) (s : State) : Result :=
  if s.sup.holdLine then .held
  else if (s.gate o.gate).mode ≠ .manual then .mode
  else if o.preempt then preemptResult o s
  else if (s.gate o.gate).queue.length < 4 then .done
  else .full

/-- A MOVE that is taken: queued and the gate examined, or, with PREEMPT, the move in flight retargeted or the MOVE
issued at once ahead of the queue (R103 to R105, R110). -/
def effectMove (o : MoveOrder) (src tag : Byte) (s : State) : State :=
  let x := s.gate o.gate
  let origin := Origin.order src tag
  if o.preempt then
    let speed := s.resolveSpeed o.gate o.speed
    if x.inFlight then retarget o.gate (o.target x) speed origin s
    else
      let s1 := issueMove o.gate (s.capture o.gate (o.target x) speed origin) s
      examine o.gate s1
  else
    examine o.gate (s.onGate o.gate (fun y => { y with queue := y.queue ++ [⟨origin, o.form, o.value, o.speed⟩] }))

def answerMove (form : Form) (f : Frame) (s : State) : Answer :=
  match readMove form f with
  | some o => decideOrder f s false (moveResult o s)
  | none => decideOrder f s true .done

def effectMoveOrder (form : Form) (f : Frame) (s : State) : State :=
  match readMove form f with
  | some o => effectMove o f.src f.tag s
  | none => s

/-! ### STOP and CANCEL (R106, R107) -/

/-- The gates a STOP names: one, or all for 15; `none` when MALFORMED (R102). -/
def readStop (f : Frame) : Option (List GateNo) :=
  if orderGate f = 15 then some allGates else (gateOfNat (orderGate f)).map (fun g => [g])

/-- A STOP at one gate (table of R106). -/
def stopGate (g : GateNo) (s : State) : State :=
  let s1 := s.onGate g (fun x => { x with queue := [] })
  if (s.gate g).inFlight then enterStopping g s1
  else if (s.gate g).motion = .idle ∧ (s.gate g).mode ≠ .off then postStops g s1
  else s1

def answerStop (f : Frame) (s : State) : Answer := decideOrder f s (readStop f).isNone .done

def effectStop (f : Frame) (s : State) : State :=
  match readStop f with
  | some gs => gs.foldl (fun acc g => stopGate g acc) s
  | none => s

def answerCancel (f : Frame) (s : State) : Answer := decideOrder f s (gateOfNat (orderGate f)).isNone .done

def effectCancel (f : Frame) (s : State) : State :=
  match gateOfNat (orderGate f) with
  | some g => s.onGate g (fun x => { x with queue := [] })
  | none => s

/-! ### The meanings -/

/-- SET_MODE (R89). -/
def execSetMode (s : State) : Host.Outcome State Fault Refusal :=
  .next (serve .setMode answerSetMode effectSetMode s)

/-- MOVE_TO (R103). -/
def execMoveTo (s : State) : Host.Outcome State Fault Refusal :=
  .next (serve .moveTo (answerMove .absolute) (effectMoveOrder .absolute) s)

/-- MOVE_BY (R103). -/
def execMoveBy (s : State) : Host.Outcome State Fault Refusal :=
  .next (serve .moveBy (answerMove .relative) (effectMoveOrder .relative) s)

/-- STOP (R106). -/
def execStop (s : State) : Host.Outcome State Fault Refusal := .next (serve .stop answerStop effectStop s)

/-- CANCEL (R107). -/
def execCancel (s : State) : Host.Outcome State Fault Refusal := .next (serve .cancel answerCancel effectCancel s)

end Sys2Proof.Machine
end

