-- ==== Sys2Proof/Machine/HoistStatus.lean ====
section
/-!
DEFINITION. A HOIST-STATUS at the Hoist Interface: the record, the acknowledgement, and the two directions it is
handed on in (07_setpoint_posting_and_hoist_status.md, R126, R127, R134).
-/

namespace Sys2Proof.Machine

/-- The record after a status that is not damaged (R126). -/
def applyStatus (h : HoistNo) (d : StatusData) (s : State) : State :=
  s.onHoist h (fun x =>
    { x with position := clamp 0 16000 d.position, load := clamp (-4000) 4000 d.load, drive := d.drive,
             valid := true })

/-- The acknowledged tag is the tag of the hoist's occupied slot (R134); 0 acknowledges nothing (R126). -/
def Hoist.acknowledgedBy (x : Hoist) (tag : Byte) : Bool :=
  tag ≠ 0#8 && (match x.slot with
    | some sl => sl.tag = tag
    | none => false)

/-- Match an acknowledgement: the slot is emptied and the refresh timer restarts (R134, R138). -/
def matchAck (h : HoistNo) (tag : Byte) (s : State) : State :=
  if (s.hoist h).acknowledgedBy tag then testDrain (restartRefresh h (emptySlot h s)) else s

/-- The comparison of the load, the two effects and the sequencer's checks are events of their own. The comparison
comes before its effects and OVERLOAD before SLACK (R151); where the status stands among them is left open, and
`place` says after how many of the three it is taken (notes/assumptions/1.md). -/
def handOnStatus (h : HoistNo) (place : Nat) (s : State) : State :=
  if place = 0 then deliverSlack h (deliverOverload h (compareLoad h (sequencerStatus h s)))
  else if place = 1 then deliverSlack h (deliverOverload h (sequencerStatus h (compareLoad h s)))
  else if place = 2 then deliverSlack h (sequencerStatus h (deliverOverload h (compareLoad h s)))
  else sequencerStatus h (deliverSlack h (deliverOverload h (compareLoad h s)))

/-- A status at one hoist: applied, matched when it came addressed to the part or broadcast, handed on (R127). -/
def takeStatus (h : HoistNo) (d : StatusData) (matching : Bool) (s : State) : State :=
  let s1 := applyStatus h d s
  let s2 := if matching then matchAck h d.ackTag s1 else s1
  let c := chooseOrder 4 s2
  handOnStatus h c.1 c.2

/-- A HOIST-STATUS handed to the Hoist Interface: damaged ones change nothing, others are taken by every hoist mapped
to the source, the lower-numbered first (R126, R127). -/
def receiveStatus (f : Frame) (matching : Bool) (s : State) : State :=
  match readStatus f with
  | some d => (s.hoistsAt f.src).foldl (fun acc h => takeStatus h d matching acc) s
  | none => s

end Sys2Proof.Machine
end

