-- ==== Sys2Proof/Machine/Levels.lean ====
section
/-!
DEFINITION. The Level Unit (03_level_channels_and_working_levels.md).
-/

namespace Sys2Proof.Machine

inductive SideName
  | up | down
deriving DecidableEq, Repr

def sideOf : ChannelName → SideName
  | .u1 => .up | .u2 => .up | .d1 => .down | .d2 => .down

def allChannels : List ChannelName := [.u1, .u2, .d1, .d2]

def LevelUnit.channel (l : LevelUnit) : ChannelName → Channel
  | .u1 => l.u1 | .u2 => l.u2 | .d1 => l.d1 | .d2 => l.d2

def LevelUnit.setChannel (l : LevelUnit) (c : ChannelName) (x : Channel) : LevelUnit :=
  match c with
  | .u1 => { l with u1 := x } | .u2 => { l with u2 := x } | .d1 => { l with d1 := x } | .d2 => { l with d2 := x }

def LevelUnit.side (l : LevelUnit) : SideName → Side
  | .up => l.up | .down => l.down

def LevelUnit.setSide (l : LevelUnit) (n : SideName) (x : Side) : LevelUnit :=
  match n with
  | .up => { l with up := x } | .down => { l with down := x }

/-- The two channels of a side, the first first. -/
def LevelUnit.pair (l : LevelUnit) : SideName → Channel × Channel
  | .up => (l.u1, l.u2) | .down => (l.d1, l.d2)

def State.onChannel (s : State) (c : ChannelName) (f : Channel → Channel) : State :=
  s.onLevels (fun l => l.setChannel c (f (l.channel c)))

def State.onSide (s : State) (n : SideName) (f : Side → Side) : State :=
  s.onLevels (fun l => l.setSide n (f (l.side n)))

/-- The side state: VALID with a FRESH channel, otherwise STALE when a level has been formed, NO-DATA when none has
(R43). -/
def LevelUnit.sideState (l : LevelUnit) (n : SideName) : SideState :=
  if (l.pair n).1.state = .fresh || (l.pair n).2.state = .fresh then .valid
  else if (l.side n).formed then .stale else .noData

/-- Recompute a side's state (R43); its stale flag follows (R44). -/
def recomputeSide (n : SideName) (s : State) : State := s.onSide n (fun x => { x with state := s.levels.sideState n })

def SideName.code : SideName → Nat
  | .up => 0 | .down => 1

def sideStatePayload (n : SideName) (l : LevelUnit) (previous : SideState) : List Word :=
  [noticeHead 4 n.code,
    pack [((l.side n).state.code, 0), (previous.code, 2), ((l.pair n).1.state.code, 4), ((l.pair n).2.state.code, 6)],
    word (l.side n).level]

/-- A SIDE-STATE notice when the side's state is no longer `previous` (R45). -/
def notifySide (n : SideName) (previous : SideState) (s : State) : State :=
  if (s.levels.side n).state = previous then s else notify (sideStatePayload n s.levels previous) s

/-- The channels bound to a source (R37). -/
def State.channelsAt (s : State) (src : Byte) : List ChannelName :=
  allChannels.filter (fun c => binding s.store.control c = src)

/-- A fault sample at a channel (R39). -/
def faultChannel (c : ChannelName) (s : State) : State :=
  s.onChannel c (fun x => { x with state := .faulted, ageTimer := none })

/-- The value a good sample gives, before the clamp (R40). -/
def SampleData.reading (d : SampleData) : Int := if d.fineValid then d.fine else d.coarse * 10

/-- A good sample at a channel: value, range used, CLAMPED, FRESH, the age timer restarted (R40, R41). -/
def refreshChannel (d : SampleData) (c : ChannelName) (s : State) : State :=
  let v := clamp (-8000) 12000 d.reading
  s.onChannel c (fun _ => ⟨.fresh, v, !d.fineValid, v ≠ d.reading, some (ageLimit s.store.control c)⟩)

/-- The working level formed from a side's FRESH channels, and DISAGREE (table of R47). -/
def workingLevel (n : SideName) (a b : Channel) (agree held : Int) : Int × Bool :=
  if a.state = .fresh && b.state = .fresh then
    if magnitude (a.value - b.value) ≤ agree then (Int.fdiv (a.value + b.value) 2, false)
    else match n with
      | .up => (min a.value b.value, true)
      | .down => (max a.value b.value, true)
  else if a.state = .fresh then (a.value, false)
  else if b.state = .fresh then (b.value, false)
  else (held, false)

/-- Form a side's working level; the formed indicator and UPDATED are set and DISAGREE follows (R46 to R49). -/
def formSide (n : SideName) (s : State) : State :=
  let p := s.levels.pair n
  let w := workingLevel n p.1 p.2 (agreeLimit s.store.control) (s.levels.side n).level
  s.onSide n (fun x => { x with level := w.1, formed := true, disagree := w.2, updated := true })

/-- Both sides are VALID. -/
def LevelUnit.bothValid (l : LevelUnit) : Bool := l.up.state = .valid && l.down.state = .valid

/-- The head is formed when both sides are VALID (R51). -/
def formHead (s : State) : State :=
  if s.levels.bothValid then s.onLevels (fun l => { l with head := l.up.level - l.down.level }) else s

/-- The formation handed to the Threshold Monitor: U, then D, then the head (R52, R145). -/
def handToMonitor (up down : Bool) (s : State) : State :=
  let s1 := if up then compareUp s.levels.up.level s else s
  let s2 := if down then compareDown s.levels.down.level s1 else s1
  if s.levels.bothValid then compareHead s.levels.head s2 else s2

/-- The formation handed to the Schedule Evaluator, when both sides are VALID (R52). -/
def handToEvaluator (s : State) : State :=
  if s.levels.bothValid then evaluate s.levels.up.level s.levels.down.level s else s

/-- The two directions of R52, in an order the manual leaves open (notes/assumptions/1.md). -/
def handOnFormation (up down : Bool) (s : State) : State :=
  let c := chooseOrder 2 s
  if c.1 = 0 then handToEvaluator (handToMonitor up down c.2) else handToMonitor up down (handToEvaluator c.2)

/-- The channels concern side `n`. -/
def reaches (cs : List ChannelName) (n : SideName) : Bool := cs.any (fun c => sideOf c = n)

/-- Recompute the sides the channels belong to, once each, and offer the SIDE-STATE notices, the upstream one first
(R43, R45). -/
def recomputeSides (cs : List ChannelName) (s : State) : State :=
  let s1 := if reaches cs .up then recomputeSide .up s else s
  let s2 := if reaches cs .down then recomputeSide .down s1 else s1
  notifySide .down s.levels.down.state (notifySide .up s.levels.up.state s2)

/-- A good sample handed to the Level Unit (R46): every channel it reaches, then the side states, then the working
levels, the SIDE-STATE notices with the upstream one first (R45), the head, and the hand-on. -/
def goodSample (d : SampleData) (cs : List ChannelName) (s : State) : State :=
  let up := reaches cs .up
  let down := reaches cs .down
  let s1 := cs.foldl (fun acc c => refreshChannel d c acc) s
  let s2 := if up then formSide .up (recomputeSide .up s1) else s1
  let s3 := if down then formSide .down (recomputeSide .down s2) else s2
  let s4 := notifySide .down s.levels.down.state (notifySide .up s.levels.up.state s3)
  handOnFormation up down (formHead s4)

/-- A fault sample handed to the Level Unit: it forms nothing (R39). -/
def faultSample (cs : List ChannelName) (s : State) : State :=
  recomputeSides cs (cs.foldl (fun acc c => faultChannel c acc) s)

/-- A SAMPLE handed to the Level Unit with its source (R37, R38). -/
def receiveSample (f : Frame) (s : State) : State :=
  match readSample f with
  | some d =>
    if d.sensorFault then faultSample (s.channelsAt f.src) s else goodSample d (s.channelsAt f.src) s
  | none => s

/-- A rebound channel returns to NO-DATA (R53). -/
def rebindChannel (c : ChannelName) (s : State) : State := s.onChannel c (fun _ => Channel.reset)

/-- The channels whose binding a write changed return to NO-DATA, and each side is then recomputed, once
(R53; notes/assumptions/14.md). -/
def rebindChannels (cs : List ChannelName) (s : State) : State :=
  recomputeSides cs (cs.foldl (fun acc c => rebindChannel c acc) s)

end Sys2Proof.Machine
end

