-- ==== Sys2Proof/Machine/PassFilter.lean ====
section
/-!
DEFINITION. The Pass Filter's judgement of transit frames (02_the_pass_table.md).
-/

namespace Sys2Proof.Machine

/-- An entry matches a frame by its header words (R24). -/
def PassEntry.matches (e : PassEntry) (f : Frame) : Bool :=
  (e.source = 0#8 || e.source = f.src)
    && decide (e.low ≤ f.dest.toNat) && decide (f.dest.toNat ≤ e.high)
    && e.kinds.getLsbD f.kind.toNat

/-- The number of the first entry of the active image, from entry 0 to entry length-1, that matches (R24). -/
def State.decidingEntry (s : State) (f : Frame) : Option Nat :=
  (List.range s.store.passActive.length).find? (fun e => (passEntry s.store.passActive e).matches f)

/-- The hit count of an entry increments, whatever the outcome of its action (R26). -/
def countHit (e : Nat) (s : State) : State :=
  s.onPass (fun p => { p with hits := p.hits.set e (bump (p.hits.getD e 0)) })

/-- The conditions of R30 under which a MOVE passes to hoist `h`. -/
def State.moveAllowed (s : State) (h : HoistNo) (target : Int) : Bool :=
  s.sup.device = .run && !s.sup.holdLine && (s.gate (gateOf h)).mode = .off
    && (!recordValid (s.record (gateOf h)) || s.inWindow (gateOf h) target)

/-- The hoists a SETPOINT reaches under POLICE: those mapped to its destination, or every mapped hoist for broadcast
(R30, R31). -/
def State.policedHoists (s : State) (f : Frame) : List HoistNo :=
  if f.dest = broadcast then allHoists.filter (fun h => s.driveOf h ≠ 0#8) else s.hoistsAt f.dest

/-- A frame policed as a setpoint: a SETPOINT addressed to a mapped drive or to broadcast (R32). -/
def State.policedAsSetpoint (s : State) (f : Frame) : Bool :=
  f.kind = kindSetpoint && (f.dest = broadcast || !(s.hoistsAt f.dest).isEmpty)

def setPolicedDrop (s : State) : State := s.onPass (fun p => { p with policedDrop := true })

/-- POLICE: whether the frame is forwarded, and POLICED-DROP (R30 to R33; notes/assumptions/13.md). -/
def police (f : Frame) (s : State) : Bool × State :=
  if s.policedAsSetpoint f then
    match readSetpoint f with
    | some (.stop, _) => (true, s)
    | some (.move, target) =>
      let hs := s.policedHoists f
      if hs.isEmpty then (decide (s.sup.device = .run) && !s.sup.holdLine, s)
      else if hs.all (fun h => s.moveAllowed h target) then (true, s)
      else (false, setPolicedDrop s)
    | none => (false, setPolicedDrop s)
  else (decide (s.sup.device = .run), s)

/-- Reading under SNOOP: a HOIST-STATUS or SAMPLE from a mapped source, addressed to some other station, without
acknowledgement matching (R28, R29). -/
def snoop (f : Frame) (s : State) : State :=
  if f.dest = broadcast then s
  else if f.kind = kindHoistStatus then receiveStatus f false s
  else if f.kind = kindSample && s.isLevelStation f.src then receiveSample f s
  else s

/-- A frame the Pass Filter forwards joins the transit FIFO, or is lost and counted when 8 frames are held (R13,
R14). -/
def joinTransit (f : Frame) (s : State) : State :=
  if s.ring.transit.length < 8 then arbitrate (s.onRing (fun r => { r with transit := r.transit ++ [f] }))
  else s.onRing (fun r => { r with transitLosses := bump r.transitLosses })

/-- SNOOP hands the data to its block and forwards the frame; the two act on different state, in an order the manual
leaves open (R28; notes/assumptions/1.md). -/
def snoopAndForward (f : Frame) (s : State) : State :=
  let c := chooseOrder 2 s
  if c.1 = 0 then joinTransit f (snoop f c.2) else snoop f (joinTransit f c.2)

/-- The action of the deciding entry (R27 to R32). An active entry has one of the four actions (R34); an image
without is not activated, and such a row would discard (notes/assumptions/20.md). -/
def actOnEntry (a : Option PassAction) (f : Frame) (s : State) : State :=
  match a with
  | some .forward => joinTransit f s
  | some .snoop => snoopAndForward f s
  | some .drop => s
  | some .police =>
    let p := police f s
    if p.1 then joinTransit f p.2 else p.2
  | none => s

/-- A transit frame is judged: the first matching entry decides, its hit counted; otherwise the default pass action
(R24 to R26). -/
def judge (f : Frame) (s : State) : State :=
  match s.decidingEntry f with
  | some e => actOnEntry (passEntry s.store.passActive e).action f (countHit e s)
  | none => if defaultDrop s.store.control then s else joinTransit f s

end Sys2Proof.Machine
end

