-- ==== Sys2Proof/Machine/Ring.lean ====
section
/-!
DEFINITION. The Ring Interface: FRAME_ARRIVAL, START_MARK_BEFORE_END_MARK and TRANSMISSION_COMPLETE
(01_the_gate_ring.md), with the admission of requests (R179).
-/

namespace Sys2Proof.Machine

/-- A frame that has failed the check is discarded and counted (R6, R7). -/
def countCheckError (s : State) : State := s.onRing (fun r => { r with checkErrors := bump r.checkErrors })

/-- Request intake: discarded for a source of class NONE; otherwise the frame joins the intake FIFO, or is lost with
REQUEST-LOST set when 4 frames are held (R179). -/
def admitRequest (f : Frame) (s : State) : State :=
  if s.classOf f.src = .unheard then s
  else if s.req.intake.length < 4 then s.onReq (fun q => { q with intake := q.intake ++ [f] })
  else s.onReq (fun q => { q with requestLost := true })

/-- A SAMPLE or HOIST-STATUS taken by the part: from a mapped source, with acknowledgement matching; otherwise
ignored (R9, R10). -/
def consumeData (f : Frame) (s : State) : State :=
  if f.kind = kindSample then if s.isLevelStation f.src then receiveSample f s else s
  else if f.kind = kindHoistStatus then receiveStatus f true s
  else s

/-- A frame addressed to the part, dispatched by kind (table of R9). -/
def dispatch (f : Frame) (s : State) : State :=
  if f.kind = kindOrder ∨ f.kind = kindManage then
    if f.src = 0#8 ∨ f.src = broadcast then s else admitRequest f s
  else consumeData f s

/-- A checked frame classified by its source and destination (R8 to R12). A broadcast is first consumed and then
judged (R11; notes/assumptions/21.md). -/
def classify (f : Frame) (s : State) : State :=
  if f.src = s.ring.own then s
  else if f.dest = s.ring.own then dispatch f s
  else if f.dest = broadcast then judge f (consumeData f s)
  else judge f s

/-- FRAME_ARRIVAL (R5, R6). -/
def frameArrives (ws : List Word) (strayBits : Nat) (s : State) : State :=
  match checkedFrame ws strayBits with
  | some f => classify f s
  | none => countCheckError s

/-- The transmission of hoist `h`'s frame has completed: a slot in SENDING whose tag the frame carried goes to SENT
and its acknowledgement timer starts (R19, R133). -/
def postSent (h : HoistNo) (tag : Byte) (s : State) : State :=
  match (s.hoist h).slot with
  | some sl =>
    if sl.phase = .sending ∧ sl.tag = tag then
      s.onHoist h (fun x =>
        { x with slot := some { sl with phase := .sent, ackTimer := some (ackTimeout s.store.control) } })
    else s
  | none => s

def ringOutIdle (s : State) : State := s.onRing (fun r => { r with out := .idle })

/-- TRANSMISSION_COMPLETE (R19): RING-OUT returns to IDLE, a post's owner is told, and the arbiter chooses again. With
RING-OUT IDLE there is no transmission to complete. -/
def transmissionCompletes (s : State) : State :=
  match s.ring.out with
  | .idle => s
  | .post h f => arbitrate (postSent h f.tag (ringOutIdle s))
  | .transit _ => arbitrate (ringOutIdle s)
  | .report _ => arbitrate (ringOutIdle s)

/-- FRAME_ARRIVAL. -/
def execFrameArrival (ws : List Word) (strayBits : Nat) (s : State) : Host.Outcome State Fault Refusal :=
  .next (settle (frameArrives ws strayBits s))

/-- TRANSMISSION_COMPLETE. -/
def execTransmissionComplete (s : State) : Host.Outcome State Fault Refusal := .next (settle (transmissionCompletes s))

/-- START_MARK_BEFORE_END_MARK (R5): the frame being received ends as malformed and is counted; a new frame begins.
What has been received of a frame is no state of the model (notes/assumptions/6.md). -/
def execStartMarkBeforeEndMark (s : State) : Host.Outcome State Fault Refusal := .next (countCheckError s)

end Sys2Proof.Machine
end

