-- ==== Sys2Proof/Machine/Requests.lean ====
section
/-!
DEFINITION. The MANAGE requests (10_management_requests_and_reports.md): rows, lengths, activation, clearing, gates,
the forced index and the soft reset. READ-STATE stands in ReadState.lean.
-/

namespace Sys2Proof.Machine

/-! ### Rights (R178) -/

/-- The OBSERVER right for a group permits READ-ROWS. -/
def State.observerReads (s : State) (group : Nat) : Bool := (rowAt s.store.access group).toNat = 1

/-- The OPERATOR right for a group: 0 NONE, 1 READ, 2 WRITE, 3 READ-WRITE. -/
def State.operatorRight (s : State) (group : Nat) : Nat := (rowAt s.store.access (6 + group)).toNat

/-- Who may READ-ROWS a table. -/
def State.mayRead (s : State) (src : Byte) (t : Table) : Bool :=
  match s.classOf src with
  | .engineer => true
  | .operator => s.operatorRight t.group = 1 || s.operatorRight t.group = 3
  | .observer => s.observerReads t.group
  | .unheard => false

/-- Who may WRITE-ROWS, SET-LENGTH and ACTIVATE a table: tables 1 and 2 are written by ENGINEER alone. -/
def State.mayWrite (s : State) (src : Byte) (t : Table) : Bool :=
  match s.classOf src with
  | .engineer => true
  | .operator => t ≠ .access && t ≠ .stations && (s.operatorRight t.group = 2 || s.operatorRight t.group = 3)
  | _ => false

/-- The class is ENGINEER. -/
def State.isEngineer (s : State) (src : Byte) : Bool := s.classOf src = .engineer

/-! ### READ-ROWS (R181, R61) -/

/-- Row `r` of a table; `pending` chooses the image of a table that has two. -/
def State.readRow (s : State) (t : Table) (pending : Bool) (r : Nat) : Word :=
  match t with
  | .control => rowAt s.store.control r
  | .access => rowAt s.store.access r
  | .stations => rowAt s.store.stations r
  | .hoistMap => rowAt s.store.hoistMap r
  | .pass => rowAt (if pending then s.store.passPending else s.store.passActive).rows r
  | .thresholds => rowAt s.store.thresholds r
  | .gate g => rowAt (s.record g) r
  | .header n => rowAt (if pending then (s.schedule n).pending else (s.schedule n).active).header r
  | .rows n => rowAt (if pending then (s.schedule n).pending else (s.schedule n).active).rows r

/-- The length of a table in rows (table of 10.3). -/
def State.lengthOf (s : State) (t : Table) (pending : Bool) : Nat :=
  match t with
  | .pass => 3 * (if pending then s.store.passPending else s.store.passActive).length
  | .rows n => scheduleLength (if pending then (s.schedule n).pending else (s.schedule n).active)
  | _ => t.capacity

structure ReadRows where
  table : Table
  start : Nat
  count : Nat
  pending : Bool
deriving DecidableEq, Repr

/-- `none` when MALFORMED: no word 1, a count of 0 or above 14, or an address in no table (R181, R192). That the count is
decided here, at step 2 of R180 and so before the right, is a DESIGN CHOICE: step 2 names no count, and R181 no step
(unsafe; notes/assumptions/26.md). -/
def readReadRows (f : Frame) : Option ReadRows :=
  let count := field (f.word 1) 0 4
  if 2 ≤ f.payload.length ∧ 1 ≤ count ∧ count ≤ 14 then
    (tableOfAddress (field (f.word 0) 0 12)).map (fun p => ⟨p.1, p.2, count, (f.word 1).getLsbD 15⟩)
  else none

/-- The rows in order, and BEYOND when any lies at or beyond the length of the image read (R181). -/
def readRowsAnswer (o : ReadRows) (s : State) : Answer :=
  if o.table.capacity < o.start + o.count then refuse .range
  else
    { result := .done
      beyond := decide (s.lengthOf o.table o.pending < o.start + o.count)
      data := (List.range o.count).map (fun k => s.readRow o.table o.pending (o.start + k)) }

/-- READ-ROWS by the steps of R180: MALFORMED, a bad count among its grounds (DESIGN CHOICE, notes/assumptions/26.md);
ACCESS; no refusal by the device state; then RANGE or the rows (R181). -/
def answerReadRows (f : Frame) (s : State) : Answer :=
  match readReadRows f with
  | some o => decideRequest s false (s.mayRead f.src o.table) true true (readRowsAnswer o s)
  | none => decideRequest s true true true true (refuse .malformed)

/-! ### WRITE-ROWS (R182) -/

structure WriteRows where
  table : Table
  start : Nat
  values : List Word
deriving DecidableEq, Repr

/-- `none` when MALFORMED: no value, or an address in no table (R182, R192). -/
def readWriteRows (f : Frame) : Option WriteRows :=
  if 2 ≤ f.payload.length then
    (tableOfAddress (field (f.word 0) 0 12)).map (fun p => ⟨p.1, p.2, f.payload.tail⟩)
  else none

/-- The write covers row `r`. -/
def WriteRows.covers (o : WriteRows) (r : Nat) : Bool := decide (o.start ≤ r) && decide (r < o.start + o.values.length)

/-- A number lies in `lo..hi`. -/
def inRange (lo hi x : Int) : Bool := decide (lo ≤ x) && decide (x ≤ hi)

/-- The gate record that would result meets the ranges and relations of R81. -/
def recordInRange (r : Vector Word 12) : Bool :=
  inRange 0 3 r[0].toNat && inRange (-2000) 2000 (trimOffset r)
    && inRange 0 11999 (lowerLimit r) && inRange (lowerLimit r + 1) 12000 (upperLimit r)
    && inRange 1 3 r[4].toNat && inRange 2 50 (arrivalTolerance r)
    && inRange 5 200 (trimThreshold r) && inRange 0 (trimThreshold r - 1) (trimRelease r)
    && inRange (trimThreshold r + 1) 500 (skewAlarm r) && inRange 10 1800 r[9].toNat

/-- An address a row may hold: 0..254, and not the own address (R85, R184). -/
def addressAllowed (own : Byte) (w : Word) : Bool := decide (w.toNat ≤ 254) && addressOf w ≠ own

/-- The Control Record that would result meets the ranges of R184, no bit set beyond the fields of rows 8, 9 and
15. -/
def controlInRange (own : Byte) (t : Vector Word 16) : Bool :=
  addressAllowed own t[0] && addressAllowed own t[1] && addressAllowed own t[2] && addressAllowed own t[3]
    && addressAllowed own t[4] && inRange 1 60 t[5].toNat && inRange 1 60 t[6].toNat && inRange 0 500 t[7].toNat
    && decide (t[8].toNat < 16) && (t[9] &&& 0b110011#16) = t[9]
    && inRange 10 1000 t[10].toNat && (t[11] = 0#16 || inRange 100 10000 t[11].toNat)
    && inRange 1 60 t[12].toNat && inRange 1 120 t[13].toNat && decide (t[15].toNat < 32)

/-- A value of the Access Record: OBSERVER rows NONE or READ, OPERATOR rows NONE, READ, WRITE or READ-WRITE; rows 12
and 13 are not written (R178). -/
def accessInRange (r : Nat) (w : Word) : Bool :=
  if r < 6 then decide (w.toNat ≤ 1) else if r < 12 then decide (w.toNat ≤ 3) else false

/-- A value of a schedule header: row 0 is not written, and each other field has its range (R57, R58). -/
def headerInRange (r : Nat) (w : Word) : Bool :=
  match r with
  | 1 => inRange (-8000) 12000 w.toInt
  | 2 => inRange 0 255 w.toNat
  | 3 => inRange 0 3000 w.toNat
  | 4 => inRange 0 2000 w.toNat
  | 5 => inRange 0 500 w.toNat
  | _ => false

/-- A value of the Threshold Set: rows 16 and 17 hold four settings, row 18 at most 60000 (R143). -/
def thresholdRowInRange (r : Nat) (w : Word) : Bool :=
  if r < 16 then true else if r < 18 then decide (w.toNat < 16) else decide (w.toNat ≤ 60000)

/-- Every value of a write passes a check by its row. -/
def WriteRows.each (o : WriteRows) (check : Nat → Word → Bool) : Bool :=
  (List.range o.values.length).all (fun k => check (o.start + k) (o.values.getD k 0#16))

/-- The rows of the Station Class table that would result are classes (notes/assumptions/18.md), one of them ENGINEER
(R177). -/
def stationsInRange (t : Vector Word 254) : Bool :=
  t.toList.all (fun w => decide (w.toNat ≤ 3)) && t.toList.any (fun w => w = 3#16)

/-- The gate is in OFF, or IDLE or FAULTED (R83). -/
def Gate.recordWritable (x : Gate) : Bool := x.mode = .off || x.motion = .idle || x.motion = .faulted

/-- The gate of every hoist a Hoist Map write covers is in OFF (R86). -/
def State.hoistsOff (s : State) (o : WriteRows) : Bool :=
  allHoists.all (fun h => !o.covers h.val || (s.gate (gateOf h)).mode = .off)

/-- The checks of the written table (R182). -/
def writeCheck (o : WriteRows) (s : State) : Result :=
  if o.table.capacity < o.start + o.values.length then .range
  else
    let ok := fun (b : Bool) => if b then Result.done else .range
    match o.table with
    | .control => ok (controlInRange s.ring.own (storeRows s.store.control o.start o.values))
    | .access => ok (o.each accessInRange)
    | .stations => ok (stationsInRange (storeRows s.store.stations o.start o.values))
    | .hoistMap => if s.hoistsOff o then ok (o.each (fun _ w => addressAllowed s.ring.own w)) else .busy
    | .pass => .done
    | .thresholds => ok (o.each thresholdRowInRange)
    | .gate g =>
      if o.covers 10 || o.covers 11 then .range
      else if !(s.gate g).recordWritable then .busy
      else ok (recordInRange (storeRows (s.record g) o.start o.values))
    | .header _ => ok (o.each headerInRange)
    | .rows _ => ok (o.each (fun _ w => decide (w.toNat ≤ 12000)))

/-- The channels whose binding differs between two Control Records (R53). -/
def changedBindings (before after : Vector Word 16) : List ChannelName :=
  allChannels.filter (fun c => binding before c ≠ binding after c)

/-- A taken write of the Control Record: stored at once, and changed bindings carried to the channels (R184, R53). -/
def writeControl (o : WriteRows) (s : State) : State :=
  let after := storeRows s.store.control o.start o.values
  rebindChannels (changedBindings s.store.control after) (s.onStore (fun t => { t with control := after }))

/-- A taken write of the Access Record increments row 12 (R178). -/
def writeAccess (o : WriteRows) (s : State) : State :=
  let after := storeRows s.store.access o.start o.values
  s.onStore (fun t => { t with access := after.set 12 (bumpWord after[12]) })

/-- A taken write of the Station Class table increments row 13 of the Access Record (R177). -/
def writeStations (o : WriteRows) (s : State) : State :=
  s.onStore (fun t =>
    { t with stations := storeRows t.stations o.start o.values, access := t.access.set 13 (bumpWord t.access[13]) })

/-- A hoist whose address is changed: its record invalid, its last-posted setpoint cleared (R86). -/
def Hoist.remapped (x : Hoist) : Hoist := { x with valid := false, lastPosted := none }

/-- A taken write of the Hoist Map (R86). -/
def writeHoistMap (o : WriteRows) (s : State) : State :=
  let s1 := s.onStore (fun t => { t with hoistMap := storeRows t.hoistMap o.start o.values })
  allHoists.foldl (fun acc h => if s1.driveOf h = s.driveOf h then acc else acc.onHoist h Hoist.remapped) s1

/-- A taken write of a gate record: stored, VALID, the write count incremented (R82). -/
def writeGateRecord (g : GateNo) (o : WriteRows) (s : State) : State :=
  let r := storeRows (s.record g) o.start o.values
  let r1 := (r.set 10 1#16).set 11 (bumpWord r[11])
  s.onStore (fun t => { t with gateRecords := t.gateRecords.set g.val r1 })

/-- Change a schedule. -/
def State.onSchedule (s : State) (n : ScheduleNo) (f : Schedule → Schedule) : State :=
  s.onStore (fun t => { t with schedules := t.schedules.set n.val (f (s.schedule n)) })

/-- A write that is taken reaches the pending image of a table that has one, and the single image of any other
(R182). -/
def writeTable (o : WriteRows) (s : State) : State :=
  match o.table with
  | .control => writeControl o s
  | .access => writeAccess o s
  | .stations => writeStations o s
  | .hoistMap => writeHoistMap o s
  | .pass => s.onStore (fun t =>
      { t with passPending := { t.passPending with rows := storeRows t.passPending.rows o.start o.values } })
  | .thresholds => s.onStore (fun t => { t with thresholds := storeRows t.thresholds o.start o.values })
  | .gate g => writeGateRecord g o s
  | .header n => s.onSchedule n (fun x =>
      { x with pending := { x.pending with header := storeRows x.pending.header o.start o.values } })
  | .rows n => s.onSchedule n (fun x =>
      { x with pending := { x.pending with rows := storeRows x.pending.rows o.start o.values } })

def answerWriteRows (f : Frame) (s : State) : Answer :=
  match readWriteRows f with
  | some o => decideRequest s false (s.mayWrite f.src o.table) false false (refuse (writeCheck o s))
  | none => decideRequest s true true false false (refuse .malformed)

def effectWriteRows (f : Frame) (s : State) : State :=
  match readWriteRows f with
  | some o => writeTable o s
  | none => s

/-! ### SET-LENGTH and ACTIVATE (R183) -/

/-- The tables SET-LENGTH and ACTIVATE apply to. -/
inductive ImageName
  | pass
  | schedule (n : ScheduleNo)
deriving DecidableEq, Repr

def imageOf (t : Table) : Option ImageName :=
  match t with
  | .pass => some .pass
  | .header n => some (.schedule n)
  | .rows n => some (.schedule n)
  | _ => none

/-- The image whose table identifier stands in bits 4-0 of word 0. -/
def namedImage (f : Frame) : Option (Table × ImageName) :=
  match tableOfId (field (f.word 0) 0 5) with
  | some t => (imageOf t).map (fun i => (t, i))
  | none => none

/-- `none` when MALFORMED: no word 1, or a table without a pending image (R183). -/
def readSetLength (f : Frame) : Option (Table × ImageName × Nat) :=
  if 2 ≤ f.payload.length then (namedImage f).map (fun p => (p.1, p.2, (f.word 1).toNat)) else none

/-- 0..32 entries for the Pass Table, 2..64 rows for a schedule (R183, R60). -/
def lengthCheck (i : ImageName) (n : Nat) : Result :=
  match i with
  | .pass => if n ≤ 32 then .done else .range
  | .schedule _ => if 2 ≤ n ∧ n ≤ 64 then .done else .range

def setLength (i : ImageName) (n : Nat) (s : State) : State :=
  match i with
  | .pass => s.onStore (fun t => { t with passPending := { t.passPending with length := n } })
  | .schedule k => s.onSchedule k (fun x =>
      { x with pending := { x.pending with header := x.pending.header.set 0 (BitVec.ofNat 16 n) } })

def answerSetLength (f : Frame) (s : State) : Answer :=
  match readSetLength f with
  | some (t, i, n) => decideRequest s false (s.mayWrite f.src t) false false (refuse (lengthCheck i n))
  | none => decideRequest s true true false false (refuse .malformed)

def effectSetLength (f : Frame) (s : State) : State :=
  match readSetLength f with
  | some (_, i, n) => setLength i n s
  | none => s

/-- An entry that may be activated: destination low in 1..255, high in low..255, one of the four actions (R34). -/
def PassEntry.activatable (e : PassEntry) : Bool := decide (1 ≤ e.low) && decide (e.low ≤ e.high) && e.action.isSome

/-- The validation of the pending image (R34, R62). -/
def activateCheck (i : ImageName) (s : State) : Result :=
  match i with
  | .pass =>
    if (List.range s.store.passPending.length).all (fun e => (passEntry s.store.passPending e).activatable) then .done
    else .notValid
  | .schedule n => if scheduleLength (s.schedule n).pending < 2 then .notValid else .done

/-- The rows below `n` of `new`, the others of `old`. -/
def copyRows {m : Nat} (n : Nat) (new old : Vector Word m) : Vector Word m := storeRows old 0 (new.toList.take n)

/-- The pending image copied to the active image: the length and entries 0..length-1 of the Pass Table, with every
hit count 0 (R34), or the header and all 64 rows of a schedule (R62). -/
def activateImage (i : ImageName) (s : State) : State :=
  match i with
  | .pass =>
    let p := s.store.passPending
    (s.onStore (fun t =>
        { t with passActive := ⟨p.length, copyRows (3 * p.length) p.rows t.passActive.rows⟩ })).onPass
      (fun x => { x with hits := List.replicate p.length 0 })
  | .schedule n => s.onSchedule n (fun x => { x with active := x.pending })

def answerActivate (f : Frame) (s : State) : Answer :=
  match namedImage f with
  | some (t, i) => decideRequest s false (s.mayWrite f.src t) false false (refuse (activateCheck i s))
  | none => decideRequest s true true false false (refuse .malformed)

def effectActivate (f : Frame) (s : State) : State :=
  match namedImage f with
  | some (_, i) => activateImage i s
  | none => s

/-! ### CLEAR-FLAGS (R186) -/

inductive FlagGroup
  | device | levels | pass
  | gate (g : GateNo)
  | threshold (c : ThresholdClass)
deriving DecidableEq, Repr

/-- Group code in bits 7-0 of word 0: 0 DEVICE, 1 LEVELS, 2 PASS, 16 + g, 32 + c (11.2). -/
def readClearFlags (f : Frame) : Option FlagGroup :=
  let n := field (f.word 0) 0 8
  if n = 0 then some .device
  else if n = 1 then some .levels
  else if n = 2 then some .pass
  else if 16 ≤ n ∧ n < 24 then (gateOfNat (n - 16)).map FlagGroup.gate
  else if 32 ≤ n ∧ n < 36 then (thresholdClassOfNat (n - 32)).map FlagGroup.threshold
  else none

def clearRetries (x : Hoist) : Hoist := { x with retry := false, exhausted := false }

def clearLoadFlags (x : Hoist) : Hoist := { x with monitor := x.monitor.clearFlags }

/-- The flags of one group cleared, and no others (R186). -/
def clearGroup (k : FlagGroup) (s : State) : State :=
  match k with
  | .device => s.onReq (fun q => { q with requestLost := false, noticeLost := false })
  | .levels => s.onLevels (fun l =>
      { l with up := { l.up with updated := false }, down := { l.down with updated := false } })
  | .pass => s.onPass (fun p => { p with policedDrop := false })
  | .gate g =>
    ((s.onGate g (fun x => { x with rangeFlag := false })).onHoist (leftHoist g) clearRetries).onHoist (rightHoist g)
      clearRetries
  | .threshold .levelU => s.onMonitor (fun m => { m with up := m.up.clearFlags })
  | .threshold .levelD => s.onMonitor (fun m => { m with down := m.down.clearFlags })
  | .threshold .head => s.onMonitor (fun m => { m with head := m.head.clearFlags })
  | .threshold .load => allHoists.foldl (fun acc h => acc.onHoist h clearLoadFlags) s

/-- CLEAR-FLAGS, CLEAR-GATE and RESUME-GATE are held by OPERATOR and ENGINEER (R178), as the orders are. -/
def answerClearFlags (f : Frame) (s : State) : Answer :=
  decideRequest s (readClearFlags f).isNone (s.mayOrder f.src) true false (refuse .done)

def effectClearFlags (f : Frame) (s : State) : State :=
  match readClearFlags f with
  | some k => clearGroup k s
  | none => s

/-! ### CLEAR-GATE (R166) and RESUME-GATE (R167, R168) -/

/-- The gate in bits 7-0 of word 0; 8 or more is MALFORMED. -/
def namedGate (f : Frame) : Option GateNo := gateOfNat (field (f.word 0) 0 8)

def clearGateResult (x : Gate) : Result :=
  match x.motion with
  | .faulted => .done
  | .faultStopping => .busy
  | _ => .notFaulted

/-- CLEAR-GATE on a FAULTED gate: the save record released, IDLE, and mode HOLD entered from IDLE (R166, R92). -/
def clearGate (g : GateNo) (s : State) : State :=
  enterHold g (s.onGate g (fun x =>
    { x with motion := .idle, save := { x.save with occupied := false, resumed := false } }))

def answerClearGate (f : Frame) (s : State) : Answer :=
  match namedGate f with
  | some g => decideRequest s false (s.mayOrder f.src) false false (refuse (clearGateResult (s.gate g)))
  | none => decideRequest s true true false false (refuse .malformed)

def effectClearGate (f : Frame) (s : State) : State :=
  match namedGate f with
  | some g => clearGate g s
  | none => s

/-- A standing condition: an HA or LA outcome held for either hoist, a drive not STILL, or the HOLD line asserted
(R167). -/
def State.standing (s : State) (g : GateNo) : Bool :=
  (s.leftOf g).monitor.outcomes.ha || (s.leftOf g).monitor.outcomes.la
    || (s.rightOf g).monitor.outcomes.ha || (s.rightOf g).monitor.outcomes.la
    || !s.bothStill g || s.sup.holdLine

/-- The checks of R167 in RUN. -/
def resumeResult (g : GateNo) (s : State) : Result :=
  let x := s.gate g
  if x.motion ≠ .faulted ∨ x.save.resumed then .notFaulted
  else if x.save.recoverable ≠ .yes then .notRecoverable
  else if s.standing g then .standing
  else if s.inWindow g x.save.target then .done
  else .range

/-- The saved move re-issued (R168): captured, the record marked resumed, and started even within tolerance. -/
def resumeGate (g : GateNo) (s : State) : State :=
  let r := (s.gate g).save
  startMove g (s.capture g r.target r.speed r.origin)
    (s.onGate g (fun x => { x with save := { x.save with resumed := true } }))

def answerResumeGate (f : Frame) (s : State) : Answer :=
  match namedGate f with
  | some g => decideRequest s false (s.mayOrder f.src) false false (refuse (resumeResult g s))
  | none => decideRequest s true true false false (refuse .malformed)

def effectResumeGate (f : Frame) (s : State) : State :=
  match namedGate f with
  | some g => resumeGate g s
  | none => s

/-! ### FORCE-INDEX, RELEASE-INDEX (R68) and SOFT-RESET (R172) -/

def answerForceIndex (f : Frame) (s : State) : Answer :=
  decideRequest s (decide (f.payload.length < 2)) (s.isEngineer f.src) false false
    (refuse (if (f.word 1).toNat ≤ 63 then .done else .range))

def effectForceIndex (f : Frame) (s : State) : State := { s with forcedIndex := some (f.word 1).toNat }

def answerReleaseIndex (f : Frame) (s : State) : Answer :=
  decideRequest s false (s.isEngineer f.src) false false (refuse .done)

def effectReleaseIndex (_ : Frame) (s : State) : State := { s with forcedIndex := none }

/-- SOFT-RESET is taken in RUN and LOCKOUT and refused with BUSY in DRAIN (R172). -/
def answerSoftReset (f : Frame) (s : State) : Answer :=
  decideRequest s false (s.isEngineer f.src) true false (refuse .done)

def effectSoftReset (_ : Frame) (s : State) : State := enterDrain s

/-! ### The meanings -/

/-- WRITE_ROWS (R182). -/
def execWriteRows (s : State) : Host.Outcome State Fault Refusal :=
  .next (serve .writeRows answerWriteRows effectWriteRows s)

/-- READ_ROWS (R181). Reading changes nothing but the report FIFO. -/
def execReadRows (s : State) : Host.Outcome State Fault Refusal :=
  .next (serve .readRows answerReadRows (fun _ t => t) s)

/-- SET_LENGTH (R183). -/
def execSetLength (s : State) : Host.Outcome State Fault Refusal :=
  .next (serve .setLength answerSetLength effectSetLength s)

/-- ACTIVATE (R183). -/
def execActivate (s : State) : Host.Outcome State Fault Refusal :=
  .next (serve .activate answerActivate effectActivate s)

/-- CLEAR_FLAGS (R186). -/
def execClearFlags (s : State) : Host.Outcome State Fault Refusal :=
  .next (serve .clearFlags answerClearFlags effectClearFlags s)

/-- CLEAR_GATE (R166). -/
def execClearGate (s : State) : Host.Outcome State Fault Refusal :=
  .next (serve .clearGate answerClearGate effectClearGate s)

/-- RESUME_GATE (R167, R168). -/
def execResumeGate (s : State) : Host.Outcome State Fault Refusal :=
  .next (serve .resumeGate answerResumeGate effectResumeGate s)

/-- FORCE_INDEX (R68). -/
def execForceIndex (s : State) : Host.Outcome State Fault Refusal :=
  .next (serve .forceIndex answerForceIndex effectForceIndex s)

/-- RELEASE_INDEX (R68). -/
def execReleaseIndex (s : State) : Host.Outcome State Fault Refusal :=
  .next (serve .releaseIndex answerReleaseIndex effectReleaseIndex s)

/-- SOFT_RESET (R172). -/
def execSoftReset (s : State) : Host.Outcome State Fault Refusal :=
  .next (serve .softReset answerSoftReset effectSoftReset s)

end Sys2Proof.Machine
end

