-- ==== Sys2Proof/Machine/ReadState.lean ====
section
/-!
DEFINITION. READ-STATE and the words of its sections (R185; 11.3).
-/

namespace Sys2Proof.Machine

/-- The section a READ-STATE names, with its argument. -/
inductive StateSection
  | device
  | gate (g : GateNo)
  | saveRecord (g : GateNo)
  | levels
  | threshold (c : ThresholdClass)
  | pass (start : Nat)
deriving DecidableEq, Repr

/-- Bits 11-8 of word 0 name the section and bits 7-0 the gate, class or start entry; an unknown section, gate or
class is MALFORMED (R185). -/
def readReadState (f : Frame) : Option StateSection :=
  let a := field (f.word 0) 0 8
  match field (f.word 0) 8 4 with
  | 0 => some .device
  | 1 => (gateOfNat a).map StateSection.gate
  | 2 => (gateOfNat a).map StateSection.saveRecord
  | 3 => some .levels
  | 4 => (thresholdClassOfNat a).map StateSection.threshold
  | 5 => some (.pass a)
  | _ => none

/-- A count or a non-negative figure in a word of its own. -/
def wordOfNat (n : Nat) : Word := BitVec.ofNat 16 n

/-- How many entries of the report FIFO are occupied; the reservation of the request's own reply is not
(notes/assumptions/9.md). -/
def reportCount (r : List ReportEntry) : Nat := r.countP (fun e => e ≠ .reserved)

/-- The device section: 7 words. The forced value of a RELEASED index reads 0: DESIGN CHOICE
(notes/assumptions/23.md). -/
def deviceWords (s : State) : List Word :=
  [pack [(s.sup.device.code, 14), (s.sup.lockoutCause.code, 12),
      ((match s.sup.lockoutGate with
        | some g => g.val
        | none => 15), 8),
      (flag s.sup.holdLine, 7), (flag s.monitor.faultLine, 6), (flag s.forcedIndex.isSome, 5),
      (flag s.req.requestLost, 4), (flag s.req.noticeLost, 3), (flag s.pass.policedDrop, 2),
      (flag s.levels.up.stale, 1), (flag s.levels.down.stale, 0)],
    pack [(s.forcedIndex.getD 0, 8), (s.req.intake.length, 5), (reportCount s.req.report, 0)],
    pack [(noticeCount s.req.report, 8), (s.post.tagCounter.toNat, 0)],
    s.store.control[14], s.store.control[15], wordOfNat s.ring.checkErrors, wordOfNat s.ring.transitLosses]

/-- Tag and tries of a slot. Those of an empty one read 0: DESIGN CHOICE (notes/assumptions/23.md). -/
def slotWord (x : Hoist) : Word :=
  match x.slot with
  | some sl => pack [(sl.tag.toNat, 8), (sl.tries, 0)]
  | none => 0#16

/-- The byte of word 12 of the gate section for one hoist. -/
def hoistByte (x : Hoist) : Nat :=
  slotPhaseCode x.slot * 64 + (match x.slot with
    | some sl => sl.setpoint.command.code
    | none => 0) * 16
    + flag x.retry * 8 + flag x.exhausted * 4 + flag x.settleTimer.isSome * 2 + flag x.valid

/-- A last-posted setpoint: command in bit 14 (1 = STOP), target in bits 13-0; bit 15 when none is held. -/
def lastPostedWord (x : Hoist) : Word :=
  match x.lastPosted with
  | some sp => pack [(flag (decide (sp.command = .stop)), 14), (field (word sp.target) 0 14, 0)]
  | none => 0x8000#16

/-- The gate section: 14 words (R123, R137, R139, R149). With no move in flight the direction bit and the in-flight
target (word 3) read 0, and with an empty queue the head's origin, form, speed (word 8) and value (word 9): DESIGN
CHOICE (notes/assumptions/23.md). -/
def gateWords (g : GateNo) (s : State) : List Word :=
  let x := s.gate g
  let l := s.leftOf g
  let r := s.rightOf g
  let head := x.queue.head?
  [pack [(x.mode.code, 13), (x.motion.code, 10),
      (flag (match x.context with
        | some c => c.up && x.inFlightTarget.isSome
        | none => false), 9),
      (flag x.closurePending, 8), (flag x.tideClosed, 7), (flag x.rangeFlag, 6), (x.queue.length, 3),
      (flag x.inFlightTarget.isSome, 2)],
    word x.standing, word (x.inFlightTarget.getD 0), word l.position, word r.position, word l.load, word r.load,
    pack [(l.drive.code, 14), (r.drive.code, 12),
      ((match head with
        | some e => e.origin.code
        | none => 0), 8),
      ((match head with
        | some e => flag (decide (e.form = .relative))
        | none => 0), 7),
      ((match head with
        | some e => (match e.speed with
          | some sp => sp.code
          | none => 0)
        | none => 0), 5)],
    (match head with
      | some e => word e.value
      | none => 0#16),
    slotWord l, slotWord r, pack [(hoistByte l, 8), (hoistByte r, 0)], lastPostedWord l, lastPostedWord r]

/-- The save record section: 6 words (R159). With a saved origin other than ORDER word 6, the originator address and
order tag, reads 0: DESIGN CHOICE (notes/assumptions/23.md). -/
def saveWords (x : SaveRecord) : List Word :=
  [pack [(flag x.occupied, 15), (flag x.resumed, 14), (x.firstCause.code, 11), (x.stateAtFault.code, 8),
      (x.recoverable.code, 6), (x.speed.code, 4), (x.origin.code, 0)],
    wordOfNat x.causes.toNat, word x.target, word x.left, word x.right,
    (match x.origin with
      | .order src tag => pack [(src.toNat, 8), (tag.toNat, 0)]
      | _ => 0#16)]

/-- The four bits of a channel in word 1 of the levels section. -/
def channelNibble (c : Channel) : Nat := c.state.code * 4 + flag c.coarse * 2 + flag c.clamped

/-- The four bits of a side in word 6 of the levels section. -/
def sideNibble (x : Side) : Nat := x.state.code * 4 + flag x.disagree * 2 + flag x.updated

/-- The levels section: 9 words (R56). -/
def levelWords (l : LevelUnit) : List Word :=
  [pack [(channelNibble l.u1, 12), (channelNibble l.u2, 8), (channelNibble l.d1, 4), (channelNibble l.d2, 0)],
    word l.u1.value, word l.u2.value, word l.d1.value, word l.d2.value,
    pack [(sideNibble l.up, 4), (sideNibble l.down, 0)], word l.up.level, word l.down.level, word l.head]

/-- The byte of a quantity in the threshold section. -/
def quantityByte (q : Quantity) : Nat := q.flags.code * 16 + q.outcomes.code

/-- The bytes of the 16 loads, two a word, the lower-numbered hoist in bits 15-8. -/
def loadWords (s : State) : List Word :=
  allGates.map (fun g => pack [(quantityByte (s.leftOf g).monitor, 8), (quantityByte (s.rightOf g).monitor, 0)])

/-- Bit h for each hoist whose settle timer runs. -/
def settleWord (s : State) : Word :=
  pack (allHoists.map (fun h => (flag (s.hoist h).settleTimer.isSome, h.val)))

/-- The threshold section of one class (R157): 5 words, or 14 for LOAD. -/
def thresholdWords (c : ThresholdClass) (s : State) : List Word :=
  let t := s.store.thresholds
  [word (threshold t c 0), word (threshold t c 1), word (threshold t c 2), word (threshold t c 3)]
    ++ match c with
      | .levelU => [pack [(quantityByte s.monitor.up, 8)]]
      | .levelD => [pack [(quantityByte s.monitor.down, 8)]]
      | .head => [pack [(quantityByte s.monitor.head, 8)]]
      | .load => loadWords s ++ [t[18], settleWord s]

/-- How many counts the pass section returns: up to 14, stopping at entry 31 (R185). -/
def passCount (start : Nat) : Nat := min 14 (32 - start)

/-- The pass section: the hit counts from the start entry, BEYOND when an entry lies at or beyond the active length,
which reads 0; POLICED-DROP and the active length in the section field (R26, R185, 11.3). -/
def passAnswer (start : Nat) (s : State) : Answer :=
  if 32 ≤ start then refuse .range
  else
    { result := .done
      beyond := decide (s.store.passActive.length < start + passCount start)
      sectionBits := flag s.pass.policedDrop * 64 + s.store.passActive.length
      data := (List.range (passCount start)).map (fun k =>
        wordOfNat (if start + k < s.store.passActive.length then s.pass.hits.getD (start + k) 0 else 0)) }

/-- The latch settings of a class in bits 9 and 8 of word 0. -/
def latchBits (t : Vector Word 19) (c : ThresholdClass) : Nat := flag (alarmLatched t c) * 2 + flag (warningLatched t c)

/-- One section as one reading (R185). -/
def sectionAnswer (k : StateSection) (s : State) : Answer :=
  match k with
  | .device => { result := .done, data := deviceWords s }
  | .gate g => { result := .done, data := gateWords g s }
  | .saveRecord g => { result := .done, data := saveWords (s.gate g).save }
  | .levels => { result := .done, data := levelWords s.levels }
  | .threshold c => { result := .done, sectionBits := latchBits s.store.thresholds c, data := thresholdWords c s }
  | .pass start => passAnswer start s

/-- READ-STATE is held by every class that is heard (R178), and taken in every device state (R180). -/
def answerReadState (f : Frame) (s : State) : Answer :=
  match readReadState f with
  | some k => decideRequest s false true true true (sectionAnswer k s)
  | none => decideRequest s true true true true (refuse .malformed)

/-- READ_STATE (R185). Reading changes nothing but the report FIFO. -/
def execReadState (s : State) : Host.Outcome State Fault Refusal :=
  .next (serve .readState answerReadState (fun _ t => t) s)

end Sys2Proof.Machine
end

