-- ==== Sys2Proof/Machine/Timers.lean ====
section
/-!
DEFINITION. The expiries of the timers of channels, hoists and gates. A timer that does not run does not expire: its
command then changes nothing (R42, R114, R116, R135; notes/assumptions/7.md).
-/

namespace Sys2Proof.Machine

/-- An age timer expires: the channel goes from FRESH to AGED and its side is recomputed (R42). -/
def ageExpires (c : ChannelName) (s : State) : State :=
  if (s.levels.channel c).ageTimer.isNone then s
  else recomputeSides [c] (s.onChannel c (fun x => { x with state := .aged, ageTimer := none }))

/-- The slot's frame rejoins the tail of the post queue with its tag, in phase WAITING (R135). -/
def rejoin (h : HoistNo) (sl : Slot) (s : State) : State :=
  arbitrate ((s.onHoist h (fun x => { x with slot := some { sl with phase := .waiting, ackTimer := none } })).onPost
    (fun p => { p with queue := p.queue ++ [h] }))

/-- Past the retry limit (R136): under KEEP retry-exhausted is set and the frame rejoins; under ABANDON the slot is
emptied and, but in DRAIN, the gate takes DRIVE-SILENT. -/
def exhaust (h : HoistNo) (sl : Slot) (s : State) : State :=
  if abandonAction s.store.control then
    if s.sup.device = .drain then testDrain (emptySlot h s)
    else reachCause (gateOf h) .driveSilent (emptySlot h s)
  else rejoin h sl (s.onHoist h (fun x => { x with exhausted := true }))

/-- An acknowledgement timer expires: the tries count increments, stopping at 255, the retry flag is set, and the
frame is sent again or the slot is exhausted (R135). -/
def ackExpires (h : HoistNo) (s : State) : State :=
  match (s.hoist h).slot with
  | some sl =>
    if sl.phase = .sent ∧ sl.ackTimer.isSome then
      let sl1 := { sl with tries := min 255 (sl.tries + 1), ackTimer := none }
      let s1 := s.onHoist h (fun x => { x with slot := some sl1, retry := true })
      if sl1.tries ≤ retryLimit s.store.control then rejoin h sl1 s1 else exhaust h sl1 s1
    else s
  | none => s

/-- The conditions under which an expiry posts the setpoint again (R138). -/
def State.mayRefresh (s : State) (h : HoistNo) (sp : Setpoint) : Bool :=
  (s.gate (gateOf h)).mode ≠ .off && (s.hoist h).slot.isNone
    && (sp.command = .stop || (s.sup.device = .run && !s.sup.holdLine))

/-- A refresh timer expires: it restarts, and the last-posted setpoint is posted again when the conditions hold
(R138). -/
def refreshExpires (h : HoistNo) (s : State) : State :=
  if (s.hoist h).refreshTimer.isNone then s
  else
    let s1 := restartRefresh h s
    match (s.hoist h).lastPosted with
    | some sp => if s.mayRefresh h sp then post h sp s1 else s1
    | none => s1

/-- A move timer expires in MOVING or TRIM: fault MOVE-TIMEOUT (R114). -/
def moveTimerExpires (g : GateNo) (s : State) : State :=
  if (s.gate g).moveTimer.isNone then s
  else
    let s1 := s.onGate g (fun x => { x with moveTimer := none })
    if (s.gate g).inFlight then reachCause g .moveTimeout s1 else s1

/-- A stop timer expires: in STOPPING fault STOP-TIMEOUT (R116); in FAULT-STOPPING the cause is added and, in RUN, a
lockout STOP-FAILED demanded (R164). -/
def stopTimerExpires (g : GateNo) (s : State) : State :=
  if (s.gate g).stopTimer.isNone then s
  else
    let s1 := s.onGate g (fun x => { x with stopTimer := none })
    match (s.gate g).motion with
    | .stopping => reachCause g .stopTimeout s1
    | .faultStopping => demandLockout .stopFailed g (reachCause g .stopTimeout s1)
    | _ => s1

/-- AGE_TIMER_EXPIRY. -/
def execAgeTimerExpiry (c : ChannelName) (s : State) : Host.Outcome State Fault Refusal :=
  .next (settle (ageExpires c s))

/-- ACK_TIMER_EXPIRY. -/
def execAckTimerExpiry (h : HoistNo) (s : State) : Host.Outcome State Fault Refusal :=
  .next (settle (ackExpires h s))

/-- REFRESH_TIMER_EXPIRY. -/
def execRefreshTimerExpiry (h : HoistNo) (s : State) : Host.Outcome State Fault Refusal :=
  .next (settle (refreshExpires h s))

/-- MOVE_TIMER_EXPIRY. -/
def execMoveTimerExpiry (g : GateNo) (s : State) : Host.Outcome State Fault Refusal :=
  .next (settle (moveTimerExpires g s))

/-- STOP_TIMER_EXPIRY. -/
def execStopTimerExpiry (g : GateNo) (s : State) : Host.Outcome State Fault Refusal :=
  .next (settle (stopTimerExpires g s))

/-- SETTLE_TIMER_EXPIRY (R149): the timer stops, and no comparison is made. -/
def execSettleTimerExpiry (h : HoistNo) (s : State) : Host.Outcome State Fault Refusal :=
  .next (s.onHoist h (fun x => { x with settleTimer := none }))

end Sys2Proof.Machine
end

