-- ==== Sys2Proof/Machine/Dispatch.lean ====
section
/-!
DEFINITION. One arm per command: each is one call of the command's own meaning.
-/

namespace Sys2Proof.Machine

/-- The effect of a command on everything but the queue of waiting commands. -/
def exec (i : Instr) (s : State) : Host.Outcome State Fault Refusal :=
  match i with
  | .frameArrival words strayBits => Sys2Proof.Machine.execFrameArrival words strayBits s
  | .transmissionComplete => Sys2Proof.Machine.execTransmissionComplete s
  | .hardReset saddr caddr hold => Sys2Proof.Machine.execHardReset saddr caddr hold s
  | .holdLineAsserted => Sys2Proof.Machine.execHoldLineAsserted s
  | .holdLineReleased => Sys2Proof.Machine.execHoldLineReleased s
  | .ageTimerExpiry c => Sys2Proof.Machine.execAgeTimerExpiry c s
  | .ackTimerExpiry h => Sys2Proof.Machine.execAckTimerExpiry h s
  | .refreshTimerExpiry h => Sys2Proof.Machine.execRefreshTimerExpiry h s
  | .moveTimerExpiry g => Sys2Proof.Machine.execMoveTimerExpiry g s
  | .stopTimerExpiry g => Sys2Proof.Machine.execStopTimerExpiry g s
  | .settleTimerExpiry h => Sys2Proof.Machine.execSettleTimerExpiry h s
  | .drainTimerExpiry => Sys2Proof.Machine.execDrainTimerExpiry s
  | .drainCompletion => Sys2Proof.Machine.execDrainCompletion s
  | .setMode => Sys2Proof.Machine.execSetMode s
  | .moveTo => Sys2Proof.Machine.execMoveTo s
  | .moveBy => Sys2Proof.Machine.execMoveBy s
  | .stop => Sys2Proof.Machine.execStop s
  | .cancel => Sys2Proof.Machine.execCancel s
  | .writeRows => Sys2Proof.Machine.execWriteRows s
  | .readRows => Sys2Proof.Machine.execReadRows s
  | .setLength => Sys2Proof.Machine.execSetLength s
  | .activate => Sys2Proof.Machine.execActivate s
  | .readState => Sys2Proof.Machine.execReadState s
  | .clearFlags => Sys2Proof.Machine.execClearFlags s
  | .clearGate => Sys2Proof.Machine.execClearGate s
  | .resumeGate => Sys2Proof.Machine.execResumeGate s
  | .forceIndex => Sys2Proof.Machine.execForceIndex s
  | .releaseIndex => Sys2Proof.Machine.execReleaseIndex s
  | .softReset => Sys2Proof.Machine.execSoftReset s
  | .startMarkBeforeEndMark => Sys2Proof.Machine.execStartMarkBeforeEndMark s

end Sys2Proof.Machine
end

