-- ==== Sys2Proof/Safety.lean ====
section
/-!
DEFINITION. What a safe run of the part is: the rules about the whole part that every step keeps, each as a property
of a state, with the words in which effects and frames are stated.
-/

namespace Sys2Proof.Machine

/-! ### Words for frames -/

/-- A hoist but for the phase of its slot, which a grant of RING-OUT moves from WAITING to SENDING (R133). -/
def Hoist.exceptPhase (x : Hoist) : Hoist := { x with slot := x.slot.map (fun sl => { sl with phase := .waiting }) }

/-- Between `s` and `t` nothing has happened but traffic: grants of RING-OUT, the progress of the intake and report
FIFOs, and the FAULT line. -/
structure OnlyTraffic (s t : State) : Prop where
  own : t.ring.own = s.ring.own
  commissioning : t.ring.commissioning = s.ring.commissioning
  checkErrors : t.ring.checkErrors = s.ring.checkErrors
  transitLosses : t.ring.transitLosses = s.ring.transitLosses
  pass : t.pass = s.pass
  levels : t.levels = s.levels
  forcedIndex : t.forcedIndex = s.forcedIndex
  gates : t.gates = s.gates
  hoists : ∀ h, (t.hoist h).exceptPhase = (s.hoist h).exceptPhase
  tagCounter : t.post.tagCounter = s.post.tagCounter
  up : t.monitor.up = s.monitor.up
  down : t.monitor.down = s.monitor.down
  head : t.monitor.head = s.monitor.head
  sup : t.sup = s.sup
  requestLost : t.req.requestLost = s.req.requestLost
  noticeLost : t.req.noticeLost = s.req.noticeLost
  store : t.store = s.store
  orders : t.orders = s.orders
  pending : t.pending = s.pending

/-- Between `s` and `t` nothing has happened but traffic and notices, which take tags (R188) and may be lost (R187).
-/
structure OnlyNotices (s t : State) : Prop where
  own : t.ring.own = s.ring.own
  commissioning : t.ring.commissioning = s.ring.commissioning
  checkErrors : t.ring.checkErrors = s.ring.checkErrors
  transitLosses : t.ring.transitLosses = s.ring.transitLosses
  pass : t.pass = s.pass
  levels : t.levels = s.levels
  forcedIndex : t.forcedIndex = s.forcedIndex
  gates : t.gates = s.gates
  hoists : ∀ h, (t.hoist h).exceptPhase = (s.hoist h).exceptPhase
  up : t.monitor.up = s.monitor.up
  down : t.monitor.down = s.monitor.down
  head : t.monitor.head = s.monitor.head
  sup : t.sup = s.sup
  requestLost : t.req.requestLost = s.req.requestLost
  store : t.store = s.store
  orders : t.orders = s.orders
  pending : t.pending = s.pending

/-- What no move, stop, fault or lockout touches: addresses and counts, the Pass Filter, the Level Unit, the forced
index, the tables, the intake FIFO, the HOLD line, and the drives' figures in the hoist records. -/
structure SameSurroundings (s t : State) : Prop where
  own : t.ring.own = s.ring.own
  commissioning : t.ring.commissioning = s.ring.commissioning
  checkErrors : t.ring.checkErrors = s.ring.checkErrors
  transitLosses : t.ring.transitLosses = s.ring.transitLosses
  pass : t.pass = s.pass
  levels : t.levels = s.levels
  forcedIndex : t.forcedIndex = s.forcedIndex
  store : t.store = s.store
  holdLine : t.sup.holdLine = s.sup.holdLine
  requestLost : t.req.requestLost = s.req.requestLost
  position : ∀ h, (t.hoist h).position = (s.hoist h).position
  load : ∀ h, (t.hoist h).load = (s.hoist h).load
  drive : ∀ h, (t.hoist h).drive = (s.hoist h).drive
  valid : ∀ h, (t.hoist h).valid = (s.hoist h).valid
  retry : ∀ h, (t.hoist h).retry = (s.hoist h).retry
  exhausted : ∀ h, (t.hoist h).exhausted = (s.hoist h).exhausted
  pending : t.pending = s.pending

/-- The state a command leaves: no request could start its execution, and the FAULT line is up to date. -/
def State.Settled (s : State) : Prop := s.mayExecute = false ∧ s.monitor.faultLine = s.faultDemanded

/-- An own frame has been placed: it waits in the report FIFO, or RING-OUT sends it, sealed. -/
def State.Placed (t : State) (e : ReportEntry) (f : OwnFrame) : Prop :=
  e ∈ t.req.report ∨ t.ring.out = .report (sealFrame t.ring.own f)

/-- The reply to the request `f` has been placed (R180). -/
def State.Replied (t : State) (f : Frame) (a : Answer) : Prop :=
  t.Placed (.reply ⟨f.src, kindReply, f.tag, a.payload⟩) ⟨f.src, kindReply, f.tag, a.payload⟩

/-- The slot of hoist `h` holds the setpoint `sp`, addressed to its mapped drive, with tries 0, and it is the
last-posted setpoint (R131, R132). -/
def State.Posted (t : State) (h : HoistNo) (sp : Setpoint) : Prop :=
  (∃ tag phase, tag ≠ 0#8 ∧ (phase = .waiting ∨ phase = .sending) ∧
    (t.hoist h).slot = some ⟨sp, t.driveOf h, tag, 0, phase, none⟩) ∧
  (t.hoist h).lastPosted = some sp

/-- The request `f`, named `r`, is under way, its report entry reserved, and its source heard (R180;
notes/assumptions/3.md). -/
def State.Executing (s : State) (r : RequestName) (f : Frame) : Prop :=
  s.req.executing = some f ∧ requestName f = some r ∧ .reserved ∈ s.req.report ∧ s.classOf f.src ≠ .unheard

/-- A frame that passes the check and is not stripped arrives (R5, R6, R8). -/
def State.Arrives (s : State) (ws : List Word) (strayBits : Nat) (f : Frame) : Prop :=
  checkedFrame ws strayBits = some f ∧ f.src ≠ s.ring.own

/-- A notice offered now has room, and a destination is set (R187, R188). -/
def State.NoticeRoom (s : State) : Prop :=
  noticeDest s.store.control ≠ 0#8 ∧ noticeCount s.req.report < 12 ∧ s.req.report.length < 16

/-- Two notices offered now have room, whether or not the first leaves at once (R187, R188). -/
def State.TwoNoticesRoom (s : State) : Prop :=
  noticeDest s.store.control ≠ 0#8 ∧ noticeCount s.req.report < 11 ∧ s.req.report.length < 15

/-- The SIDE-STATE notice of side `n` as the Level Unit stands in `levels`, its state before `previous` (R45, 11.3,
11.4). -/
def State.sideNotice (s : State) (n : SideName) (levels : LevelUnit) (previous : SideState) (tag : Byte) : OwnFrame :=
  let side := fun (x : SideState) => match x with
    | .noData => 0 | .valid => 1 | .stale => 2
  let channel := fun (x : Channel) => match x.state with
    | .noData => 0 | .fresh => 1 | .aged => 2 | .faulted => 3
  ⟨noticeDest s.store.control, kindNotice, tag,
    [if n = .up then 0x0400#16 else 0x0401#16,
      BitVec.ofNat 16 (side (levels.side n).state + 4 * side previous + 16 * channel (levels.pair n).1
        + 64 * channel (levels.pair n).2),
      word (levels.side n).level]⟩

/-- The LOCKOUT notice of a lockout of cause `c` that gate `g` demanded (R170, 11.3, 11.4). -/
def State.lockoutNotice (s : State) (g : GateNo) (c : LockoutCause) (tag : Byte) : OwnFrame :=
  ⟨noticeDest s.store.control, kindNotice, tag,
    [BitVec.ofNat 16 (0x0600 + g.val),
      match c with
      | .unset => 0#16 | .responseOff => 1#16 | .recoveryFault => 2#16 | .stopFailed => 3#16]⟩

/-- The data of a frame reach the part: it is addressed to the part or broadcast, or a SNOOP entry decides it (R9, R11,
R28). -/
def State.Consumes (s : State) (f : Frame) : Prop :=
  f.dest = s.ring.own ∨ f.dest = 255#8 ∨
    ∃ e, s.decidingEntry f = some e ∧ (passEntry s.store.passActive e).action = some .snoop

/-- A readable HOIST-STATUS `f` with data `d` arrives, reaches the part, and comes from the drive of hoist `h` alone
(R10, R126, R127). -/
structure State.StatusReaches (s : State) (ws : List Word) (strayBits : Nat) (f : Frame) (d : StatusData)
    (h : HoistNo) : Prop where
  arrives : s.Arrives ws strayBits f
  kind : f.kind = kindHoistStatus
  data : readStatus f = some d
  hoist : s.hoistsAt f.src = [h]
  consumed : s.Consumes f

/-- The record of hoist `h` as a status leaves it, position and load clamped (R126). -/
def State.withStatus (s : State) (h : HoistNo) (d : StatusData) : State :=
  s.onHoist h (fun x => { x with position := max 0 (min 16000 d.position), load := max (-4000) (min 4000 d.load),
                                 drive := d.drive, valid := true })

/-- The load lies above the HA threshold of its class (R146). -/
def State.Overloads (s : State) (load : Int) : Prop := threshold s.store.thresholds .load 0 < load

/-- The load lies below the LA threshold of its class (R146). -/
def State.Slackens (s : State) (load : Int) : Prop := load < threshold s.store.thresholds .load 3

/-- The status gives neither OVERLOAD nor SLACK to the gate of hoist `h` (R151). -/
def State.LoadCalm (s : State) (h : HoistNo) (d : StatusData) : Prop :=
  let load := ((s.withStatus h d).hoist h).load
  ¬s.Overloads load ∧ ¬s.Slackens load

/-- What a comparison of `value` makes of a quantity: each outcome by a strict comparison, LW and LA false when
inhibited; a live flag its outcome, a latched one set by it and kept otherwise (R146, R147, R150). -/
structure ComparedFrom (before after : Quantity) (t : Vector Word 19) (c : ThresholdClass) (value : Int)
    (inhibited : Bool) : Prop where
  ha : after.outcomes.ha = decide (threshold t c 0 < value)
  hw : after.outcomes.hw = decide (threshold t c 1 < value)
  lw : after.outcomes.lw = (!inhibited && decide (value < threshold t c 2))
  la : after.outcomes.la = (!inhibited && decide (value < threshold t c 3))
  haFlag : after.flags.ha = (after.outcomes.ha || (alarmLatched t c && before.flags.ha))
  hwFlag : after.flags.hw = (after.outcomes.hw || (warningLatched t c && before.flags.hw))
  lwFlag : after.flags.lw = (after.outcomes.lw || (warningLatched t c && before.flags.lw))
  laFlag : after.flags.la = (after.outcomes.la || (alarmLatched t c && before.flags.la))

/-- The THRESHOLD notices of the one comparison made between `s` and `t`: one for an alarm flag (kind 0 HA, 3 LA) that
rises while its group is enabled, HA first, and no tag taken when none is due (R155). The gate byte of the notice is
notes/assumptions/11.md. -/
def State.NoticesAlarms (s t : State) (c : ThresholdClass) (quantity : Nat) (value : Int) (before after : Quad) : Prop :=
  let rises := fun (k : Nat) =>
    before.kind k = false ∧ after.kind k = true ∧ groupEnabled s.store.control c k = true
  let notice : Nat → OwnFrame := fun k => ⟨noticeDest s.store.control, kindNotice, nextTag s.post.tagCounter,
    [0x0500#16, pack [(c.code, 14), (k, 12), (flag (alarmLatched s.store.thresholds c), 11), (quantity, 0)], word value,
      word (threshold s.store.thresholds c k)]⟩
  (rises 0 → s.NoticeRoom → t.Placed (.notice (notice 0)) (notice 0)) ∧
    (¬rises 0 → rises 3 → s.NoticeRoom → t.Placed (.notice (notice 3)) (notice 3)) ∧
    (¬rises 0 → ¬rises 3 → t.post.tagCounter = s.post.tagCounter)

/-- Gate `g` as a fault of cause `c` leaves it: the save record filled from the move context, or from the standing
target of an IDLE gate, the context released, FAULT-STOPPING with the stop timer running (R160). -/
def State.faultedGate (s : State) (g : GateNo) (c : Cause) : Gate :=
  let x := s.gate g
  { x with
    motion := .faultStopping, context := none, trimHoist := none, moveTimer := none
    stopTimer := some ((s.store.control[12]).toNat * 1000)
    save := { occupied := true, resumed := false, firstCause := c, causes := 1#8 <<< c.code, stateAtFault := x.motion,
              target := (x.context.map MoveContext.target).getD x.standing
              speed := (x.context.map MoveContext.speed).getD (defaultSpeed (s.record g))
              origin := (x.context.map MoveContext.origin).getD .unset
              left := (s.hoist (leftHoist g)).position, right := (s.hoist (rightHoist g)).position
              recoverable := .pending } }

/-- The GATE-FAULT notice of gate `g` under a tag, from its save record (R160, 11.3). -/
def State.faultNotice (s : State) (g : GateNo) (demanded : Bool) (tag : Byte) : OwnFrame :=
  let r := (s.gate g).save
  ⟨noticeDest s.store.control, kindNotice, tag,
    [pack [(2, 8), (g.val, 0)],
      pack [(r.firstCause.code, 13), (r.stateAtFault.code, 10), (r.origin.code, 7), (flag demanded, 6)],
      word r.target, word r.left, word r.right]⟩

/-- The gate as its entry into STOPPING leaves it (R115). -/
def State.stoppedGate (s : State) (g : GateNo) : Gate :=
  { s.gate g with motion := .stopping, moveTimer := none, trimHoist := none
                  stopTimer := some ((s.store.control[12]).toNat * 1000) }

/-- A fault of gate `g` has locked the device out from `s`: cause and gate recorded, the LOCKOUT line asserted, the gate
in FAULT-STOPPING, every other gate in MOVING or TRIM put into STOPPING, a STOP in the slot of every mapped hoist of a
gate in service (R140, R169, R170). -/
structure LockedOut (s t : State) (g : GateNo) (c : LockoutCause) : Prop where
  sup : t.sup = { s.sup with device := .lockout, lockoutLine := true, lockoutGate := some g, lockoutCause := c }
  faulted : (t.gate g).motion = .faultStopping
  others : ∀ j, j ≠ g → t.gate j = if (s.gate j).inFlight then s.stoppedGate j else s.gate j
  stops : ∀ h, s.driveOf h ≠ 0#8 → (s.gate (gateOf h)).mode ≠ .off → t.Posted h (stopSetpoint (s.hoist h))

/-- The move context of a move issued or retargeted now, its direction UP when the target lies above the gate position
(R109). -/
def State.contextFor (s : State) (g : GateNo) (target : Int) (speed : Speed) (o : Origin) : MoveContext :=
  ⟨target, speed, o, decide (((s.hoist (leftHoist g)).position + (s.hoist (rightHoist g)).position) / 2 < target)⟩

/-- Gate `g` is held from issuing by its motion state, the device state, the HOLD line or a drive not STILL (R108). -/
def State.HeldFromIssue (s : State) (g : GateNo) : Prop :=
  (s.gate g).motion ≠ .idle ∨ s.sup.device ≠ .run ∨ s.sup.holdLine = true ∨
    (s.hoist (leftHoist g)).drive ≠ .still ∨ (s.hoist (rightHoist g)).drive ≠ .still

/-- Gate `x` with a move started: MOVING, the move timer running (R110). -/
def Gate.started (x : Gate) (c : MoveContext) (limit : Nat) : Gate :=
  { x with motion := .moving, context := some c, trimHoist := none, moveTimer := some limit }

/-- Gate `x` with a move to `target` of origin `o` completed: IDLE, the target the standing target, a resumed record
released, the tide-closed flag set for a closure (R113). -/
def Gate.completed (x : Gate) (target : Int) (o : Origin) : Gate :=
  { x with
    motion := .idle, context := none, trimHoist := none, moveTimer := none, standing := target
    tideClosed := x.tideClosed || decide (o = .closure)
    save := { x.save with occupied := x.save.occupied && !x.save.resumed, resumed := false } }

/-- The command that executes a request of each name. -/
def RequestName.command : RequestName → Instr
  | .setMode => .setMode | .moveTo => .moveTo | .moveBy => .moveBy | .stop => .stop | .cancel => .cancel
  | .writeRows => .writeRows | .readRows => .readRows | .setLength => .setLength | .activate => .activate
  | .readState => .readState | .clearFlags => .clearFlags | .clearGate => .clearGate
  | .resumeGate => .resumeGate | .forceIndex => .forceIndex | .releaseIndex => .releaseIndex
  | .softReset => .softReset

/-- The answer a request of each name is given. -/
def RequestName.answer : RequestName → Frame → State → Answer
  | .setMode => answerSetMode | .moveTo => answerMove .absolute | .moveBy => answerMove .relative
  | .stop => answerStop | .cancel => answerCancel
  | .writeRows => answerWriteRows | .readRows => answerReadRows | .setLength => answerSetLength
  | .activate => answerActivate | .readState => answerReadState | .clearFlags => answerClearFlags
  | .clearGate => answerClearGate | .resumeGate => answerResumeGate | .forceIndex => answerForceIndex
  | .releaseIndex => answerReleaseIndex | .softReset => answerSoftReset

/-- The request is MALFORMED: its payload shorter than its layout, or a code that no list admits (R180, R191; the rule
of each request). A READ-ROWS count of 0 or above 14 is among them at step 2 of R180 by the model's choice
(notes/assumptions/26.md). -/
def RequestName.Malformed (r : RequestName) (f : Frame) : Prop :=
  let tableId := field (f.word 0) 0 5
  let argument := field (f.word 0) 0 8
  let noTable := tableOfAddress (field (f.word 0) 0 12) = none
  let noImage := ¬(tableId = 4 ∨ (16 ≤ tableId ∧ tableId < 24))
  match r with
  | .setMode => f.payload.length < 2 ∨ 8 ≤ orderGate f ∨ 5 ≤ (f.word 1).toNat
  | .moveTo => f.payload.length < 2 ∨ 8 ≤ orderGate f
  | .moveBy => f.payload.length < 2 ∨ 8 ≤ orderGate f
  | .stop => 8 ≤ orderGate f ∧ orderGate f ≠ 15
  | .cancel => 8 ≤ orderGate f
  | .writeRows => f.payload.length < 2 ∨ noTable
  | .readRows => f.payload.length < 2 ∨ field (f.word 1) 0 4 = 0 ∨ 14 < field (f.word 1) 0 4 ∨ noTable
  | .setLength => f.payload.length < 2 ∨ noImage
  | .activate => noImage
  | .readState => 5 < field (f.word 0) 8 4 ∨ (field (f.word 0) 8 4 ∈ [1, 2] ∧ 8 ≤ argument) ∨
      (field (f.word 0) 8 4 = 4 ∧ 4 ≤ argument)
  | .clearFlags => ¬(argument < 3 ∨ (16 ≤ argument ∧ argument < 24) ∨ (32 ≤ argument ∧ argument < 36))
  | .clearGate => 8 ≤ argument
  | .resumeGate => 8 ≤ argument
  | .forceIndex => f.payload.length < 2
  | .releaseIndex => False
  | .softReset => False

/-- The source holds the right to the request (R178). -/
def RequestName.Permitted (r : RequestName) (f : Frame) (s : State) : Prop :=
  match r with
  | .writeRows => ∀ p, tableOfAddress (field (f.word 0) 0 12) = some p → s.mayWrite f.src p.1 = true
  | .readRows => ∀ p, tableOfAddress (field (f.word 0) 0 12) = some p → s.mayRead f.src p.1 = true
  | .setLength => ∀ t, tableOfId (field (f.word 0) 0 5) = some t → s.mayWrite f.src t = true
  | .activate => ∀ t, tableOfId (field (f.word 0) 0 5) = some t → s.mayWrite f.src t = true
  | .readState => True
  | .forceIndex => s.classOf f.src = .engineer
  | .releaseIndex => s.classOf f.src = .engineer
  | .softReset => s.classOf f.src = .engineer
  | _ => s.classOf f.src = .operator ∨ s.classOf f.src = .engineer

/-- The requests taken in LOCKOUT (R171, R180). -/
def RequestName.TakenInLockout (r : RequestName) : Prop :=
  r = .readRows ∨ r = .readState ∨ r = .clearFlags ∨ r = .softReset

/-- The requests taken in DRAIN (R173, R180). -/
def RequestName.TakenInDrain (r : RequestName) : Prop := r = .readRows ∨ r = .readState

/-! ### Which writes are taken (R182) -/

/-- The first row that no WRITE-ROWS may reach: the table's capacity, or its first row that is read only (R82, R178,
R192). -/
def WriteRows.limit (o : WriteRows) : Nat :=
  match o.table with
  | .control => 16 | .access => 12 | .stations => 254 | .hoistMap => 16 | .pass => 96 | .thresholds => 19
  | .gate _ => 10 | .header _ => 6 | .rows _ => 64

/-- Row `r` of a table that holds `held`, once the write has replaced the rows it covers. -/
def WriteRows.resulting (o : WriteRows) (held : Nat → Word) (r : Nat) : Word :=
  if o.start ≤ r ∧ r < o.start + o.values.length then o.values.getD (r - o.start) 0#16 else held r

/-- Every value written meets `p`, given its row. -/
def WriteRows.Each (o : WriteRows) (p : Nat → Word → Prop) : Prop :=
  ∀ k, k < o.values.length → p (o.start + k) (o.values.getD k 0#16)

/-- An address row: 0..254, and not the own address (R85, R184). -/
def State.AddressTaken (s : State) (w : Word) : Prop := w.toNat ≤ 254 ∧ w ≠ s.ring.own.setWidth 16

/-- The rows of a Control Record meet the table of R184. -/
def State.ControlTaken (s : State) (row : Nat → Word) : Prop :=
  (∀ r, r < 5 → s.AddressTaken (row r)) ∧
  (1 ≤ (row 5).toNat ∧ (row 5).toNat ≤ 60) ∧ (1 ≤ (row 6).toNat ∧ (row 6).toNat ≤ 60) ∧ (row 7).toNat ≤ 500 ∧
  (row 8).toNat < 16 ∧ ((row 9).toNat < 64 ∧ field (row 9) 2 2 = 0) ∧
  (10 ≤ (row 10).toNat ∧ (row 10).toNat ≤ 1000) ∧
  ((row 11).toNat = 0 ∨ 100 ≤ (row 11).toNat ∧ (row 11).toNat ≤ 10000) ∧
  (1 ≤ (row 12).toNat ∧ (row 12).toNat ≤ 60) ∧ (1 ≤ (row 13).toNat ∧ (row 13).toNat ≤ 120) ∧ (row 15).toNat < 32

/-- The rows of a gate record meet the table of R81. -/
def RecordTaken (row : Nat → Word) : Prop :=
  (row 0).toNat ≤ 3 ∧ (-2000 ≤ (row 1).toInt ∧ (row 1).toInt ≤ 2000) ∧ (row 2).toNat ≤ 11999 ∧
  ((row 2).toNat < (row 3).toNat ∧ (row 3).toNat ≤ 12000) ∧ (1 ≤ (row 4).toNat ∧ (row 4).toNat ≤ 3) ∧
  (2 ≤ (row 5).toNat ∧ (row 5).toNat ≤ 50) ∧ (5 ≤ (row 6).toNat ∧ (row 6).toNat ≤ 200) ∧
  (row 7).toNat < (row 6).toNat ∧ ((row 6).toNat < (row 8).toNat ∧ (row 8).toNat ≤ 500) ∧
  (10 ≤ (row 9).toNat ∧ (row 9).toNat ≤ 1800)

/-- The value `w` may be written to row `r` of a schedule's header: the length is not written so, and the other fields
have the ranges of R57 (R58). -/
def HeaderRowTaken (r : Nat) (w : Word) : Prop :=
  (r ≠ 0) ∧ (r = 1 → -8000 ≤ w.toInt ∧ w.toInt ≤ 12000) ∧ (r = 2 → w.toNat ≤ 255) ∧ (r = 3 → w.toNat ≤ 3000) ∧
  (r = 4 → w.toNat ≤ 2000) ∧ (r = 5 → w.toNat ≤ 500)

/-- The values of a write within its table's limit pass the checks of the table: the record or table that would result
for the Control Record, the Station Class table and a gate record, and each value written for the others; Pass Table
rows are not checked (R23, R58, R59, R82, R85, R143, R177, R178, R184). That a class code must exist is
notes/assumptions/18.md. -/
def State.ValuesTaken (s : State) (o : WriteRows) : Prop :=
  match o.table with
  | .control => s.ControlTaken (o.resulting (rowAt s.store.control))
  | .access => o.Each (fun r w => if r < 6 then w.toNat ≤ 1 else w.toNat ≤ 3)
  | .stations =>
    (∀ r, r < 254 → (o.resulting (rowAt s.store.stations) r).toNat ≤ 3) ∧
      ∃ r, r < 254 ∧ o.resulting (rowAt s.store.stations) r = 3#16
  | .hoistMap => o.Each (fun _ w => s.AddressTaken w)
  | .pass => True
  | .thresholds => o.Each (fun r w => (r = 16 ∨ r = 17 → w.toNat < 16) ∧ (r = 18 → w.toNat ≤ 60000))
  | .gate g => RecordTaken (o.resulting (rowAt (s.record g)))
  | .header _ => o.Each HeaderRowTaken
  | .rows _ => o.Each (fun _ w => w.toNat ≤ 12000)

/-- A write that the state of a gate bars for now: a Hoist Map write over a hoist whose gate is not in OFF (R86), and a
write to the record of a gate that moves or stops outside OFF (R83). -/
def State.WriteBarred (s : State) (o : WriteRows) : Prop :=
  match o.table with
  | .hoistMap => ∃ h : HoistNo, o.start ≤ h.val ∧ h.val < o.start + o.values.length ∧ (s.gate (gateOf h)).mode ≠ .off
  | .gate g => (s.gate g).mode ≠ .off ∧ (s.gate g).motion ≠ .idle ∧ (s.gate g).motion ≠ .faulted
  | _ => False

/-! ### Rules of the whole part -/

/-- The own and the commissioning address are station addresses and differ (R3). -/
def State.addressRule (s : State) : Prop :=
  1 ≤ s.ring.own.toNat ∧ s.ring.own.toNat ≤ 254 ∧ 1 ≤ s.ring.commissioning.toNat ∧
    s.ring.commissioning.toNat ≤ 254 ∧ s.ring.own ≠ s.ring.commissioning

/-- The FIFOs hold what they have room for, and the counts saturate (R7, R13, R14, R17, R26, R179, R187). -/
def State.capacityRule (s : State) : Prop :=
  s.ring.transit.length ≤ 8 ∧ s.req.intake.length ≤ 4 ∧ s.req.report.length ≤ 16 ∧
    noticeCount s.req.report ≤ 12 ∧ s.ring.consecutive ≤ 3 ∧ s.ring.checkErrors ≤ 65535 ∧
    s.ring.transitLosses ≤ 65535 ∧ (∀ n ∈ s.pass.hits, n ≤ 65535)

/-- One report entry is reserved exactly while a request is being executed (R180, R187). -/
def State.reservationRule (s : State) : Prop :=
  s.req.report.countP (fun e => e = .reserved) = if s.req.executing.isSome then 1 else 0

/-- The LOCKOUT line is asserted exactly when the device state is LOCKOUT (R170). -/
def State.lockoutRule (s : State) : Prop := s.sup.lockoutLine = decide (s.sup.device = .lockout)

/-- A gate moves only in RUN with the HOLD line negated (R115, R120, R121). -/
def State.restRule (s : State) : Prop :=
  ∀ g, (s.gate g).inFlight = true → s.sup.device = .run ∧ s.sup.holdLine = false

/-- A gate in OFF stands IDLE with an empty queue (R87, R91). -/
def Gate.offRule (x : Gate) : Prop :=
  x.mode = .off → x.motion = .idle ∧ x.queue = [] ∧ x.closurePending = false ∧ x.tideClosed = false

/-- The queue by mode: empty in OFF and HOLD, up to 4 orders in MANUAL, at most the one automatic entry of its kind in
AUTO and FLOOD (R99, R100). -/
def Gate.queueRule (x : Gate) : Prop :=
  match x.mode with
  | .off => x.queue = []
  | .hold => x.queue = []
  | .manual => x.queue.length ≤ 4 ∧ ∀ e ∈ x.queue, ∃ src tag, e.origin = .order src tag
  | .auto => x.queue.length ≤ 1 ∧ ∀ e ∈ x.queue, e.origin = .auto
  | .flood => x.queue.length ≤ 1 ∧ ∀ e ∈ x.queue, e.origin = .flood

/-- The move context stands while MOVING, TRIM or STOPPING, the move timer runs in MOVING and TRIM, the stop timer in
STOPPING and at most in FAULT-STOPPING besides, and a hoist is noted as stopped in TRIM alone (R109, R112, R114, R115,
R160). -/
def Gate.motionRule (x : Gate) : Prop :=
  (x.context.isSome = (x.inFlight || decide (x.motion = .stopping))) ∧ (x.moveTimer.isSome = x.inFlight) ∧
    (x.motion = .stopping → x.stopTimer.isSome = true) ∧
    (x.stopTimer.isSome = true → x.motion = .stopping ∨ x.motion = .faultStopping) ∧
    (x.trimHoist.isSome = decide (x.motion = .trim))

/-- The save record is occupied exactly when the gate is in FAULT-STOPPING or FAULTED, or carries out a resumed move
in MOVING, TRIM or STOPPING (R159). -/
def Gate.saveRule (x : Gate) : Prop :=
  x.save.occupied = (x.faulty || (x.save.resumed && (x.inFlight || decide (x.motion = .stopping)))) ∧
    (x.save.resumed = true → x.inFlight = true ∨ x.motion = .stopping)

/-- An occupied slot holds a tag other than 0, at most 255 tries, and a running acknowledgement timer in SENT alone;
the post queue holds the hoists whose slots are WAITING, each once (R130). -/
def State.slotRule (s : State) : Prop :=
  s.post.queue.Nodup ∧ (∀ h, h ∈ s.post.queue ↔ (s.hoist h).phase = some .waiting) ∧
    ∀ h sl, (s.hoist h).slot = some sl →
      sl.tag ≠ 0#8 ∧ sl.tries ≤ 255 ∧ sl.ackTimer.isSome = decide (sl.phase = .sent)

/-- Every channel value and working level lies in -8000..+12000 and the head in -20000..+20000 (R40, R51). -/
def State.levelRule (s : State) : Prop :=
  (∀ c, -8000 ≤ (s.levels.channel c).value ∧ (s.levels.channel c).value ≤ 12000) ∧
    (∀ n, -8000 ≤ (s.levels.side n).level ∧ (s.levels.side n).level ≤ 12000) ∧
    -20000 ≤ s.levels.head ∧ s.levels.head ≤ 20000

/-- An age timer runs exactly while its channel is FRESH, and each side's state is the one its channels give (R42,
R43). -/
def State.sideRule (s : State) : Prop :=
  (∀ c, (s.levels.channel c).ageTimer.isSome = decide ((s.levels.channel c).state = .fresh)) ∧
    ∀ n, (s.levels.side n).state = s.levels.sideState n

/-- Every hoist record holds a position of 0..16000 mm and a load of -4000..+4000 kN (R125). -/
def State.hoistRule (s : State) : Prop :=
  ∀ h, 0 ≤ (s.hoist h).position ∧ (s.hoist h).position ≤ 16000 ∧ -4000 ≤ (s.hoist h).load ∧
    (s.hoist h).load ≤ 4000

/-- A VALID gate record meets the ranges and relations of R81, and a gate outside OFF has a VALID record and two
mapped hoists with valid records (R81, R89). -/
def State.serviceRule (s : State) : Prop :=
  (∀ g, recordValid (s.record g) = true → recordInRange (s.record g) = true) ∧
    ∀ g, (s.gate g).mode ≠ .off → recordValid (s.record g) = true ∧ s.hoistsReady g = true

/-- The target of every move context lies within the travel window of the record in force (R109). -/
def State.windowRule (s : State) : Prop :=
  ∀ g c, (s.gate g).context = some c → s.inWindow g c.target = true

/-- Every MOVE in a slot, and every last-posted MOVE, carries a target of 0..12000 mm (R128). -/
def State.setpointRule (s : State) : Prop :=
  ∀ h, (∀ sl, (s.hoist h).slot = some sl → sl.setpoint.command = .move →
        0 ≤ sl.setpoint.target ∧ sl.setpoint.target ≤ 12000) ∧
    ∀ sp, (s.hoist h).lastPosted = some sp → sp.command = .move → 0 ≤ sp.target ∧ sp.target ≤ 12000

/-- In LOCKOUT no hoist of a gate outside OFF has a MOVE in its slot, and its last-posted setpoint is a STOP
(R140). -/
def State.lockoutStopRule (s : State) : Prop :=
  s.sup.device = .lockout → ∀ h, (s.gate (gateOf h)).mode ≠ .off →
    (∀ sl, (s.hoist h).slot = some sl → sl.setpoint.command = .stop) ∧
      ∃ sp, (s.hoist h).lastPosted = some sp ∧ sp.command = .stop

/-- The Station Class table holds at least one ENGINEER (R177). -/
def State.engineerRule (s : State) : Prop := 3#16 ∈ s.store.stations.toList

/-- No active schedule has a length of 1 or above 64, and no Pass Table image a length above 32; the active image has
as many hit counts as its length (R22, R26, R57). -/
def State.imageRule (s : State) : Prop :=
  s.store.passPending.length ≤ 32 ∧ s.store.passActive.length ≤ 32 ∧
    s.pass.hits.length = s.store.passActive.length ∧
    ∀ n, (scheduleLength (s.schedule n).pending = 0 ∨
          (2 ≤ scheduleLength (s.schedule n).pending ∧ scheduleLength (s.schedule n).pending ≤ 64)) ∧
      (scheduleLength (s.schedule n).active = 0 ∨
          (2 ≤ scheduleLength (s.schedule n).active ∧ scheduleLength (s.schedule n).active ≤ 64))

/-- The rules the part keeps at all times, together. -/
structure State.Sound (s : State) : Prop where
  addresses : s.addressRule
  capacities : s.capacityRule
  reservation : s.reservationRule
  settled : s.Settled
  lockoutLine : s.lockoutRule
  rest : s.restRule
  off : ∀ g, (s.gate g).offRule
  queues : ∀ g, (s.gate g).queueRule
  motion : ∀ g, (s.gate g).motionRule
  saves : ∀ g, (s.gate g).saveRule
  slots : s.slotRule
  levels : s.levelRule
  sides : s.sideRule
  hoists : s.hoistRule
  service : s.serviceRule
  windows : s.windowRule
  setpoints : s.setpointRule
  lockoutStops : s.lockoutStopRule
  engineer : s.engineerRule
  images : s.imageRule

end Sys2Proof.Machine
end

