-- ==== Sys2Proof/Certificates/Slice0/Obligations.lean ====
section
/-!
DEFINITION. The statements about the WG816 that the provers are given. A premise `s.Settled` names the state every
command leaves (`Obligations.SettledKept`); the other rules named as premises are statements of their own too. A premise
`s.Executing r f` names a request that has been started and not yet carried out (notes/assumptions/3.md).
-/

open Sys2Proof Sys2Proof.Machine

/-! ### Steps and resets -/

/-- A step is the command at the front of the queue, carried out on the state with the queue's rest ("Steps",
00_scope.md; 95_what_each_step_holds.md). That an empty queue idles is the model's choice (notes/assumptions/8.md). -/
def Obligations.StepRunsFrontCommand : Prop :=
  (∀ (c : Instr) (rest : List Instr) (s : State),
    s.pending = c :: rest → step s = exec c { s with pending := rest }) ∧
  ∀ s : State, s.pending = [] → step s = .next s

/-- HARD_RESET: the straps sampled, every block at its hard-reset value, and the RESET-DONE notice of kind HARD, with
tag 1, on RING-OUT to the commissioning address (R3, R20, R129, R176). The blocks' values are
`Sys2Proof.Claim.HardResetValues`. The model's choices in this equation are the levels as operands and the queue and the
orders kept (notes/assumptions/2.md), and the fields of an empty save record and the active Pass Table rows, which the
manual does not state (notes/assumptions/4.md). -/
def Sys2Proof.Claim.HardResetSendsResetDone : Prop :=
  ∀ (saddr caddr : Byte) (hold : Bool) (s : State),
    let own := if saddr = 0#8 ∨ saddr = 255#8 then 254#8 else saddr
    let taken := if caddr = 0#8 ∨ caddr = 255#8 then 254#8 else caddr
    let com := if taken = own then (if own = 254#8 then 253#8 else 254#8) else taken
    exec (.hardReset saddr caddr hold) s =
      .next { State.hardResetValues own com hold with
              ring := ⟨own, com, [], .report (sealFrame own ⟨com, kindNotice, 1#8, [0x0700#16, 1#16, 0#16]⟩), 0, 0, 0⟩
              post := ⟨1#8, []⟩
              orders := s.orders
              pending := s.pending }

/-- What a hard reset leaves at each block, by the "Hard reset" columns of the chapters (R22, R36, R55, R57, R68, R78,
R81, R85, R87, R124, R125, R142, R143, R156, R176 to R179, R184, R187, R189). -/
def Sys2Proof.Claim.HardResetValues : Prop :=
  ∀ (saddr caddr : Byte) (hold : Bool) (s t : State), exec (.hardReset saddr caddr hold) s = .next t →
    (∀ g, let x := t.gate g
      x.mode = .off ∧ x.motion = .idle ∧ x.standing = 0 ∧ x.queue = [] ∧ x.context = none ∧ x.closurePending = false ∧
      x.tideClosed = false ∧ x.rangeFlag = false ∧ x.moveTimer = none ∧ x.stopTimer = none ∧
      x.save.occupied = false ∧ x.save.resumed = false ∧ x.blockedNotice = false) ∧
    (∀ h, let x := t.hoist h
      x.position = 0 ∧ x.load = 0 ∧ x.drive = .still ∧ x.valid = false ∧ x.slot = none ∧ x.lastPosted = none ∧
      x.refreshTimer = none ∧ x.retry = false ∧ x.exhausted = false ∧ x.settleTimer = none ∧
      x.monitor = ⟨⟨false, false, false, false⟩, ⟨false, false, false, false⟩⟩) ∧
    (∀ c, t.levels.channel c = ⟨.noData, 0, false, false, none⟩) ∧
    (∀ n, t.levels.side n = ⟨.noData, 0, false, false, false⟩) ∧ t.levels.head = 0 ∧
    t.forcedIndex = none ∧ t.pass.hits = [] ∧ t.pass.policedDrop = false ∧ t.monitor.faultLine = false ∧
    t.sup = ⟨.run, .unset, none, none, false, hold, false⟩ ∧
    t.req = ⟨[], none, [], false, false⟩ ∧ t.post.queue = [] ∧ t.ring.transit = [] ∧
    t.store.passPending.length = 0 ∧ t.store.passActive.length = 0 ∧
    (∀ n, scheduleLength (t.schedule n).pending = 0 ∧ scheduleLength (t.schedule n).active = 0) ∧
    (∀ g, t.record g = Vector.replicate 12 0#16) ∧ (∀ h, t.driveOf h = 0#8) ∧
    (∀ a : Byte, t.classOf a = if a = t.ring.commissioning then .engineer else .unheard) ∧
    (∀ c, threshold t.store.thresholds c 0 = 32767 ∧ threshold t.store.thresholds c 1 = 32767 ∧
      threshold t.store.thresholds c 2 = -32768 ∧ threshold t.store.thresholds c 3 = -32768 ∧
      alarmLatched t.store.thresholds c = false ∧ warningLatched t.store.thresholds c = false) ∧
    settleInterval t.store.thresholds = 3000 ∧
    noticeDest t.store.control = t.ring.commissioning ∧ (∀ c, binding t.store.control c = 0#8) ∧
    (∀ c, ageLimit t.store.control c = 5000) ∧ agreeLimit t.store.control = 50 ∧
    faultResponse t.store.control = true ∧ floodOnPoolAlarm t.store.control = false ∧
    defaultDrop t.store.control = false ∧ abandonAction t.store.control = true ∧ rotation t.store.control = 2 ∧
    retryLimit t.store.control = 4 ∧ ackTimeout t.store.control = 100 ∧ refreshInterval t.store.control = 1000 ∧
    stopTimeout t.store.control = 10000 ∧ drainLimit t.store.control = 30000 ∧
    (∀ c k, k < 4 → groupEnabled t.store.control c k = false)

/-- HARD_RESET: the RESET-DONE notice and the value of every block. -/
def Obligations.HardResetGivesResetState : Prop :=
  Sys2Proof.Claim.HardResetSendsResetDone ∧ Sys2Proof.Claim.HardResetValues

/-- `State.reset` is what HARD_RESET gives with the HOLD line negated and the straps at the levels the model chose for
it (notes/assumptions/2.md), and it meets every rule of Safety.lean. -/
def Obligations.ResetIsSound : Prop :=
  exec (.hardReset 37#8 12#8 false) State.reset = .next State.reset ∧ State.reset.Sound

/-! ### Rules that every step keeps -/

/-- "The LOCKOUT line is asserted exactly when the device state is LOCKOUT" (R170). -/
def Obligations.LockoutLineKept : Prop := ∀ s t : State, s.lockoutRule → step s = .next t → t.lockoutRule

/-- Every command leaves no request that could start (R180), and the FAULT line up to date (R154): the model's choices
of notes/assumptions/3.md and 15.md. -/
def Obligations.SettledKept : Prop := ∀ s t : State, s.Settled → step s = .next t → t.Settled

/-- The own and the commissioning address stay station addresses and different (R3). -/
def Sys2Proof.Claim.AddressesKept : Prop := ∀ s t : State, s.addressRule → step s = .next t → t.addressRule

/-- No FIFO ever holds more than it has room for, and no count passes 65535 (R7, R13, R14, R17, R26, R179, R187). -/
def Sys2Proof.Claim.CapacitiesKept : Prop := ∀ s t : State, s.capacityRule → step s = .next t → t.capacityRule

/-- One report entry is reserved exactly while a request is executed (R180, R187). -/
def Sys2Proof.Claim.ReservationKept : Prop := ∀ s t : State, s.reservationRule → step s = .next t → t.reservationRule

/-- The FIFOs and counts stay within their bounds, and one report entry is reserved exactly while a request is
executed. -/
def Obligations.FifosKept : Prop :=
  Sys2Proof.Claim.CapacitiesKept ∧ Sys2Proof.Claim.ReservationKept

/-- A gate is in MOVING or TRIM only while the device is in RUN and the HOLD line is negated (R108, R115, R120,
R121). -/
def Sys2Proof.Claim.NoMotionHeldOrLocked : Prop := ∀ s t : State, s.restRule → step s = .next t → t.restRule

/-- The rules of one gate: OFF stands IDLE, the queue by mode, context and timers by motion state, the save record
occupied exactly where R159 says (R87, R99, R100, R109, R114, R115, R159). -/
def Obligations.GateRulesKept : Prop :=
  ∀ s t : State,
    (∀ g, (s.gate g).offRule ∧ (s.gate g).queueRule ∧ (s.gate g).motionRule ∧ (s.gate g).saveRule) →
    step s = .next t →
    ∀ g, (t.gate g).offRule ∧ (t.gate g).queueRule ∧ (t.gate g).motionRule ∧ (t.gate g).saveRule

/-- Slots and the post queue agree, and no occupied slot holds tag 0 (R130). -/
def Obligations.SlotsKept : Prop := ∀ s t : State, s.slotRule → step s = .next t → t.slotRule

/-- Channel values, working levels and the head stay in their ranges, an age timer runs exactly while its channel is
FRESH, and each side's state is the one its channels give (R40, R42, R43, R51). -/
def Obligations.LevelsKept : Prop :=
  ∀ s t : State, s.levelRule ∧ s.sideRule → step s = .next t → t.levelRule ∧ t.sideRule

/-- Every hoist record stays in range, whatever a drive reports (R125, R126). -/
def Sys2Proof.Claim.HoistRecordsKept : Prop := ∀ s t : State, s.hoistRule → step s = .next t → t.hoistRule

/-- A VALID gate record stays in range, and the conditions that admitted a gate to a mode other than OFF continue to
hold while it stays out of OFF (R81, R82, R86, R89). -/
def Sys2Proof.Claim.ServiceKept : Prop :=
  ∀ s t : State, (∀ g, (s.gate g).offRule) → s.serviceRule → step s = .next t → t.serviceRule

/-- Every captured target lies within the travel window of the record in force, and every MOVE posted carries a
target of 0..12000 mm (R109, R128). -/
def Sys2Proof.Claim.TargetsStayInWindow : Prop :=
  ∀ s t : State, (∀ g, (s.gate g).offRule ∧ (s.gate g).motionRule) → s.serviceRule → s.windowRule ∧ s.setpointRule →
    step s = .next t → t.windowRule ∧ t.setpointRule

/-- Gates in service keep what admitted them, and every target stays in its travel window. -/
def Obligations.ServiceAndTargetsKept : Prop :=
  Sys2Proof.Claim.ServiceKept ∧ Sys2Proof.Claim.TargetsStayInWindow

/-- In LOCKOUT no hoist of a gate in service has a MOVE in its slot or as its last-posted setpoint (R140). -/
def Sys2Proof.Claim.LockoutHoldsStops : Prop :=
  ∀ s t : State, s.serviceRule → s.lockoutStopRule → step s = .next t → t.lockoutStopRule

/-- No gate moves held or outside RUN, and in LOCKOUT every hoist in service is left with a STOP. -/
def Obligations.MotionNeedsRunAndRelease : Prop :=
  Sys2Proof.Claim.NoMotionHeldOrLocked ∧ Sys2Proof.Claim.LockoutHoldsStops

/-- The Station Class table always holds an ENGINEER (R177), and the images keep lengths that their tables allow, with
a hit count for each active entry (R22, R26, R57, R60, R62). -/
def Sys2Proof.Claim.TablesKept : Prop :=
  ∀ s t : State, s.engineerRule ∧ s.imageRule → step s = .next t → t.engineerRule ∧ t.imageRule

/-- The ranges and sizes that no step leaves: the addresses (R3), the hoist records (R125, R126), the Station Class table
and the images (R22, R26, R57, R177). -/
def Obligations.RangesKept : Prop :=
  Sys2Proof.Claim.AddressesKept ∧ Sys2Proof.Claim.HoistRecordsKept ∧ Sys2Proof.Claim.TablesKept

/-! ### Frames on the ring -/

/-- A frame read from the ring and sent on is word for word the frame received, and a frame laid out reads back as
itself; the check word the part computes passes the part's own check (R2, R5, R6, R190). -/
def Obligations.FrameRoundTrip : Prop :=
  (∀ f : Frame, f.payload.length ≤ 15 → parseFrame f.words 0 = some f) ∧
  (∀ (ws : List Word) (n : Nat) (f : Frame), parseFrame ws n = some f → f.words = ws ∧ n = 0) ∧
  ∀ (own : Byte) (o : OwnFrame), o.payload.length ≤ 15 →
    checkedFrame (sealFrame own o).words 0 = some (sealFrame own o)

/-- A frame that fails the check changes nothing but the check-error count (R6, R7). -/
def Sys2Proof.Claim.BadFrameCounted : Prop :=
  ∀ (ws : List Word) (n : Nat) (s : State), checkedFrame ws n = none → s.Settled →
    exec (.frameArrival ws n) s =
      .next { s with ring := { s.ring with checkErrors := min 65535 (s.ring.checkErrors + 1) } }

/-- A start mark before the end mark counts a malformed frame (R5, R7). That nothing of the frame begun is held is the
model's choice (notes/assumptions/6.md). -/
def Sys2Proof.Claim.EarlyStartMarkCounted : Prop :=
  ∀ s : State, exec .startMarkBeforeEndMark s =
    .next { s with ring := { s.ring with checkErrors := min 65535 (s.ring.checkErrors + 1) } }

/-- A frame whose source is the own address is stripped without a trace, the part's own returning frames among them
(R2, R8). -/
def Obligations.OwnFrameStripped : Prop :=
  (∀ (ws : List Word) (n : Nat) (f : Frame) (s : State), checkedFrame ws n = some f → f.src = s.ring.own →
    s.Settled → exec (.frameArrival ws n) s = .next s) ∧
  ∀ (o : OwnFrame) (s : State), o.payload.length ≤ 15 → s.Settled →
    exec (.frameArrival (sealFrame s.ring.own o).words 0) s = .next s

/-- A frame addressed to the part that its dispatch ignores changes nothing (R9, R10, R126). -/
def Sys2Proof.Claim.IgnoredFrameChangesNothing : Prop :=
  ∀ (ws : List Word) (n : Nat) (f : Frame) (s : State), s.Arrives ws n f → f.dest = s.ring.own → s.Settled →
    (f.kind ≠ kindSample ∧ f.kind ≠ kindHoistStatus ∧ f.kind ≠ kindOrder ∧ f.kind ≠ kindManage) ∨
    ((f.kind = kindOrder ∨ f.kind = kindManage) ∧ (f.src = 0#8 ∨ f.src = 255#8)) ∨
    (f.kind = kindSample ∧ (s.isLevelStation f.src = false ∨ f.payload.length < 3)) ∨
    (f.kind = kindHoistStatus ∧ (s.hoistsAt f.src = [] ∨ f.payload.length < 3 ∨ 4 ≤ field (f.word 2) 8 3)) →
    exec (.frameArrival ws n) s = .next s

/-- Frames of which the part makes no use: one that fails the check is counted, one cut off by a new start mark is
counted, one its dispatch ignores changes nothing. -/
def Obligations.UnusableFramesChangeNothing : Prop :=
  Sys2Proof.Claim.BadFrameCounted ∧
  Sys2Proof.Claim.EarlyStartMarkCounted ∧
  Sys2Proof.Claim.IgnoredFrameChangesNothing

/-- An ORDER or MANAGE frame at request intake: discarded for class NONE, lost with REQUEST-LOST at a full FIFO, and
otherwise joined to the tail, from which its execution starts at once, with a report entry reserved at the tail, when
none is under way and an entry is free (R9, R179, R180, R187). That the start of an execution and the execution
are two steps is the model's choice (notes/assumptions/3.md). -/
def Obligations.RequestAdmitted : Prop :=
  ∀ (ws : List Word) (n : Nat) (f : Frame) (s : State), s.Arrives ws n f → f.dest = s.ring.own → s.Settled →
    (f.kind = kindOrder ∨ f.kind = kindManage) → f.src ≠ 0#8 → f.src ≠ 255#8 →
    (s.classOf f.src = .unheard → exec (.frameArrival ws n) s = .next s) ∧
    (s.classOf f.src ≠ .unheard → 4 ≤ s.req.intake.length →
      exec (.frameArrival ws n) s = .next { s with req := { s.req with requestLost := true } }) ∧
    (s.classOf f.src ≠ .unheard → s.req.intake.length < 4 →
      (s.req.executing.isSome = true ∨ 16 ≤ s.req.report.length) →
      exec (.frameArrival ws n) s = .next { s with req := { s.req with intake := s.req.intake ++ [f] } }) ∧
    (s.classOf f.src ≠ .unheard → s.req.executing = none → s.req.report.length < 16 →
      (requestName f).isSome = true →
      exec (.frameArrival ws n) s =
        .next { s with req := { s.req with executing := some f, report := s.req.report ++ [.reserved] } }) ∧
    (s.classOf f.src ≠ .unheard → s.req.executing = none → s.req.report.length < 16 → requestName f = none →
      ∃ t, exec (.frameArrival ws n) s = .next t ∧ OnlyTraffic s t ∧ t.Replied f (refuse .malformed))

/-- A transit frame decided by FORWARD, DROP or the default pass action: the deciding entry's hit counted, and a
forwarded frame joined to the transit FIFO, lost and counted at 8 frames held, or granted at once to an idle RING-OUT
for which nothing waits (R12 to R14, R16, R17, R24 to R27; the choice at the joining itself is notes/assumptions/10.md, and
what waits notes/assumptions/24.md). -/
def Sys2Proof.Claim.TransitFrameDecided : Prop :=
  ∀ (ws : List Word) (n : Nat) (f : Frame) (s : State), s.Arrives ws n f → f.dest ≠ s.ring.own → f.dest ≠ 255#8 →
    s.Settled →
    ∀ (forwards : Bool) (hits : List Nat),
    ((∃ e, s.decidingEntry f = some e ∧
        (passEntry s.store.passActive e).action = some (if forwards then .forward else .drop) ∧
        hits = s.pass.hits.set e (min 65535 (s.pass.hits.getD e 0 + 1))) ∨
      (s.decidingEntry f = none ∧ defaultDrop s.store.control = !forwards ∧ hits = s.pass.hits)) →
    (forwards = false → exec (.frameArrival ws n) s = .next { s with pass := { s.pass with hits := hits } }) ∧
    (forwards = true → 8 ≤ s.ring.transit.length →
      exec (.frameArrival ws n) s =
        .next { s with pass := { s.pass with hits := hits }
                       ring := { s.ring with transitLosses := min 65535 (s.ring.transitLosses + 1) } }) ∧
    (forwards = true → s.ring.transit.length < 8 → s.ring.out ≠ .idle →
      exec (.frameArrival ws n) s =
        .next { s with pass := { s.pass with hits := hits }
                       ring := { s.ring with transit := s.ring.transit ++ [f] } }) ∧
    (forwards = true → s.ring.transit = [] → s.ring.out = .idle → s.ownWaiting = false →
      exec (.frameArrival ws n) s =
        .next { s with pass := { s.pass with hits := hits }
                       ring := { s.ring with out := .transit f, consecutive := 0 } })

/-- The same with RING-OUT busy, for SNOOP too and for a broadcast frame, which is judged like any other besides being
read (R11, R13, R14, R24 to R28): the hit, the transit FIFO and the loss count, and, where the part reads no data of the
frame, nothing else. That the data are read and the frame joined in an order left open is notes/assumptions/1.md; that a
broadcast is read first, notes/assumptions/21.md. -/
def Sys2Proof.Claim.TransitFrameJoinsWhateverItCarries : Prop :=
  ∀ (ws : List Word) (n : Nat) (f : Frame) (s : State) (a : PassAction) (hits : List Nat), s.Arrives ws n f →
    f.dest ≠ s.ring.own → s.ring.out ≠ .idle → a ≠ .police →
    ((∃ e, s.decidingEntry f = some e ∧ (passEntry s.store.passActive e).action = some a ∧
        hits = s.pass.hits.set e (min 65535 (s.pass.hits.getD e 0 + 1))) ∨
      (s.decidingEntry f = none ∧ a = (if defaultDrop s.store.control then .drop else .forward) ∧ hits = s.pass.hits)) →
    let ring :=
      if a = .drop then s.ring
      else if s.ring.transit.length < 8 then { s.ring with transit := s.ring.transit ++ [f] }
      else { s.ring with transitLosses := min 65535 (s.ring.transitLosses + 1) }
    ∃ t, exec (.frameArrival ws n) s = .next t ∧ t.ring = { ring with consecutive := t.ring.consecutive } ∧
      t.pass = { s.pass with hits := hits } ∧
      t.store = s.store ∧ t.pending = s.pending ∧
      ((f.kind = kindSample → s.isLevelStation f.src = false) → (f.kind = kindHoistStatus → s.hoistsAt f.src = []) →
        s.Settled →
        t = { s with pass := { s.pass with hits := hits }, ring := ring, orders := t.orders } ∧
        (a ≠ .snoop → t.orders = s.orders))

/-- Transit and broadcast frames under FORWARD, SNOOP, DROP and the default pass action. -/
def Obligations.TransitFrameForwardedOrDropped : Prop :=
  Sys2Proof.Claim.TransitFrameDecided ∧ Sys2Proof.Claim.TransitFrameJoinsWhateverItCarries

/-- A SETPOINT that a POLICE entry decides: STOP always passes; a MOVE passes only in RUN with the HOLD line negated,
every gate it reaches in OFF and the target in the window of every VALID record it reaches; what is dropped sets
POLICED-DROP, but for a broadcast MOVE with no hoist mapped (R30, R31, R33). RING-OUT is SENDING and the transit FIFO
has room. That an unreadable broadcast setpoint sets the flag, and the target read as a whole number, are the model's
choices (notes/assumptions/13.md); the FAULT line at the command's end is notes/assumptions/15.md. -/
def Sys2Proof.Claim.SetpointPoliced : Prop :=
  ∀ (ws : List Word) (n : Nat) (f : Frame) (s : State) (e : Nat), s.Arrives ws n f → f.dest ≠ s.ring.own →
    f.kind = kindSetpoint → s.Settled → s.ring.out ≠ .idle → s.ring.transit.length < 8 →
    s.decidingEntry f = some e → (passEntry s.store.passActive e).action = some .police →
    let reached := if f.dest = 255#8 then allHoists.filter (fun h => s.driveOf h ≠ 0#8) else s.hoistsAt f.dest
    (f.dest = 255#8 ∨ reached ≠ []) →
    let readable := 2 ≤ f.payload.length
    let command := field (f.word 0) 8 8
    let target : Int := (f.word 1).toNat
    let free := s.sup.device = .run ∧ s.sup.holdLine = false ∧ ∀ h ∈ reached, (s.gate (gateOf h)).mode = .off ∧
      (recordValid (s.record (gateOf h)) = true →
        lowerLimit (s.record (gateOf h)) ≤ target ∧ target ≤ upperLimit (s.record (gateOf h)))
    let counted := { s with pass := { s.pass with hits := s.pass.hits.set e (min 65535 (s.pass.hits.getD e 0 + 1)) } }
    let forwarded := { counted with ring := { s.ring with transit := s.ring.transit ++ [f] } }
    let dropped := { counted with pass := { counted.pass with policedDrop := true } }
    (readable ∧ command = 2 → exec (.frameArrival ws n) s = .next forwarded) ∧
    (readable ∧ command = 1 ∧ free → exec (.frameArrival ws n) s = .next forwarded) ∧
    (readable ∧ command = 1 ∧ ¬free ∧ reached ≠ [] → exec (.frameArrival ws n) s = .next (updateFaultLine dropped)) ∧
    (readable ∧ command = 1 ∧ ¬free ∧ reached = [] → exec (.frameArrival ws n) s = .next counted) ∧
    (¬readable ∨ (command ≠ 1 ∧ command ≠ 2) → exec (.frameArrival ws n) s = .next (updateFaultLine dropped))

/-- A transit frame that is no such SETPOINT and that a POLICE entry decides passes in RUN alone, whatever the HOLD
line, and its drop sets no flag (R32). -/
def Sys2Proof.Claim.OtherFramePolicedByDeviceState : Prop :=
  ∀ (ws : List Word) (n : Nat) (f : Frame) (s : State) (e : Nat), s.Arrives ws n f → f.dest ≠ s.ring.own →
    f.dest ≠ 255#8 → (f.kind ≠ kindSetpoint ∨ s.hoistsAt f.dest = []) → s.Settled → s.ring.out ≠ .idle →
    s.ring.transit.length < 8 →
    s.decidingEntry f = some e → (passEntry s.store.passActive e).action = some .police →
    let counted := { s with pass := { s.pass with hits := s.pass.hits.set e (min 65535 (s.pass.hits.getD e 0 + 1)) } }
    exec (.frameArrival ws n) s =
      .next (if s.sup.device = .run then { counted with ring := { s.ring with transit := s.ring.transit ++ [f] } }
             else counted)

/-- A broadcast frame of a kind other than SETPOINT that a POLICE entry decides is forwarded in RUN alone, joined to the
transit FIFO or lost and counted, and its drop sets no flag; where the part reads no data of it, nothing else changes
(R11, R13, R14, R26, R32). The device state is that in which the data of the frame have left the part, which takes them
first (notes/assumptions/21.md). RING-OUT is SENDING. -/
def Sys2Proof.Claim.BroadcastPolicedByDeviceState : Prop :=
  ∀ (ws : List Word) (n : Nat) (f : Frame) (s : State) (e : Nat), s.Arrives ws n f → f.dest ≠ s.ring.own →
    f.dest = 255#8 → f.kind ≠ kindSetpoint → s.ring.out ≠ .idle →
    s.decidingEntry f = some e → (passEntry s.store.passActive e).action = some .police →
    let pass := { s.pass with hits := s.pass.hits.set e (min 65535 (s.pass.hits.getD e 0 + 1)) }
    let joined :=
      if s.ring.transit.length < 8 then { s.ring with transit := s.ring.transit ++ [f] }
      else { s.ring with transitLosses := min 65535 (s.ring.transitLosses + 1) }
    ∃ t, exec (.frameArrival ws n) s = .next t ∧
      t.ring = { (if t.sup.device = .run then joined else s.ring) with consecutive := t.ring.consecutive } ∧
      t.pass = pass ∧ t.store = s.store ∧ t.pending = s.pending ∧
      ((f.kind = kindSample → s.isLevelStation f.src = false) → (f.kind = kindHoistStatus → s.hoistsAt f.src = []) →
        s.Settled → t = { s with pass := pass, ring := if s.sup.device = .run then joined else s.ring })

/-- POLICE, for setpoints and for every other frame, addressed to one station or broadcast. -/
def Obligations.TransitFramesPoliced : Prop :=
  Sys2Proof.Claim.SetpointPoliced ∧ Sys2Proof.Claim.OtherFramePolicedByDeviceState ∧
  Sys2Proof.Claim.BroadcastPolicedByDeviceState

/-! ### The ring-out arbiter -/

/-- The table of the arbiter at the end of a transmission: who is granted, and the consecutive-transit count after
(R16 to R18). The frame that ends is a transit frame, a report, or a post of a hoist whose slot waits if it stands in the
post queue. That a report behind an unfilled reservation does not wait is the model's choice (notes/assumptions/24.md). -/
def Obligations.ArbiterTable : Prop :=
  ∀ (s : State) (x : Frame), s.Settled →
    (s.ring.out = .transit x ∨ s.ring.out = .report x ∨
      ∃ h, s.ring.out = .post h x ∧ (h ∈ s.post.queue → (s.hoist h).phase = some .waiting)) →
    ∃ t, exec .transmissionComplete s = .next t ∧
      (s.ring.transit = [] → s.ownWaiting = false → t.ring = { s.ring with out := .idle, consecutive := 0 }) ∧
      (∀ f rest, s.ring.transit = f :: rest → s.ownWaiting = false →
        t.ring = { s.ring with out := .transit f, transit := rest, consecutive := 0 }) ∧
      (∀ f rest, s.ring.transit = f :: rest → s.ownWaiting = true → rotation s.store.control = 0 →
        t.ring = { s.ring with out := .transit f, transit := rest, consecutive := 0 }) ∧
      (∀ f rest, s.ring.transit = f :: rest → s.ownWaiting = true → s.ring.consecutive < rotation s.store.control →
        t.ring = { s.ring with out := .transit f, transit := rest, consecutive := s.ring.consecutive + 1 }) ∧
      (s.ownWaiting = true →
        (s.ring.transit = [] ∨
          (rotation s.store.control ≠ 0 ∧ rotation s.store.control ≤ s.ring.consecutive)) →
        (∀ h rest sl, s.post.queue = h :: rest → (s.hoist h).slot = some sl →
          t.ring = { s.ring with out := .post h (sealFrame s.ring.own sl.frame), consecutive := 0 } ∧
          t.post.queue = rest ∧ (t.hoist h).slot = some { sl with phase := .sending }) ∧
        (∀ f rest, s.post.queue = [] → (s.req.report = .reply f :: rest ∨ s.req.report = .notice f :: rest) →
          t.ring = { s.ring with out := .report (sealFrame s.ring.own f), consecutive := 0 }))

/-- The end of a post's transmission starts the acknowledgement timer of the slot that still holds its tag in SENDING,
and of no other: not of one emptied, of one under another tag, or of one merged back to WAITING meanwhile (R19, R133). -/
def Obligations.PostCompletionStartsAckTimer : Prop :=
  ∀ (s : State) (h : HoistNo) (x : Frame), s.ring.out = .post h x →
    ∃ t, exec .transmissionComplete s = .next t ∧
      (∀ sl, (s.hoist h).slot = some sl → sl.phase = .sending → sl.tag = x.tag → h ∉ s.post.queue →
        t.hoist h = { s.hoist h with
          slot := some { sl with phase := .sent, ackTimer := some (s.store.control[10]).toNat } } ∧
        OnlyTraffic (s.onHoist h (fun y =>
          { y with slot := some { sl with phase := .sent, ackTimer := some (s.store.control[10]).toNat } })) t) ∧
      ((∀ sl, (s.hoist h).slot = some sl → ¬(sl.phase = .sending ∧ sl.tag = x.tag)) →
        OnlyTraffic s t ∧ (h ∉ s.post.queue → t.hoist h = s.hoist h))

/-! ### Levels -/

/-- An age timer expires: the channel FRESH to AGED, its side's state recomputed, the working level kept, and a
SIDE-STATE notice of a change; where it finds no room, it takes its tag and sets NOTICE-LOST, and with no notice
destination it takes none and is not lost. A stopped timer does not expire (R42, R43, R45, R187 to R189;
notes/assumptions/7.md). -/
def Obligations.AgeTimerAgesChannel : Prop :=
  ∀ (c : ChannelName) (s : State),
    ((s.levels.channel c).ageTimer = none → s.Settled → exec (.ageTimerExpiry c) s = .next s) ∧
    ((s.levels.channel c).ageTimer.isSome = true →
      let n := sideOf c
      let aged := s.levels.setChannel c { s.levels.channel c with state := .aged, ageTimer := none }
      let fresh := (aged.pair n).1.state = .fresh ∨ (aged.pair n).2.state = .fresh
      let after : SideState :=
        if fresh then .valid else if (s.levels.side n).formed = true then .stale else .noData
      let levels := aged.setSide n { s.levels.side n with state := after }
      ∃ t, exec (.ageTimerExpiry c) s = .next t ∧ OnlyNotices { s with levels := levels } t ∧
        (after = (s.levels.side n).state → OnlyTraffic { s with levels := levels } t) ∧
        (after ≠ (s.levels.side n).state → s.NoticeRoom →
          t.post.tagCounter = nextTag s.post.tagCounter ∧
          let notice := s.sideNotice n levels (s.levels.side n).state (nextTag s.post.tagCounter)
          t.Placed (.notice notice) notice) ∧
        (after ≠ (s.levels.side n).state → noticeDest s.store.control ≠ 0#8 → ¬s.NoticeRoom →
          OnlyTraffic { s with levels := levels
                               post := { s.post with tagCounter := nextTag s.post.tagCounter }
                               req := { s.req with noticeLost := true } } t ∧
          (s.Settled → t.req = { s.req with noticeLost := true })) ∧
        (noticeDest s.store.control = 0#8 → OnlyTraffic { s with levels := levels } t))

/-- A good sample whose data reach the part: every channel bound to its source takes the value, clamped, and is FRESH
with its timer restarted; each side reached is VALID and forms its working level by the table of R47; the head is formed
when both sides are VALID; each level formed is compared with its thresholds, and no other; and the gates stand as the
evaluation of the two levels leaves them, which takes place in RUN with both sides VALID, in an order left open (R10, R28,
R37, R40, R41, R43, R46 to R52, R64, R145 to R147; notes/assumptions/1.md). -/
def Sys2Proof.Claim.GoodSampleTaken : Prop :=
  ∀ (ws : List Word) (k : Nat) (f : Frame) (s : State), s.Arrives ws k f → s.Consumes f →
    f.kind = kindSample → f.src ≠ 0#8 → 3 ≤ f.payload.length → (f.word 2).getLsbD 1 = false →
    (∃ c, binding s.store.control c = f.src) →
    let fine := (f.word 2).getLsbD 0
    let reading : Int := if fine then (f.word 0).toInt else (f.word 1).toInt * 10
    let value : Int := max (-8000) (min 12000 reading)
    let formed := fun (n : SideName) => ∃ c, sideOf c = n ∧ binding s.store.control c = f.src
    ∃ t, exec (.frameArrival ws k) s = .next t ∧
      (∀ c, binding s.store.control c = f.src → t.levels.channel c =
        ⟨.fresh, value, !fine, decide (value ≠ reading), some (ageLimit s.store.control c)⟩) ∧
      (∀ c, binding s.store.control c ≠ f.src → t.levels.channel c = s.levels.channel c) ∧
      (∀ n, ¬formed n → t.levels.side n = s.levels.side n) ∧
      (∀ n, formed n →
        let a := (t.levels.pair n).1
        let b := (t.levels.pair n).2
        let x := t.levels.side n
        x.state = .valid ∧ x.formed = true ∧ x.updated = true ∧
        (a.state = .fresh → b.state = .fresh → |a.value - b.value| ≤ agreeLimit s.store.control →
          x.level = (a.value + b.value) / 2 ∧ x.disagree = false) ∧
        (a.state = .fresh → b.state = .fresh → agreeLimit s.store.control < |a.value - b.value| →
          x.level = (if n = .up then min a.value b.value else max a.value b.value) ∧ x.disagree = true) ∧
        (a.state = .fresh → b.state ≠ .fresh → x.level = a.value ∧ x.disagree = false) ∧
        (a.state ≠ .fresh → b.state = .fresh → x.level = b.value ∧ x.disagree = false)) ∧
      let bothValid := t.levels.up.state = .valid ∧ t.levels.down.state = .valid
      t.levels.head = (if bothValid then t.levels.up.level - t.levels.down.level else s.levels.head) ∧
      (formed .up →
        ComparedFrom s.monitor.up t.monitor.up s.store.thresholds .levelU t.levels.up.level false) ∧
      (¬formed .up → t.monitor.up = s.monitor.up) ∧
      (formed .down →
        ComparedFrom s.monitor.down t.monitor.down s.store.thresholds .levelD t.levels.down.level false) ∧
      (¬formed .down → t.monitor.down = s.monitor.down) ∧
      (if bothValid then ComparedFrom s.monitor.head t.monitor.head s.store.thresholds .head t.levels.head false
        else t.monitor.head = s.monitor.head) ∧
      (∀ g, t.gate g =
        if bothValid ∧ s.sup.device = .run then (evaluate t.levels.up.level t.levels.down.level s).gate g
        else s.gate g) ∧
      t.store = s.store ∧ t.sup = s.sup ∧ t.forcedIndex = s.forcedIndex ∧ (f.dest = s.ring.own → t.pass = s.pass) ∧
      t.ring.checkErrors = s.ring.checkErrors ∧ t.pending = s.pending ∧
      ∀ h, (t.hoist h).position = (s.hoist h).position ∧ (t.hoist h).load = (s.hoist h).load ∧
        (t.hoist h).drive = (s.hoist h).drive ∧ (t.hoist h).valid = (s.hoist h).valid ∧
        (t.hoist h).monitor = (s.hoist h).monitor

/-- The THRESHOLD notices of a good sample that forms the working level of one side, VALID already, while the other is
not VALID, so that no other notice is due (R145, R155). -/
def Sys2Proof.Claim.LevelAlarmNoticed : Prop :=
  ∀ (ws : List Word) (k : Nat) (f : Frame) (s : State) (n : SideName), s.Arrives ws k f → f.dest = s.ring.own →
    f.kind = kindSample → f.src ≠ 0#8 → 3 ≤ f.payload.length → (f.word 2).getLsbD 1 = false →
    (∃ c, binding s.store.control c = f.src) → (∀ c, binding s.store.control c = f.src → sideOf c = n) →
    (s.levels.side n).state = .valid → (∀ j, j ≠ n → (s.levels.side j).state ≠ .valid) →
    ∃ t, exec (.frameArrival ws k) s = .next t ∧
      match n with
      | .up => s.NoticesAlarms t .levelU 0 t.levels.up.level s.monitor.up.flags t.monitor.up.flags
      | .down => s.NoticesAlarms t .levelD 1 t.levels.down.level s.monitor.down.flags t.monitor.down.flags

/-- The SIDE-STATE notices of a good sample that makes a side VALID: one for each such side, with the level just formed,
the upstream one first (R43, R45, R46; 11.3). That a side is recomputed once is notes/assumptions/14.md. -/
def Sys2Proof.Claim.SampleSideStateNoticed : Prop :=
  ∀ (ws : List Word) (k : Nat) (f : Frame) (s : State), s.Arrives ws k f → f.dest = s.ring.own →
    f.kind = kindSample → f.src ≠ 0#8 → 3 ≤ f.payload.length → (f.word 2).getLsbD 1 = false →
    let changed := fun (n : SideName) =>
      (∃ c, sideOf c = n ∧ binding s.store.control c = f.src) ∧ (s.levels.side n).state ≠ .valid
    ∃ t, exec (.frameArrival ws k) s = .next t ∧
      let notice := fun (n : SideName) => s.sideNotice n t.levels (s.levels.side n).state
      (∀ n, changed n → (∀ j, j ≠ n → ¬changed j) → s.NoticeRoom →
        let x := notice n (nextTag s.post.tagCounter)
        t.Placed (.notice x) x) ∧
      (changed .up → changed .down → s.NoticeRoom →
        let x := notice .up (nextTag s.post.tagCounter)
        t.Placed (.notice x) x) ∧
      (changed .up → changed .down → s.TwoNoticesRoom →
        let x := notice .down (nextTag (nextTag s.post.tagCounter))
        t.Placed (.notice x) x)

/-- The THRESHOLD notices of the head that a good sample forms, where no other notice is due: both sides VALID already,
no alarm flag of a working level rising, and no gate in AUTO or FLOOD for an evaluation to take up (R51, R65, R145,
R155). -/
def Sys2Proof.Claim.HeadAlarmNoticed : Prop :=
  ∀ (ws : List Word) (k : Nat) (f : Frame) (s : State), s.Arrives ws k f → f.dest = s.ring.own →
    f.kind = kindSample → f.src ≠ 0#8 → 3 ≤ f.payload.length → (f.word 2).getLsbD 1 = false →
    (∃ c, binding s.store.control c = f.src) → s.levels.up.state = .valid → s.levels.down.state = .valid →
    (∀ g, (s.gate g).mode ≠ .auto ∧ (s.gate g).mode ≠ .flood) →
    let quiet := fun (before after : Quad) => (after.ha = true → before.ha = true) ∧ (after.la = true → before.la = true)
    ∃ t, exec (.frameArrival ws k) s = .next t ∧
      (quiet s.monitor.up.flags t.monitor.up.flags → quiet s.monitor.down.flags t.monitor.down.flags →
        s.NoticesAlarms t .head 2 t.levels.head s.monitor.head.flags t.monitor.head.flags)

/-- A good sample: channels, sides, head, comparisons, evaluation, and the SIDE-STATE and THRESHOLD notices. -/
def Obligations.GoodSampleFormsLevels : Prop :=
  Sys2Proof.Claim.GoodSampleTaken ∧ Sys2Proof.Claim.SampleSideStateNoticed ∧ Sys2Proof.Claim.LevelAlarmNoticed ∧
  Sys2Proof.Claim.HeadAlarmNoticed

/-- A fault sample whose data reach the part: every channel bound to its source is FAULTED with its value kept and its
timer stopped; no working level, head or gate changes, and no comparison is made (R10, R28, R38, R39, R43). -/
def Obligations.FaultSampleFormsNothing : Prop :=
  ∀ (ws : List Word) (k : Nat) (f : Frame) (s : State), s.Arrives ws k f → s.Consumes f →
    f.kind = kindSample → f.src ≠ 0#8 → 3 ≤ f.payload.length → (f.word 2).getLsbD 1 = true →
    ∃ t, exec (.frameArrival ws k) s = .next t ∧
      (∀ c, binding s.store.control c = f.src →
        t.levels.channel c = { s.levels.channel c with state := .faulted, ageTimer := none }) ∧
      (∀ c, binding s.store.control c ≠ f.src → t.levels.channel c = s.levels.channel c) ∧
      (∀ n, t.levels.side n = { s.levels.side n with state := (t.levels.side n).state } ∧
        ((∃ c, sideOf c = n ∧ binding s.store.control c = f.src) →
          (t.levels.side n).state = t.levels.sideState n) ∧
        ((∀ c, sideOf c = n → binding s.store.control c ≠ f.src) →
          (t.levels.side n).state = (s.levels.side n).state)) ∧
      t.levels.head = s.levels.head ∧
      OnlyNotices { s with levels := t.levels, pass := t.pass, orders := t.orders
                           ring := { s.ring with transitLosses := t.ring.transitLosses } } t ∧
      (f.dest = s.ring.own → OnlyNotices { s with levels := t.levels } t)

/-- A SAMPLE that arrives in DRAIN or LOCKOUT, however it is addressed, changes no gate: its formation is discarded by
the Schedule Evaluator (R64, R171, R173). -/
def Obligations.SampleMovesNoGateOutsideRun : Prop :=
  ∀ (ws : List Word) (n : Nat) (f : Frame) (s : State), checkedFrame ws n = some f → f.kind = kindSample →
    s.sup.device ≠ .run →
    ∃ t, exec (.frameArrival ws n) s = .next t ∧ t.gates = s.gates ∧ t.sup = s.sup ∧ t.store = s.store ∧
      ∀ h, (t.hoist h).exceptPhase = (s.hoist h).exceptPhase

/-! ### Automatic targets -/

/-- The stage index lies within 0..L-1 of the schedule, whatever the level and the forced index, and where it has no
successor row the remainder is 0 (R67). -/
def Sys2Proof.Claim.StageIndexWithinSchedule : Prop :=
  ∀ (forced : Option Nat) (length : Nat) (d : Int), 2 ≤ length →
    let i := (stageIndex forced length d).1
    let r := (stageIndex forced length d).2
    (∀ v, forced = some v → i = min v (length - 1) ∧ r = 0) ∧
    (forced = none → d < -4000 → i = 0 ∧ r = 0) ∧
    (forced = none → -4000 ≤ d → ((length : Int) - 1) * 200 ≤ d + 4000 → i = length - 1 ∧ r = 0) ∧
    (forced = none → -4000 ≤ d → d + 4000 < ((length : Int) - 1) * 200 →
      (i : Int) = (d + 4000) / 200 ∧ r = (d + 4000) % 200 ∧ i + 1 < length)

/-- The base opening: between two rows, the lower-indexed row plus or less its share of the step to the next, 200 mm to
the row, rounded toward that row; at the last row, the row (R69). -/
def Sys2Proof.Claim.OpeningInterpolates : Prop :=
  (∀ (image : ScheduleImage) (i : Nat) (r : Int), 0 ≤ r → r < 200 → i + 1 < scheduleLength image →
    (baseRow image i ≤ baseRow image (i + 1) →
      baseOpening image i r = baseRow image i + (baseRow image (i + 1) - baseRow image i) * r / 200) ∧
    (baseRow image (i + 1) ≤ baseRow image i →
      baseOpening image i r = baseRow image i - (baseRow image i - baseRow image (i + 1)) * r / 200)) ∧
  ∀ (image : ScheduleImage) (r : Int), 1 ≤ scheduleLength image →
    baseOpening image (scheduleLength image - 1) r = baseRow image (scheduleLength image - 1)

/-- The pool correction: sixteenths of the gain for each mm above the pool setpoint, rounded toward 0 and held to the
correction limit, and the same below it with the other sign (R70). -/
def Sys2Proof.Claim.CorrectionProportional : Prop :=
  ∀ (image : ScheduleImage) (e : Int), 0 ≤ e →
    poolCorrection image (poolSetpoint image + e) = min (correctionLimit image) (e * gain image / 16) ∧
    poolCorrection image (poolSetpoint image - e) = -(min (correctionLimit image) (e * gain image / 16))

/-- The automatic target: for an AUTO gate base opening, pool correction and trim offset summed, for a FLOOD gate or
under the pool alarm the upper limit, and in either case held to the travel window (R71 to R73). -/
def Sys2Proof.Claim.AutomaticTargetInWindow : Prop :=
  ∀ (g : GateNo) (u d : Int) (s : State), lowerLimit (s.record g) ≤ upperLimit (s.record g) →
    let alarm := floodOnPoolAlarm s.store.control = true ∧ threshold s.store.thresholds .levelU 0 < u
    let image := (s.schedule (recordSchedule (s.record g))).active
    let stage := stageIndex s.forcedIndex (scheduleLength image) d
    (lowerLimit (s.record g) ≤ s.autoTarget g u d ∧ s.autoTarget g u d ≤ upperLimit (s.record g)) ∧
    ((s.gate g).mode = .flood ∨ alarm → s.autoTarget g u d = upperLimit (s.record g)) ∧
    ((s.gate g).mode ≠ .flood → ¬alarm →
      s.autoTarget g u d = max (lowerLimit (s.record g)) (min (upperLimit (s.record g))
        (baseOpening image stage.1 stage.2 + poolCorrection image u + trimOffset (s.record g))))

/-- The arithmetic of an automatic target: stage index, base opening, pool correction, their sum, and the clamp to the
travel window. -/
def Obligations.AutomaticTargetArithmetic : Prop :=
  Sys2Proof.Claim.StageIndexWithinSchedule ∧
  Sys2Proof.Claim.OpeningInterpolates ∧
  Sys2Proof.Claim.CorrectionProportional ∧
  Sys2Proof.Claim.AutomaticTargetInWindow

/-- An evaluation in RUN that finds D + M at or above U, at a gate it takes up: a closure at FAST retargets a gate in
flight, is issued at an IDLE gate or completed there within tolerance, and is left pending where the gate is STOPPING or
held from issuing; a gate at or bound for its lower limit is held there; a faulted gate keeps all but its blocked-notice
indicator. A gate not taken up loses that indicator alone (R65, R74, R75, R77, R105, R110, R113, R118, R119). -/
def Sys2Proof.Claim.ClosureOutcomes : Prop :=
  ∀ (u d : Int) (g : GateNo) (s : State), s.sup.device = .run → (s.gate g).motionRule → (s.gate g).queueRule →
    let x := s.gate g
    let y := (evaluate u d s).gate g
    let lower := lowerLimit (s.record g)
    let closing := x.started (s.contextFor g lower .fast .closure) (moveTimeLimit (s.record g))
    let posted := ∀ h, gateOf h = g → (evaluate u d s).Posted h ⟨.move, lower, .fast⟩
    (s.takenUp g = false → y = { x with blockedNotice := false }) ∧
    (s.takenUp g = true → u ≤ d + headMargin (s.scheduleOf g) →
      (x.inFlight = true → x.aim = lower → y = { x with tideClosed := true, blockedNotice := false }) ∧
      (x.inFlight = true → x.aim ≠ lower →
        y = { closing with closurePending := false, blockedNotice := false } ∧ posted) ∧
      (x.motion = .idle → x.standing = lower → y = { x with tideClosed := true, blockedNotice := false }) ∧
      (x.motion = .idle → x.standing ≠ lower → s.HeldFromIssue g →
        y = { x with closurePending := true, blockedNotice := false }) ∧
      (x.motion = .idle → x.standing ≠ lower → ¬s.HeldFromIssue g → s.withinTolerance g lower = true →
        y = { x.completed lower .closure with closurePending := false, blockedNotice := false }) ∧
      (x.motion = .idle → x.standing ≠ lower → ¬s.HeldFromIssue g → s.withinTolerance g lower = false →
        y = { closing with closurePending := false, blockedNotice := false } ∧ posted) ∧
      (x.motion = .stopping → y = { x with closurePending := true, blockedNotice := false }) ∧
      (x.faulty = true → y = { x with blockedNotice := true }))

/-- The notices of one gate's evaluation under closure: CLOSURE for a closure that retargets or is issued, and
CLOSURE-BLOCKED once for each stretch in which a faulted gate stands against the tide (R75, R118, R122). -/
def Sys2Proof.Claim.ClosureNoticed : Prop :=
  ∀ (u d : Int) (g : GateNo) (s : State), s.sup.device = .run → (s.gate g).motionRule → s.takenUp g = true →
    u ≤ d + headMargin (s.scheduleOf g) →
    let x := s.gate g
    let t := evaluateGate u d g s
    let lower := lowerLimit (s.record g)
    let notice : Byte → List Word → OwnFrame := fun tag ws => ⟨noticeDest s.store.control, kindNotice, tag, ws⟩
    (x.inFlight = true → x.aim ≠ lower → s.NoticeRoom → ∃ tag,
      let n := notice tag [pack [(3, 8), (g.val, 0)], word lower, pack [(x.motion.code, 0), (1, 15)], word x.aim]
      t.Placed (.notice n) n) ∧
    (x.motion = .idle → x.standing ≠ lower → ¬s.HeldFromIssue g → s.NoticeRoom → ∃ tag w,
      let n := notice tag [pack [(3, 8), (g.val, 0)], word lower, 0#16, w]
      t.Placed (.notice n) n) ∧
    (x.faulty = true → x.blockedNotice = false → s.NoticeRoom →
      let n := notice (nextTag s.post.tagCounter)
        [pack [(9, 8), (g.val, 0)], pack [(x.motion.code, 0)], word d, word u, word (headMargin (s.scheduleOf g))]
      t.Placed (.notice n) n) ∧
    (x.faulty = true → x.blockedNotice = true → t = s)

/-- An evaluation in RUN without closure condition whose target the deadband drops, or at a faulted gate: NO-CLOSURE
clears both closure flags, and the entry that the tide-closed flag held back is issued (R66, R75, R76, R108, R119). -/
def Sys2Proof.Claim.NoClosureOutcome : Prop :=
  ∀ (u d : Int) (g : GateNo) (s : State), s.sup.device = .run → (s.gate g).motionRule → (s.gate g).queueRule →
    s.takenUp g = true → d + headMargin (s.scheduleOf g) < u →
    let x := s.gate g
    let y := (evaluate u d s).gate g
    let cleared := { x with closurePending := false, tideClosed := false, blockedNotice := false }
    (x.faulty = true → y = cleared) ∧
    (x.faulty = false → |s.autoTarget g u d - x.aim| < deadband (s.scheduleOf g) →
      (x.tideClosed = false ∨ s.HeldFromIssue g ∨ x.queue = [] → y = cleared) ∧
      (x.tideClosed = true → ¬s.HeldFromIssue g → ∀ e, x.queue = [e] →
        let target := if e.form = .absolute then e.value else x.standing + e.value
        s.inWindow g target = true → s.withinTolerance g target = false →
        y = { cleared.started (s.contextFor g target (e.speed.getD (defaultSpeed (s.record g))) e.origin)
                (moveTimeLimit (s.record g)) with queue := [] }))

/-- An evaluation in RUN without closure condition whose target the deadband keeps: the AUTO REQUEST at NORMAL, or the
FLOOD REQUEST at FAST, clears both closure flags and takes the place of the entry held; held from issuing, or in motion,
the gate keeps it queued; otherwise it is issued, or completed within tolerance (R66, R76, R100, R110, R117). -/
def Sys2Proof.Claim.RequestOutcome : Prop :=
  ∀ (u d : Int) (g : GateNo) (s : State), s.sup.device = .run → (s.gate g).motionRule → (s.gate g).queueRule →
    s.takenUp g = true → d + headMargin (s.scheduleOf g) < u → (s.gate g).faulty = false →
    deadband (s.scheduleOf g) ≤ |s.autoTarget g u d - (s.gate g).aim| →
    let x := s.gate g
    let y := (evaluate u d s).gate g
    let target := s.autoTarget g u d
    let origin : Origin := if x.mode = .flood then .flood else .auto
    let speed : Speed := if x.mode = .flood then .fast else .normal
    let cleared := { x with closurePending := false, tideClosed := false, blockedNotice := false }
    (s.HeldFromIssue g → y = { cleared with queue := [⟨origin, .absolute, target, some speed⟩] }) ∧
    (¬s.HeldFromIssue g → lowerLimit (s.record g) ≤ upperLimit (s.record g) →
      (s.withinTolerance g target = true → y = { cleared.completed target origin with queue := [] }) ∧
      (s.withinTolerance g target = false →
        y = { cleared.started (s.contextFor g target speed origin) (moveTimeLimit (s.record g)) with queue := [] } ∧
        ∀ h, gateOf h = g → (evaluate u d s).Posted h ⟨.move, target, speed⟩))

/-- What an evaluation does at each gate, by its outcome: CLOSURE and CLOSURE-HELD, NO-CLOSURE, AUTO REQUEST and FLOOD
REQUEST, with the notices of the first two. -/
def Obligations.ReverseHeadClosesGates : Prop :=
  Sys2Proof.Claim.ClosureOutcomes ∧
  Sys2Proof.Claim.ClosureNoticed ∧
  Sys2Proof.Claim.NoClosureOutcome ∧
  Sys2Proof.Claim.RequestOutcome

/-! ### Hoist statuses -/

/-- A HOIST-STATUS addressed to the part, broadcast, or read under SNOOP: the record of every hoist mapped to its
source takes the clamped position and load and the drive state and is valid, and no other record changes; the load
recorded is compared with its thresholds, and no other quantity. Nor does the status change a table, a level or the HOLD
line. The comparison is inhibited by the settle timer as it stands before or after the gate has taken the status, in an
order left open (R10, R126, R127, R145 to R147, R150; notes/assumptions/1.md). -/
def Sys2Proof.Claim.StatusRecordedAndCompared : Prop :=
  ∀ (ws : List Word) (k : Nat) (f : Frame) (s : State) (d : StatusData), s.Arrives ws k f →
    f.kind = kindHoistStatus → readStatus f = some d → s.Consumes f →
    ∃ t, exec (.frameArrival ws k) s = .next t ∧
      (∀ h, h ∈ s.hoistsAt f.src →
        (t.hoist h).position = max 0 (min 16000 d.position) ∧ (t.hoist h).load = max (-4000) (min 4000 d.load) ∧
        (t.hoist h).drive = d.drive ∧ (t.hoist h).valid = true ∧
        ∃ inhibited : Bool,
          (inhibited = (s.hoist h).settleTimer.isSome ∨ inhibited = (t.hoist h).settleTimer.isSome) ∧
          ComparedFrom (s.hoist h).monitor (t.hoist h).monitor s.store.thresholds .load (t.hoist h).load inhibited) ∧
      (∀ h, h ∉ s.hoistsAt f.src →
        (t.hoist h).position = (s.hoist h).position ∧ (t.hoist h).load = (s.hoist h).load ∧
        (t.hoist h).drive = (s.hoist h).drive ∧ (t.hoist h).valid = (s.hoist h).valid ∧
        (t.hoist h).monitor = (s.hoist h).monitor) ∧
      t.monitor.up = s.monitor.up ∧ t.monitor.down = s.monitor.down ∧ t.monitor.head = s.monitor.head ∧
      t.store = s.store ∧ t.levels = s.levels ∧ t.forcedIndex = s.forcedIndex ∧
      t.sup.holdLine = s.sup.holdLine ∧ t.pending = s.pending

/-- The THRESHOLD notices of a status at a hoist of a gate in OFF, which it gives no other notice; the settle timer, when
it runs, inhibits the low outcomes (R150, R151, R155). -/
def Sys2Proof.Claim.LoadAlarmNoticed : Prop :=
  ∀ (ws : List Word) (k : Nat) (f : Frame) (s : State) (d : StatusData) (h : HoistNo),
    s.StatusReaches ws k f d h → (s.gate (gateOf h)).mode = .off →
    ∃ t, exec (.frameArrival ws k) s = .next t ∧ t.gates = s.gates ∧
      (t.hoist h).settleTimer = (s.hoist h).settleTimer ∧
      s.NoticesAlarms t .load (16 + h.val) (t.hoist h).load (s.hoist h).monitor.flags (t.hoist h).monitor.flags

/-- A HOIST-STATUS: the records, the comparisons and their notices. -/
def Obligations.HoistStatusRecorded : Prop :=
  Sys2Proof.Claim.StatusRecordedAndCompared ∧ Sys2Proof.Claim.LoadAlarmNoticed

/-- An acknowledgement, addressed to the part or broadcast, empties the slot and restarts the refresh timer, at a gate
that the status gives nothing else to do: one in HOLD, IDLE with nothing queued, the drive not in FAULT and the load
within its alarm thresholds (R11, R127, R134, R138). -/
def Sys2Proof.Claim.AcknowledgementMatched : Prop :=
  ∀ (ws : List Word) (k : Nat) (f : Frame) (s : State) (d : StatusData) (h : HoistNo) (sl : Slot),
    s.StatusReaches ws k f d h → (f.dest = s.ring.own ∨ f.dest = 255#8) →
    (s.gate (gateOf h)).mode = .hold → (s.gate (gateOf h)).motion = .idle → (s.gate (gateOf h)).queue = [] →
    (s.gate (gateOf h)).closurePending = false → d.drive ≠ .fault → s.sup.device = .run → s.LoadCalm h d →
    (s.hoist h).slot = some sl → sl.tag = d.ackTag → d.ackTag ≠ 0#8 →
    ∃ t, exec (.frameArrival ws k) s = .next t ∧ (t.hoist h).slot = none ∧ h ∉ t.post.queue ∧
      (t.hoist h).refreshTimer =
        (if s.store.control[11] = 0#16 then none else some (s.store.control[11]).toNat) ∧
      (t.hoist h).lastPosted = (s.hoist h).lastPosted ∧ (t.hoist h).retry = (s.hoist h).retry ∧
      (t.hoist h).exhausted = (s.hoist h).exhausted ∧ t.gates = s.gates ∧ t.sup = s.sup ∧
      ∀ j, j ≠ h → (t.hoist j).exceptPhase = (s.hoist j).exceptPhase

/-- What acknowledges nothing: a status read under SNOOP, an acknowledged tag of 0, one that is not the slot's, and an
empty slot; at the same gate the slot and the refresh timer stay (R28, R126, R127, R134). -/
def Sys2Proof.Claim.AcknowledgementNotMatched : Prop :=
  ∀ (ws : List Word) (k : Nat) (f : Frame) (s : State) (d : StatusData) (h : HoistNo),
    s.StatusReaches ws k f d h →
    ((f.dest ≠ s.ring.own ∧ f.dest ≠ 255#8) ∨ d.ackTag = 0#8 ∨
      ∀ sl, (s.hoist h).slot = some sl → sl.tag ≠ d.ackTag) →
    (s.gate (gateOf h)).mode = .hold → (s.gate (gateOf h)).motion = .idle → (s.gate (gateOf h)).queue = [] →
    (s.gate (gateOf h)).closurePending = false → d.drive ≠ .fault → s.LoadCalm h d →
    ∃ t, exec (.frameArrival ws k) s = .next t ∧
      (t.hoist h).exceptPhase = { ((s.withStatus h d).hoist h).exceptPhase with monitor := (t.hoist h).monitor } ∧
      t.gates = s.gates ∧ t.sup = s.sup ∧
      ∀ j, j ≠ h → (t.hoist j).exceptPhase = (s.hoist j).exceptPhase

/-- The matching of an acknowledgement to a slot. -/
def Obligations.AcknowledgementEmptiesSlot : Prop :=
  Sys2Proof.Claim.AcknowledgementMatched ∧ Sys2Proof.Claim.AcknowledgementNotMatched

/-- The status that finds both hoists STILL within the arrival tolerance of the target ends the move: IDLE, the target
the standing target, the record of a resumed move released, the tide-closed flag set for a closure, ARRIVED sent for an
order, whatever the order in which the comparison of the load is taken (R111 to R113). -/
def Sys2Proof.Claim.ArrivalCompletesMove : Prop :=
  ∀ (ws : List Word) (k : Nat) (f : Frame) (s : State) (d : StatusData) (h : HoistNo) (c : MoveContext),
    s.StatusReaches ws k f d h →
    let g := gateOf h
    let u := s.withStatus h d
    (s.gate g).mode ≠ .off → (s.gate g).inFlight = true → (s.gate g).context = some c → (s.gate g).queue = [] →
    (s.gate g).closurePending = false → s.sup.device = .run → s.LoadCalm h d →
    u.bothStill g = true → |u.skew g| ≤ skewAlarm (s.record g) → u.withinTolerance g c.target = true →
    ∃ t, exec (.frameArrival ws k) s = .next t ∧ t.gate g = (s.gate g).completed c.target c.origin ∧
      (∀ j, j ≠ g → t.gate j = s.gate j) ∧ t.sup = s.sup ∧
      (∀ src tag, c.origin = .order src tag → s.NoticeRoom →
        let notice : OwnFrame := ⟨src, kindNotice, nextTag s.post.tagCounter,
          [pack [(1, 8), (g.val, 0)], word c.target, pack [(tag.toNat, 0)]]⟩
        t.Placed (.notice notice) notice)

/-- The status that finds every drive of a STOPPING gate STILL, FAULT or LOCAL, the reporting one STILL, ends the stop:
IDLE at the gate position, the context and a resumed record released, the stop timer stopped; the gate is then examined,
and stays so where it is held from issuing or has nothing to issue. A drive that runs on leaves the gate as it is. No
other gate changes (R97, R108, R116). That in DRAIN the status only marks the drain's conditions as fulfilled, the
completion being a later step, is the model's choice (R174; notes/assumptions/5.md). -/
def Sys2Proof.Claim.RestEndsStop : Prop :=
  ∀ (ws : List Word) (k : Nat) (f : Frame) (s : State) (d : StatusData) (h : HoistNo), s.StatusReaches ws k f d h →
    let g := gateOf h
    let u := s.withStatus h d
    (s.gate g).mode ≠ .off → (s.gate g).motion = .stopping → s.LoadCalm h d →
    let stopped := u.onGate g (fun x =>
      { x with motion := .idle, context := none, stopTimer := none
               standing := ((u.hoist (leftHoist g)).position + (u.hoist (rightHoist g)).position) / 2
               save := { x.save with occupied := x.save.occupied && !x.save.resumed, resumed := false } })
    ∃ t, exec (.frameArrival ws k) s = .next t ∧
      (d.drive = .still ∨ d.drive = .running → ∀ j, j ≠ g → t.gate j = s.gate j) ∧
      (d.drive = .still → u.bothAtRest g = true →
        t.gate g = (examine g stopped).gate g ∧
        (stopped.HeldFromIssue g ∨ ((s.gate g).queue = [] ∧ (s.gate g).closurePending = false) →
          t.gate g = stopped.gate g) ∧
        (s.sup.device ≠ .drain → t.sup = s.sup) ∧
        (s.sup.device = .drain → t.sup.drainFulfilled = (s.sup.drainFulfilled || t.drained))) ∧
      (d.drive = .running ∨ (d.drive = .still ∧ u.bothAtRest g = false) → t.gate g = s.gate g)

/-- Trim: a moving gate whose skew passes the trim threshold goes to TRIM with STOP posted to the leading hoist, and at
the trim release or below it goes on, with the move posted again to the hoist that was stopped; between the two it stays
(R112). -/
def Sys2Proof.Claim.SkewTrimsGate : Prop :=
  ∀ (ws : List Word) (k : Nat) (f : Frame) (s : State) (d : StatusData) (h : HoistNo) (c : MoveContext),
    s.StatusReaches ws k f d h →
    let g := gateOf h
    let x := s.gate g
    let u := s.withStatus h d
    x.mode ≠ .off → x.inFlight = true → x.context = some c → s.sup.device = .run → s.LoadCalm h d →
    (d.drive = .still ∨ d.drive = .running) → |u.skew g| ≤ skewAlarm (s.record g) →
    ¬(u.bothStill g = true ∧ u.withinTolerance g c.target = true) →
    let leading := if (0 < u.skew g ∧ c.up = true) ∨ (u.skew g < 0 ∧ c.up = false) then leftHoist g else rightHoist g
    ∃ t, exec (.frameArrival ws k) s = .next t ∧ t.sup = s.sup ∧ (∀ j, j ≠ g → t.gate j = s.gate j) ∧
      (x.motion = .moving → trimThreshold (s.record g) < |u.skew g| →
        t.gate g = { x with motion := .trim, trimHoist := some leading } ∧
        t.Posted leading (stopSetpoint (u.hoist leading)) ∧
        ∀ j, j ≠ leading → j ≠ h → (t.hoist j).exceptPhase = (s.hoist j).exceptPhase) ∧
      (x.motion = .moving → |u.skew g| ≤ trimThreshold (s.record g) → t.gate g = x) ∧
      (x.motion = .trim → trimRelease (s.record g) < |u.skew g| → t.gate g = x) ∧
      (x.motion = .trim → |u.skew g| ≤ trimRelease (s.record g) →
        t.gate g = { x with motion := .moving, trimHoist := none } ∧
        ∀ j, x.trimHoist = some j → gateOf j = g → t.Posted j ⟨.move, c.target, c.speed⟩ ∧
          ∀ i, i ≠ j → i ≠ h → (t.hoist i).exceptPhase = (s.hoist i).exceptPhase)

/-- A status at a gate in motion that brings no fault: arrival, the end of a stop, trim. -/
def Obligations.ArrivalEndsMove : Prop :=
  Sys2Proof.Claim.ArrivalCompletesMove ∧ Sys2Proof.Claim.RestEndsStop ∧ Sys2Proof.Claim.SkewTrimsGate

/-- The status that leaves the hoists of a moving gate apart by more than the skew alarm faults the gate with cause
SKEW, before arrival or trim is looked at (R111, R112, R160). -/
def Sys2Proof.Claim.SkewFaultsGate : Prop :=
  ∀ (ws : List Word) (k : Nat) (f : Frame) (s : State) (d : StatusData) (h : HoistNo), s.StatusReaches ws k f d h →
    let g := gateOf h
    let u := s.withStatus h d
    (d.drive = .still ∨ d.drive = .running) → (s.gate g).mode ≠ .off → (s.gate g).inFlight = true →
    (s.gate g).context.isSome = true → (s.gate g).save.resumed = false → faultResponse s.store.control = true →
    skewAlarm (s.record g) < |u.skew g| → s.LoadCalm h d →
    ∃ t, exec (.frameArrival ws k) s = .next t ∧ t.gate g = u.faultedGate g .skew ∧
      (∀ j, j ≠ g → t.gate j = s.gate j) ∧ (s.sup.device ≠ .drain → t.sup = s.sup) ∧
      ∀ j, gateOf j = g → t.Posted j (stopSetpoint (u.hoist j))

/-- A drive that reports FAULT faults its gate with DRIVE-FAULT in IDLE, MOVING, TRIM and STOPPING; one that reports
LOCAL with LOCAL-TAKEOVER in the last three, and changes no gate in IDLE (R158, R160). -/
def Sys2Proof.Claim.DriveStateFaultsGate : Prop :=
  ∀ (ws : List Word) (k : Nat) (f : Frame) (s : State) (d : StatusData) (h : HoistNo), s.StatusReaches ws k f d h →
    let g := gateOf h
    let x := s.gate g
    let u := s.withStatus h d
    x.mode ≠ .off → s.LoadCalm h d →
    ∃ t, exec (.frameArrival ws k) s = .next t ∧
      (∀ c, ((d.drive = .fault ∧ c = .driveFault ∧ x.faulty = false) ∨
          (d.drive = .takenLocal ∧ c = .localTakeover ∧ (x.inFlight = true ∨ x.motion = .stopping))) →
        x.save.resumed = false → faultResponse s.store.control = true →
        t.gate g = u.faultedGate g c ∧ (∀ j, j ≠ g → t.gate j = s.gate j) ∧
        (s.sup.device ≠ .drain → t.sup = s.sup) ∧ ∀ j, gateOf j = g → t.Posted j (stopSetpoint (u.hoist j))) ∧
      (d.drive = .takenLocal → x.motion = .idle → t.gates = s.gates)

/-- An HA outcome faults the gate, or adds OVERLOAD to its causes, whatever else the status brings and in whatever order;
an LA outcome does so with SLACK, the settle timer stopped and no move starting with the status (R149 to R151). -/
def Sys2Proof.Claim.LoadOutcomeReachesGate : Prop :=
  ∀ (ws : List Word) (k : Nat) (f : Frame) (s : State) (d : StatusData) (h : HoistNo), s.StatusReaches ws k f d h →
    let g := gateOf h
    let u := s.withStatus h d
    (s.gate g).mode ≠ .off →
    ∃ t, exec (.frameArrival ws k) s = .next t ∧
      (s.Overloads (u.hoist h).load →
        (t.gate g).faulty = true ∧ (t.gate g).save.causes.getLsbD 0 = true) ∧
      (s.Slackens (u.hoist h).load → (s.hoist h).settleTimer = none →
        (((s.gate g).queue = [] ∧ (s.gate g).closurePending = false) ∨ u.bothStill g = false) →
        (t.gate g).faulty = true ∧ (t.gate g).save.causes.getLsbD 1 = true)

/-- An HA or LA outcome at a gate that the status gives nothing else to do, since the drive runs and no trim or skew
alarm is due: the fault OVERLOAD, or SLACK alone with the settle timer stopped, and SLACK besides OVERLOAD as a cause
added (R150, R151, R160, R161). -/
def Sys2Proof.Claim.LoadFaultsGate : Prop :=
  ∀ (ws : List Word) (k : Nat) (f : Frame) (s : State) (d : StatusData) (h : HoistNo), s.StatusReaches ws k f d h →
    let g := gateOf h
    let x := s.gate g
    let u := s.withStatus h d
    x.mode ≠ .off → x.faulty = false → d.drive = .running → |u.skew g| ≤ skewAlarm (s.record g) →
    (x.motion = .moving → |u.skew g| ≤ trimThreshold (s.record g)) →
    (x.motion = .trim → trimRelease (s.record g) < |u.skew g|) →
    x.save.resumed = false → faultResponse s.store.control = true →
    let slack := s.Slackens (u.hoist h).load ∧ (s.hoist h).settleTimer = none
    ∃ t, exec (.frameArrival ws k) s = .next t ∧
      (s.Overloads (u.hoist h).load ∨ slack →
        (∀ j, j ≠ g → t.gate j = s.gate j) ∧ (s.sup.device ≠ .drain → t.sup = s.sup) ∧
        ∀ j, gateOf j = g → t.Posted j (stopSetpoint (u.hoist j))) ∧
      (s.Overloads (u.hoist h).load → ¬slack → t.gate g = u.faultedGate g .overload) ∧
      (¬s.Overloads (u.hoist h).load → slack → t.gate g = u.faultedGate g .slack) ∧
      (s.Overloads (u.hoist h).load → slack →
        let y := u.faultedGate g .overload
        t.gate g = { y with save := { y.save with causes := 3#8 } })

/-- A status at a gate in FAULT-STOPPING or FAULTED: the causes it brings are added, and in FAULT-STOPPING, when every
drive has come to STILL, FAULT or LOCAL, the gate is FAULTED and the recoverable indicator decided; nothing else of the
gate changes (R151, R158, R161, R163). That in DRAIN the end of the fault stop only marks the drain's conditions as
fulfilled, the completion being a later step, is the model's choice (R174; notes/assumptions/5.md). -/
def Sys2Proof.Claim.FaultedGateTakesStatus : Prop :=
  ∀ (ws : List Word) (k : Nat) (f : Frame) (s : State) (d : StatusData) (h : HoistNo), s.StatusReaches ws k f d h →
    let g := gateOf h
    let x := s.gate g
    let u := s.withStatus h d
    x.mode ≠ .off → x.faulty = true →
    ∀ drives overload slack : BitVec 8,
    drives = (if d.drive = .fault then 8#8 else 0#8) →
    (s.Overloads (u.hoist h).load ∧ overload = 1#8 ∨ ¬s.Overloads (u.hoist h).load ∧ overload = 0#8) →
    (let late := s.Slackens (u.hoist h).load ∧ (s.hoist h).settleTimer = none
     late ∧ slack = 2#8 ∨ ¬late ∧ slack = 0#8) →
    let y := { x with save := { x.save with causes := x.save.causes ||| drives ||| overload ||| slack } }
    let ends := x.motion = .faultStopping ∧ u.bothAtRest g = true
    let recovers := x.save.firstCause ≠ .skew ∧ x.save.firstCause ≠ .driveFault ∧
      x.save.firstCause ≠ .localTakeover ∧ u.bothStill g = true ∧ |u.skew g| ≤ trimThreshold (s.record g)
    ∃ t, exec (.frameArrival ws k) s = .next t ∧ (∀ j, j ≠ g → t.gate j = s.gate j) ∧
      (¬ends → t.gate g = y) ∧
      (ends → t.gate g = { y with
        motion := .faulted, stopTimer := none
        save := { y.save with recoverable := if recovers then .yes else .no } }) ∧
      (s.sup.device ≠ .drain → t.sup = s.sup) ∧
      (s.sup.device = .drain → ends → t.sup.drainFulfilled = (s.sup.drainFulfilled || t.drained))

/-- A status that faults a gate, by skew, drive state or load, and one at a gate that is faulted. -/
def Obligations.SkewAlarmFaultsGate : Prop :=
  Sys2Proof.Claim.SkewFaultsGate ∧
  Sys2Proof.Claim.DriveStateFaultsGate ∧
  Sys2Proof.Claim.LoadOutcomeReachesGate ∧
  Sys2Proof.Claim.LoadFaultsGate ∧
  Sys2Proof.Claim.FaultedGateTakesStatus

/-! ### Timers -/

/-- The acknowledgement timer of a slot expires: one more try, the retry flag, and the same frame with the same tag
queued again while the count is at most the retry limit, or past it under KEEP, which sets the retry-exhausted flag
(R135, R136). -/
def Sys2Proof.Claim.AckTimerRetries : Prop :=
  ∀ (h : HoistNo) (s : State) (sl : Slot), (s.hoist h).slot = some sl → sl.phase = .sent →
    sl.ackTimer.isSome = true →
    let tries := min 255 (sl.tries + 1)
    (tries ≤ retryLimit s.store.control ∨ abandonAction s.store.control = false) →
    ∃ t, exec (.ackTimerExpiry h) s = .next t ∧
      OnlyTraffic (s.onHoist h (fun x =>
        { x with slot := some { sl with tries := tries, phase := .waiting, ackTimer := none }, retry := true,
                 exhausted := x.exhausted || decide (retryLimit s.store.control < tries) })) t ∧
      (h ∈ t.post.queue ∨ ∃ x, t.ring.out = .post h x ∧ x.tag = sl.tag)

/-- Past the retry limit under ABANDON the slot is emptied: in DRAIN without a fault, and otherwise with the fault
DRIVE-SILENT, whose STOP fills the slot afresh (R136, R160). That in DRAIN the emptied slot only marks the drain's
conditions as fulfilled, the completion being a later step, is the model's choice (R174; notes/assumptions/5.md). An expiry
of a timer that does not run changes nothing (notes/assumptions/7.md). -/
def Sys2Proof.Claim.AckTimerAbandons : Prop :=
  ∀ (h : HoistNo) (s : State),
    (∀ sl, (s.hoist h).slot = some sl → sl.phase = .sent → sl.ackTimer.isSome = true →
      retryLimit s.store.control < min 255 (sl.tries + 1) → abandonAction s.store.control = true →
      (s.sup.device = .drain →
        ∃ t, exec (.ackTimerExpiry h) s = .next t ∧ t.hoist h = { s.hoist h with slot := none, retry := true } ∧
          t.gates = s.gates ∧ t.sup.device = .drain ∧ t.sup.drainFulfilled = (s.sup.drainFulfilled || t.drained)) ∧
      (s.sup.device ≠ .drain → (s.gate (gateOf h)).mode ≠ .off → (s.gate (gateOf h)).faulty = false →
        (s.gate (gateOf h)).save.resumed = false → faultResponse s.store.control = true →
        ∃ t, exec (.ackTimerExpiry h) s = .next t ∧ t.sup = s.sup ∧
          (t.gate (gateOf h)).motion = .faultStopping ∧ (t.gate (gateOf h)).save.firstCause = .driveSilent ∧
          (t.gate (gateOf h)).save.stateAtFault = (s.gate (gateOf h)).motion ∧
          (∀ j, j ≠ gateOf h → t.gate j = s.gate j) ∧
          ∀ j, gateOf j = gateOf h → t.Posted j (stopSetpoint (s.hoist j)))) ∧
    ((∀ sl, (s.hoist h).slot = some sl → ¬(sl.phase = .sent ∧ sl.ackTimer.isSome = true)) → s.Settled →
      exec (.ackTimerExpiry h) s = .next s)

/-- ACK_TIMER_EXPIRY in each of its forms. -/
def Obligations.AckTimerExpiryActs : Prop :=
  Sys2Proof.Claim.AckTimerRetries ∧ Sys2Proof.Claim.AckTimerAbandons

/-- The refresh timer expires: it restarts, and the last-posted setpoint is posted again, under a new tag, when the
gate is not OFF, the slot is empty and, for a MOVE, the device is in RUN with the HOLD line negated; otherwise nothing
is posted (R138, R139). A stopped timer does not expire (notes/assumptions/7.md). -/
def Obligations.RefreshRepostsLastSetpoint : Prop :=
  ∀ (h : HoistNo) (s : State),
    let restarted := s.onHoist h (fun x => { x with refreshTimer :=
      if s.store.control[11] = 0#16 then none else some (s.store.control[11]).toNat })
    ((s.hoist h).refreshTimer = none → s.Settled → exec (.refreshTimerExpiry h) s = .next s) ∧
    ((s.hoist h).refreshTimer.isSome = true →
      let reposts := fun (sp : Setpoint) => (s.gate (gateOf h)).mode ≠ .off ∧ (s.hoist h).slot = none ∧
        (sp.command = .move → s.sup.device = .run ∧ s.sup.holdLine = false)
      (∀ sp, (s.hoist h).lastPosted = some sp → reposts sp →
        ∃ t, exec (.refreshTimerExpiry h) s = .next t ∧ t.Posted h sp ∧
          (t.hoist h).refreshTimer = (restarted.hoist h).refreshTimer ∧
          t.post.tagCounter = (if s.post.tagCounter = 255#8 then 1#8 else s.post.tagCounter + 1) ∧
          t.gates = s.gates ∧ t.sup = s.sup ∧ t.store = s.store ∧ t.levels = s.levels ∧
          ∀ j, j ≠ h → (t.hoist j).exceptPhase = (s.hoist j).exceptPhase) ∧
      ((∀ sp, (s.hoist h).lastPosted = some sp → ¬reposts sp) → s.Settled →
        exec (.refreshTimerExpiry h) s = .next restarted))

/-- The move timer expires in MOVING or TRIM: fault MOVE-TIMEOUT, the move saved, STOP posted to both hoists, the stop
timer started, a GATE-FAULT notice offered that demands no lockout, and, with the fault response enabled, nothing but
that gate concerned (R114, R160). A stopped timer does not expire (notes/assumptions/7.md). -/
def Obligations.MoveTimerFaultsGate : Prop :=
  ∀ (g : GateNo) (s : State),
    ((s.gate g).moveTimer = none → s.Settled → exec (.moveTimerExpiry g) s = .next s) ∧
    ((s.gate g).moveTimer.isSome = true → (s.gate g).inFlight = true → (s.gate g).mode ≠ .off →
      (s.gate g).save.resumed = false → faultResponse s.store.control = true →
      ∀ c, (s.gate g).context = some c →
      ∃ t, exec (.moveTimerExpiry g) s = .next t ∧
        t.gate g = { s.gate g with
          motion := .faultStopping, context := none, trimHoist := none, moveTimer := none,
          stopTimer := some ((s.store.control[12]).toNat * 1000),
          save := { occupied := true, resumed := false, firstCause := .moveTimeout, causes := 0x20#8,
                    stateAtFault := (s.gate g).motion, target := c.target, speed := c.speed, origin := c.origin,
                    left := (s.leftOf g).position, right := (s.rightOf g).position, recoverable := .pending } } ∧
        (∀ j, j ≠ g → t.gate j = s.gate j) ∧ t.sup = s.sup ∧ SameSurroundings s t ∧
        t.Posted (leftHoist g) (stopSetpoint (s.hoist (leftHoist g))) ∧
        t.Posted (rightHoist g) (stopSetpoint (s.hoist (rightHoist g))) ∧
        (s.NoticeRoom → ∃ tag, t.Placed (.notice (t.faultNotice g false tag)) (t.faultNotice g false tag)) ∧
        ∀ j, gateOf j ≠ g → (t.hoist j).exceptPhase = (s.hoist j).exceptPhase)

/-- A fault of any cause at a gate that carries out a resumed move, or with the fault response disabled, locks the device
out in RUN, whatever the order in which the blocks take the entry, with a LOCKOUT notice of the cause behind the
GATE-FAULT notice (R140, R160, R162, R169, R170). That the demand is taken within the command is notes/assumptions/12.md. -/
def Sys2Proof.Claim.CauseLocksOut : Prop :=
  ∀ (g : GateNo) (c : Cause) (s : State), (s.gate g).mode ≠ .off → (s.gate g).faulty = false → s.sup.device = .run →
    ((s.gate g).resumedMove = true ∨ faultResponse s.store.control = false) →
    let t := reachCause g c s
    LockedOut s t g (if (s.gate g).resumedMove then .recoveryFault else .responseOff) ∧
      t.gate g = s.faultedGate g c ∧ SameSurroundings s t ∧
      (s.NoticeRoom → ∃ tag, t.Placed (.notice (t.faultNotice g true tag)) (t.faultNotice g true tag)) ∧
      (s.TwoNoticesRoom → ∃ tag,
        let notice := s.lockoutNotice g (if (s.gate g).resumedMove then .recoveryFault else .responseOff) tag
        t.Placed (.notice notice) notice ∧
        (s.ring.out ≠ .idle → ∃ first,
          t.req.report = s.req.report ++ [.notice (t.faultNotice g true first), .notice notice]))

/-- The same of every command that brings a gate a cause of its own: the move timer in MOVING and TRIM, the stop timer in
STOPPING, an acknowledgement timer past the retry limit under ABANDON, and a status with the drive state FAULT (R114,
R116, R136, R158; notes/assumptions/12.md). -/
def Sys2Proof.Claim.CommandLocksOut : Prop :=
  ∀ (g : GateNo) (s : State), (s.gate g).mode ≠ .off → (s.gate g).faulty = false → s.sup.device = .run →
    ((s.gate g).resumedMove = true ∨ faultResponse s.store.control = false) →
    let cause : LockoutCause := if (s.gate g).resumedMove then .recoveryFault else .responseOff
    ((s.gate g).moveTimer.isSome = true → (s.gate g).inFlight = true →
      ∃ t, exec (.moveTimerExpiry g) s = .next t ∧ LockedOut s t g cause ∧ SameSurroundings s t ∧
        (t.gate g).save.firstCause = .moveTimeout) ∧
    ((s.gate g).stopTimer.isSome = true → (s.gate g).motion = .stopping →
      ∃ t, exec (.stopTimerExpiry g) s = .next t ∧ LockedOut s t g cause ∧ SameSurroundings s t ∧
        (t.gate g).save.firstCause = .stopTimeout) ∧
    (∀ h sl, gateOf h = g → (s.hoist h).slot = some sl → sl.phase = .sent → sl.ackTimer.isSome = true →
      retryLimit s.store.control < min 255 (sl.tries + 1) → abandonAction s.store.control = true →
      ∃ t, exec (.ackTimerExpiry h) s = .next t ∧ LockedOut s t g cause ∧
        (t.gate g).save.firstCause = .driveSilent) ∧
    ∀ ws k f d h, s.StatusReaches ws k f d h → gateOf h = g → d.drive = .fault → s.LoadCalm h d →
      ∃ t, exec (.frameArrival ws k) s = .next t ∧ LockedOut (s.withStatus h d) t g cause ∧
        (t.gate g).save.firstCause = .driveFault

/-- A recovery fault, and a fault with the response disabled, lock the device out: every cause at the sequencer, and the
commands that bring one. -/
def Obligations.FaultLocksDeviceOut : Prop :=
  Sys2Proof.Claim.CauseLocksOut ∧ Sys2Proof.Claim.CommandLocksOut

/-- The stop timer expires: in STOPPING fault STOP-TIMEOUT (R116); in FAULT-STOPPING STOP-TIMEOUT is added to the cause
set and, in RUN, the device locks out with cause STOP-FAILED: the other gates stopped, STOP posted to every mapped hoist in
service, a LOCKOUT notice offered (R140, R164, R170; notes/assumptions/12.md). A stopped timer does not expire
(notes/assumptions/7.md). -/
def Obligations.StopTimerFaultsOrLocksOut : Prop :=
  ∀ (g : GateNo) (s : State), (s.gate g).mode ≠ .off →
    ((s.gate g).stopTimer = none → s.Settled → exec (.stopTimerExpiry g) s = .next s) ∧
    ((s.gate g).stopTimer.isSome = true → (s.gate g).motion = .stopping → (s.gate g).save.resumed = false →
      faultResponse s.store.control = true →
      ∃ t, exec (.stopTimerExpiry g) s = .next t ∧ (t.gate g).motion = .faultStopping ∧
        (t.gate g).context = none ∧ (t.gate g).stopTimer = some ((s.store.control[12]).toNat * 1000) ∧
        (t.gate g).save.firstCause = .stopTimeout ∧ (t.gate g).save.stateAtFault = .stopping ∧
        (∀ c, (s.gate g).context = some c → (t.gate g).save.target = c.target) ∧
        (∀ j, j ≠ g → t.gate j = s.gate j) ∧ t.sup = s.sup ∧ SameSurroundings s t) ∧
    ((s.gate g).stopTimer.isSome = true → (s.gate g).motion = .faultStopping →
      ∃ t, exec (.stopTimerExpiry g) s = .next t ∧
        t.gate g = { s.gate g with
          stopTimer := none, save := { (s.gate g).save with causes := (s.gate g).save.causes ||| 0x40#8 } } ∧
        SameSurroundings s t ∧
        (s.sup.device ≠ .run → t.sup = s.sup ∧ ∀ j, j ≠ g → t.gate j = s.gate j) ∧
        (s.sup.device = .run →
          t.sup = { s.sup with device := .lockout, lockoutCause := .stopFailed, lockoutGate := some g,
                               lockoutLine := true } ∧
          (∀ j, (t.gate j).inFlight = false) ∧ LockedOut s t g .stopFailed ∧
          (s.NoticeRoom →
            let notice := s.lockoutNotice g .stopFailed (nextTag s.post.tagCounter)
            t.Placed (.notice notice) notice)))

/-- The settle timer of a hoist expires: it stops, and nothing else changes; no comparison is made (R149). An expiry of a
timer that does not run changes nothing (notes/assumptions/7.md). -/
def Obligations.SettleTimerStops : Prop :=
  ∀ (h : HoistNo) (s : State), ∃ t, exec (.settleTimerExpiry h) s = .next t ∧
    t.hoist h = { s.hoist h with settleTimer := none } ∧ (∀ j, j ≠ h → t.hoist j = s.hoist j) ∧
    { t with hoists := s.hoists } = s

/-! ### The HOLD line and the drain -/

/-- Assertion of the HOLD line puts every gate in MOVING or TRIM into STOPPING with STOP posted to both hoists, and
changes no other gate, whatever the order in which the sequencers take it (R115, R120). -/
def Obligations.HoldAssertionStopsGates : Prop :=
  ∀ s : State, s.sup.holdLine = false →
    ∃ t, exec .holdLineAsserted s = .next t ∧ t.sup = { s.sup with holdLine := true } ∧
      (∀ g, t.gate g =
        if (s.gate g).inFlight then
          { s.gate g with motion := .stopping, moveTimer := none, trimHoist := none,
                          stopTimer := some ((s.store.control[12]).toNat * 1000) }
        else s.gate g) ∧
      (∀ h, (s.gate (gateOf h)).inFlight = true → t.Posted h (stopSetpoint (s.hoist h))) ∧
      (∀ h, (s.gate (gateOf h)).inFlight = false → (t.hoist h).exceptPhase = (s.hoist h).exceptPhase) ∧
      t.store = s.store ∧ t.levels = s.levels ∧ t.pass = s.pass ∧ t.forcedIndex = s.forcedIndex

/-- Release of the HOLD line examines every IDLE gate: a pending closure is issued first, otherwise the head entry of
the queue; a gate with neither, or not IDLE, is left as it is (R108, R119, R121). -/
def Sys2Proof.Claim.HoldReleaseExamines : Prop :=
  ∀ s : State, s.sup.holdLine = true →
    ∃ t, exec .holdLineReleased s = .next t ∧ t.sup.holdLine = false ∧ t.sup.device = s.sup.device ∧
      t.store = s.store ∧ t.levels = s.levels ∧
      (∀ g, (s.gate g).motion ≠ .idle ∨ ((s.gate g).closurePending = false ∧ (s.gate g).queue = []) →
        t.gate g = s.gate g) ∧
      (∀ g, s.sup.device ≠ .run ∨ s.bothStill g = false → t.gate g = s.gate g) ∧
      (∀ g, t.gate g = (examine g { s with sup := { s.sup with holdLine := false } }).gate g) ∧
      (∀ g, (s.gate g).motion = .idle → (s.gate g).closurePending = true → s.sup.device = .run →
        s.bothStill g = true → s.withinTolerance g (lowerLimit (s.record g)) = false →
        t.gate g = { s.gate g with
          motion := .moving, closurePending := false, trimHoist := none,
          context := some ⟨lowerLimit (s.record g), .fast, .closure,
            decide (s.gatePosition g < lowerLimit (s.record g))⟩,
          moveTimer := some (moveTimeLimit (s.record g)) }) ∧
      (∀ g e rest, (s.gate g).motion = .idle → (s.gate g).closurePending = false → (s.gate g).queue = e :: rest →
        s.sup.device = .run → s.bothStill g = true → (e.automatic = true → (s.gate g).tideClosed = false) →
        let target := if e.form = .absolute then e.value else (s.gate g).standing + e.value
        s.inWindow g target = true → s.withinTolerance g target = false →
        t.gate g = { s.gate g with
          motion := .moving, queue := rest, trimHoist := none,
          context := some ⟨target, e.speed.getD (defaultSpeed (s.record g)), e.origin,
            decide (s.gatePosition g < target)⟩,
          moveTimer := some (moveTimeLimit (s.record g)) })

/-- The examination for issue, one turn: held from issuing, or with nothing but an automatic entry behind the tide-closed
flag, a gate takes nothing; a pending closure is issued first; a head entry out of the travel window is discarded with
the range flag set, one within the tolerance is completed, and the examination goes on with the next; any other starts
its move (R108, R110, R113, R119). -/
def Sys2Proof.Claim.ExaminationTakesHead : Prop :=
  ∀ (g : GateNo) (s : State),
    let x := s.gate g
    let y := (examine g s).gate g
    let lower := lowerLimit (s.record g)
    let limit := moveTimeLimit (s.record g)
    (s.HeldFromIssue g → examine g s = s) ∧
    (x.closurePending = false → (∀ e, x.queue.head? = some e → e.automatic = true ∧ x.tideClosed = true) →
      examine g s = s) ∧
    (¬s.HeldFromIssue g → x.closurePending = true →
      (s.withinTolerance g lower = true →
        y = (examine g (s.onGate g (fun z => { z.completed lower .closure with closurePending := false }))).gate g) ∧
      (s.withinTolerance g lower = false →
        y = { x.started (s.contextFor g lower .fast .closure) limit with closurePending := false })) ∧
    (¬s.HeldFromIssue g → x.closurePending = false → ∀ e rest, x.queue = e :: rest →
      (e.automatic = true → x.tideClosed = false) →
      let target := if e.form = .absolute then e.value else x.standing + e.value
      (s.inWindow g target = false →
        y = (examine g (s.onGate g (fun z => { z with queue := rest, rangeFlag := true }))).gate g) ∧
      (s.inWindow g target = true → s.withinTolerance g target = true →
        y = (examine g (s.onGate g (fun z => { z.completed target e.origin with queue := rest }))).gate g) ∧
      (s.inWindow g target = true → s.withinTolerance g target = false →
        y = { x.started (s.contextFor g target (e.speed.getD (defaultSpeed (s.record g))) e.origin) limit with
              queue := rest }))

/-- Release of the HOLD line, and the examination for issue it gives every gate. -/
def Obligations.HoldReleaseIssues : Prop :=
  Sys2Proof.Claim.HoldReleaseExamines ∧ Sys2Proof.Claim.ExaminationTakesHead

/-- Drain completion, by the fulfilled conditions with outcome YES or by the expiry of the drain timer with outcome NO:
what each block is given, what it keeps, the FAULT line recomputed, the consecutive-transit count 0 where no grant
follows, and the RESET-DONE notice of kind SOFT with the one tag taken (R17, R129, R154, R174 to R176). That the completion
is a step after the one that fulfils the conditions is the model's choice (notes/assumptions/5.md); the FAULT line at the
command's end is notes/assumptions/15.md. -/
def Sys2Proof.Claim.DrainCompletionReinitialises : Prop :=
  ∀ (c : Instr) (yes : Bool) (s : State), s.sup.device = .drain →
    ((c = .drainCompletion ∧ yes = true ∧ s.sup.drainFulfilled = true) ∨
      (c = .drainTimerExpiry ∧ yes = false ∧ s.sup.drainTimer.isSome = true)) →
    ∃ t, exec c s = .next t ∧
      t.sup = { s.sup with device := .run, lockoutCause := .unset, lockoutGate := none, drainTimer := none,
                           drainFulfilled := false } ∧
      (∀ g, (s.gate g).mode = .off →
        t.gate g = { s.gate g with rangeFlag := false, blockedNotice := false }) ∧
      (∀ g, (s.gate g).mode ≠ .off →
        t.gate g = { s.gate g with
          mode := .hold, motion := .idle, standing := s.gatePosition g, queue := [], context := none,
          trimHoist := none, closurePending := false, tideClosed := false, rangeFlag := false, moveTimer := none,
          stopTimer := none, save := { (s.gate g).save with occupied := false, resumed := false },
          blockedNotice := false }) ∧
      (∀ h, t.hoist h = { s.hoist h with
        slot := none, retry := false, exhausted := false, settleTimer := none,
        monitor := ⟨(s.hoist h).monitor.outcomes, ⟨false, false, false, false⟩⟩ }) ∧
      t.post.queue = [] ∧ t.forcedIndex = none ∧
      t.levels = { s.levels with up := { s.levels.up with updated := false, disagree := false }
                                 down := { s.levels.down with updated := false, disagree := false } } ∧
      t.pass = { s.pass with policedDrop := false } ∧
      t.monitor.up = ⟨s.monitor.up.outcomes, ⟨false, false, false, false⟩⟩ ∧
      t.monitor.down = ⟨s.monitor.down.outcomes, ⟨false, false, false, false⟩⟩ ∧
      t.monitor.head = ⟨s.monitor.head.outcomes, ⟨false, false, false, false⟩⟩ ∧
      t.store = s.store ∧ t.req.requestLost = false ∧
      t.ring.own = s.ring.own ∧ t.ring.commissioning = s.ring.commissioning ∧
      t.ring.checkErrors = s.ring.checkErrors ∧ t.ring.transitLosses = s.ring.transitLosses ∧
      (s.ring.out ≠ .idle ∨ s.ring.transit = [] → t.ring.consecutive = 0) ∧
      t.monitor.faultLine = t.faultDemanded ∧
      t.post.tagCounter =
        (if noticeDest s.store.control = 0#8 then s.post.tagCounter else nextTag s.post.tagCounter) ∧
      (s.NoticeRoom → t.req.noticeLost = false ∧
        let cutOff := if yes then 0 else s.cutOffGates
        let notice : OwnFrame := ⟨noticeDest s.store.control, kindNotice, nextTag s.post.tagCounter,
          [0x0700#16, if yes then 3#16 else 2#16, BitVec.ofNat 16 cutOff]⟩
        t.Placed (.notice notice) notice)

/-- A DRAIN_COMPLETION without fulfilled conditions, and a DRAIN_TIMER_EXPIRY of a timer that does not run, change
nothing: a drain completes once (R174; notes/assumptions/5.md and 7.md). -/
def Sys2Proof.Claim.NoDrainNothingToComplete : Prop :=
  ∀ s : State, s.Settled →
    (s.sup.device ≠ .drain ∨ s.sup.drainFulfilled = false → exec .drainCompletion s = .next s) ∧
    (s.sup.device ≠ .drain ∨ s.sup.drainTimer = none → exec .drainTimerExpiry s = .next s)

/-- DRAIN_COMPLETION and DRAIN_TIMER_EXPIRY: the completion of a drain, and nothing where there is none to complete. -/
def Obligations.DrainCompletesOnce : Prop :=
  Sys2Proof.Claim.DrainCompletionReinitialises ∧ Sys2Proof.Claim.NoDrainNothingToComplete

/-- SOFT_RESET, taken in RUN or LOCKOUT from an ENGINEER: DONE is replied first; then DRAIN, the LOCKOUT line negated,
the lockout cause and gate kept, every gate in MOVING or TRIM put into STOPPING, and the drain timer started unless
the completion conditions hold at the entry (R172 to R174; notes/assumptions/5.md). -/
def Obligations.SoftResetEntersDrain : Prop :=
  ∀ (f : Frame) (s : State), s.Executing .softReset f → s.classOf f.src = .engineer → s.sup.device ≠ .drain →
    ∃ t, exec .softReset s = .next t ∧ t.Replied f (refuse .done) ∧
      t.sup = { s.sup with device := .drain, lockoutLine := false, drainFulfilled := t.drained,
                           drainTimer := if t.drained then none else some ((s.store.control[13]).toNat * 1000) } ∧
      (∀ g, t.gate g =
        if (s.gate g).inFlight then
          { s.gate g with motion := .stopping, moveTimer := none, trimHoist := none,
                          stopTimer := some ((s.store.control[12]).toNat * 1000) }
        else s.gate g) ∧
      SameSurroundings s t

/-! ### Requests -/

/-- A request that any check refuses is answered with that refusal and changes nothing; one whose source has meanwhile
become of class NONE is discarded without a reply, and its reservation released (R180; notes/assumptions/3.md). -/
def Obligations.RefusedRequestChangesNothing : Prop :=
  ∀ (r : RequestName) (f : Frame) (s : State), s.req.executing = some f → requestName f = some r →
    .reserved ∈ s.req.report →
    (s.classOf f.src ≠ .unheard → (r.answer f s).result ≠ .done →
      ∃ t, exec r.command s = .next t ∧ OnlyTraffic s t ∧ t.Replied f (refuse (r.answer f s).result)) ∧
    (s.classOf f.src = .unheard → s.req.intake = [] →
      ∃ t, exec r.command s = .next t ∧ OnlyTraffic s t ∧ t.req.executing = none ∧
        (s.ring.out ≠ .idle → t.req.report = s.req.report.erase .reserved))

/-- The order of the refusals: MALFORMED, then ACCESS, then LOCKED in LOCKOUT and BUSY in DRAIN for every request that
R180 does not name there; what passes the three is given none of the first two, nor LOCKED (R171, R173, R180). That a READ-ROWS count of 0 or above 14 is MALFORMED before
ACCESS is the model's choice (notes/assumptions/26.md). -/
def Sys2Proof.Claim.RefusedInThisOrder : Prop :=
  ∀ (r : RequestName) (f : Frame) (s : State),
    (r.Malformed f → r.answer f s = refuse .malformed) ∧
    (¬r.Malformed f → ¬r.Permitted f s → r.answer f s = refuse .access) ∧
    (¬r.Malformed f → r.Permitted f s →
      (s.sup.device = .lockout → ¬r.TakenInLockout → r.answer f s = refuse .locked) ∧
      (s.sup.device = .drain → ¬r.TakenInDrain → r.answer f s = refuse .busy) ∧
      (s.sup.device = .run ∨ (s.sup.device = .lockout ∧ r.TakenInLockout) ∨
          (s.sup.device = .drain ∧ r.TakenInDrain) →
        (r.answer f s).result ≠ .malformed ∧ (r.answer f s).result ≠ .access ∧ (r.answer f s).result ≠ .locked))

/-- The class OBSERVER gives no order and clears, resumes, forces or resets nothing; OPERATOR neither forces nor resets,
and writes neither the Access Record nor the Station Class table (R178). -/
def Sys2Proof.Claim.RightsByClass : Prop :=
  ∀ (r : RequestName) (f : Frame) (s : State),
    (s.classOf f.src = .observer → r ≠ .readRows → r ≠ .readState →
      r.answer f s = refuse .malformed ∨ r.answer f s = refuse .access) ∧
    (s.classOf f.src = .operator → (r = .forceIndex ∨ r = .releaseIndex ∨ r = .softReset) →
      r.answer f s = refuse .malformed ∨ r.answer f s = refuse .access) ∧
    (s.classOf f.src = .operator → r = .writeRows →
      ∀ o, readWriteRows f = some o → (o.table = .access ∨ o.table = .stations) →
        r.answer f s = refuse .access)

/-- The class of a station and the rights of a class: the rows of the Station Class table and of the Access Record, by
group, and their codes (R177, R178, 11.4). -/
def Sys2Proof.Claim.RightsGranted : Prop :=
  ∀ (s : State) (a : Byte) (table : Table),
    let group := match table with
      | .pass => 0 | .hoistMap => 1 | .gate _ => 2 | .header _ => 3 | .rows _ => 3 | .thresholds => 4
      | .control => 5 | .access => 5 | .stations => 5
    let observer := rowAt s.store.access group
    let operator := rowAt s.store.access (6 + group)
    (1 ≤ a.toNat → a.toNat ≤ 254 →
      let row := rowAt s.store.stations (a.toNat - 1)
      (s.classOf a = .observer ↔ row = 1#16) ∧ (s.classOf a = .operator ↔ row = 2#16) ∧
      (s.classOf a = .engineer ↔ row = 3#16)) ∧
    (s.mayRead a table = true ↔
      s.classOf a = .engineer ∨ (s.classOf a = .operator ∧ (operator = 1#16 ∨ operator = 3#16)) ∨
      (s.classOf a = .observer ∧ observer = 1#16)) ∧
    (s.mayWrite a table = true ↔
      s.classOf a = .engineer ∨ (s.classOf a = .operator ∧ table ≠ .access ∧ table ≠ .stations ∧
        (operator = 2#16 ∨ operator = 3#16))) ∧
    (s.mayOrder a = true ↔ s.classOf a = .operator ∨ s.classOf a = .engineer)

/-- The request a frame names, by its kind and code (R180, 11.2). -/
def Sys2Proof.Claim.RequestNamedByCode : Prop :=
  ∀ (f : Frame) (r : RequestName), 1 ≤ f.payload.length →
    (f.kind = kindOrder → (requestName f = some r ↔ (field (f.word 0) 8 8, r) ∈
      [(1, RequestName.setMode), (2, .moveTo), (3, .moveBy), (4, .stop), (5, .cancel)])) ∧
    (f.kind = kindManage → (requestName f = some r ↔ (field (f.word 0) 12 4, r) ∈
      [(1, RequestName.writeRows), (2, .readRows), (3, .setLength), (4, .activate), (5, .readState), (6, .clearFlags),
        (7, .clearGate), (8, .resumeGate), (9, .forceIndex), (10, .releaseIndex), (11, .softReset)]))

/-- SET-MODE past the device state: BUSY, NOT-VALID or DONE, by the table of R89. -/
def Sys2Proof.Claim.SetModeChecked : Prop :=
  ∀ (f : Frame) (s : State) (g : GateNo) (m : Mode), 2 ≤ f.payload.length → orderGate f = g.val →
    (f.word 1).toNat = m.code → s.mayOrder f.src = true → s.sup.device = .run →
    let x := s.gate g
    let answer := RequestName.answer .setMode f s
    let stopped := x.motion = .stopping ∨ x.motion = .faultStopping ∨ x.motion = .faulted
    let admitted := recordValid (s.record g) = true ∧
      ∀ h, gateOf h = g → s.driveOf h ≠ 0#8 ∧ (s.hoist h).valid = true
    let scheduled := 2 ≤ scheduleLength (s.scheduleOf g)
    (stopped → answer = refuse .busy) ∧
    (¬stopped → m = .off → answer = refuse (if x.motion = .idle then .done else .busy)) ∧
    (¬stopped → m ≠ .off → ¬admitted → answer = refuse .notValid) ∧
    (¬stopped → m = .auto ∨ m = .flood → ¬scheduled → answer = refuse .notValid) ∧
    (¬stopped → m ≠ .off → admitted → (m = .auto ∨ m = .flood → scheduled) → answer = refuse .done)

/-- MOVE-TO and MOVE-BY past the device state: HELD, MODE, FULL, BUSY, RANGE or DONE, by the tables of R103 and R104. -/
def Sys2Proof.Claim.MoveChecked : Prop :=
  ∀ (f : Frame) (s : State) (g : GateNo) (form : Form), 2 ≤ f.payload.length → orderGate f = g.val →
    s.mayOrder f.src = true → s.sup.device = .run →
    let x := s.gate g
    let answer := RequestName.answer (if form = .absolute then .moveTo else .moveBy) f s
    let preempts := (f.word 2).getLsbD 15
    let ranged : Int → Answer := fun base =>
      let target : Int := if form = .absolute then (f.word 1).toNat else base + (f.word 1).toInt
      refuse (if lowerLimit (s.record g) ≤ target ∧ target ≤ upperLimit (s.record g) then .done else .range)
    (s.sup.holdLine = true → answer = refuse .held) ∧
    (s.sup.holdLine = false → x.mode ≠ .manual → answer = refuse .mode) ∧
    (s.sup.holdLine = false → x.mode = .manual →
      (preempts = false → answer = refuse (if x.queue.length < 4 then .done else .full)) ∧
      (preempts = true →
        (∀ c, x.inFlight = true → x.context = some c → answer = ranged c.target) ∧
        (x.motion = .idle → s.bothStill g = true → answer = ranged x.standing) ∧
        (x.motion = .idle → s.bothStill g = false → answer = refuse .busy) ∧
        (x.motion = .stopping ∨ x.motion = .faultStopping ∨ x.motion = .faulted → answer = refuse .busy)))

/-- CLEAR-GATE and RESUME-GATE past the device state: BUSY and NOT-FAULTED, or NOT-FAULTED, NOT-RECOVERABLE, STANDING and
RANGE in this order, and otherwise DONE (R166, R167). -/
def Sys2Proof.Claim.GateRequestsChecked : Prop :=
  ∀ (f : Frame) (s : State) (g : GateNo), field (f.word 0) 0 8 = g.val → s.mayOrder f.src = true →
    s.sup.device = .run →
    let x := s.gate g
    let answer := RequestName.answer .resumeGate f s
    let standing := s.sup.holdLine = true ∨ ∃ h, gateOf h = g ∧
      ((s.hoist h).monitor.outcomes.ha = true ∨ (s.hoist h).monitor.outcomes.la = true ∨ (s.hoist h).drive ≠ .still)
    let resumable := x.motion = .faulted ∧ x.save.resumed = false
    RequestName.answer .clearGate f s = refuse
      (if x.motion = .faulted then .done else if x.motion = .faultStopping then .busy else .notFaulted) ∧
    (¬resumable → answer = refuse .notFaulted) ∧
    (resumable → x.save.recoverable ≠ .yes → answer = refuse .notRecoverable) ∧
    (resumable → x.save.recoverable = .yes → standing → answer = refuse .standing) ∧
    (resumable → x.save.recoverable = .yes → ¬standing →
      answer = refuse (if lowerLimit (s.record g) ≤ x.save.target ∧ x.save.target ≤ upperLimit (s.record g)
        then .done else .range))

/-- SET-LENGTH, ACTIVATE and FORCE-INDEX past the device state: RANGE or NOT-VALID, and otherwise DONE; the requests with
no check of their own are answered DONE (R34, R60, R62, R68, R106, R107, R172, R183, R186). -/
def Sys2Proof.Claim.OtherRequestsChecked : Prop :=
  ∀ (f : Frame) (s : State),
    let id := field (f.word 0) 0 5
    (s.sup.device = .run → (∀ table, tableOfId id = some table → s.mayWrite f.src table = true) →
      let length := (f.word 1).toNat
      let setLength := RequestName.answer .setLength f s
      let activate := RequestName.answer .activate f s
      let rows := s.store.passPending.rows
      let valid := ∀ e, e < s.store.passPending.length →
        1 ≤ field (rowAt rows (3 * e + 1)) 0 8 ∧
        field (rowAt rows (3 * e + 1)) 0 8 ≤ field (rowAt rows (3 * e + 1)) 8 8 ∧ field (rowAt rows (3 * e)) 8 3 ≤ 3
      (2 ≤ f.payload.length → id = 4 → setLength = refuse (if length ≤ 32 then .done else .range)) ∧
      (2 ≤ f.payload.length → 16 ≤ id → id < 24 →
        setLength = refuse (if 2 ≤ length ∧ length ≤ 64 then .done else .range)) ∧
      (id = 4 → (valid → activate = refuse .done) ∧ (¬valid → activate = refuse .notValid)) ∧
      ∀ n : ScheduleNo, id = 16 + n.val ∨ id = 20 + n.val →
        activate = refuse (if 2 ≤ scheduleLength (s.schedule n).pending then .done else .notValid)) ∧
    (s.sup.device = .run → s.classOf f.src = .engineer → 2 ≤ f.payload.length →
      RequestName.answer .forceIndex f s = refuse (if (f.word 1).toNat ≤ 63 then .done else .range)) ∧
    ∀ r : RequestName, r ∈ [RequestName.stop, .cancel, .clearFlags, .releaseIndex, .softReset] →
      ¬r.Malformed f → r.Permitted f s →
      (s.sup.device = .run ∨ (s.sup.device = .lockout ∧ r.TakenInLockout)) → r.answer f s = refuse .done

/-- The exact answer of every request but the reads and WRITE-ROWS, which have statements of their own: what names it,
the order of the refusals, the rights of the classes, and each request's own checks. -/
def Obligations.RefusalsInOrder : Prop :=
  Sys2Proof.Claim.RequestNamedByCode ∧ Sys2Proof.Claim.RefusedInThisOrder ∧ Sys2Proof.Claim.RightsByClass ∧
  Sys2Proof.Claim.RightsGranted ∧ Sys2Proof.Claim.SetModeChecked ∧ Sys2Proof.Claim.MoveChecked ∧
  Sys2Proof.Claim.GateRequestsChecked ∧ Sys2Proof.Claim.OtherRequestsChecked

/-- SET_MODE to MANUAL, AUTO or FLOOD: the mode set, the queue kept as R93 to R95 say, a gate leaving OFF taking its
position as standing target; no other gate and no surroundings touched (R89, R93 to R96). -/
def Sys2Proof.Claim.ModeEntered : Prop :=
  ∀ (f : Frame) (s : State) (g : GateNo) (m : Mode), s.Executing .setMode f → readSetMode f = some (g, m) →
    s.mayOrder f.src = true → s.sup.device = .run → (m = .manual ∨ m = .auto ∨ m = .flood) →
    ((s.gate g).motion = .idle ∨ (s.gate g).inFlight = true) →
    recordValid (s.record g) = true → s.hoistsReady g = true →
    (m ≠ .manual → 2 ≤ scheduleLength (s.scheduleOf g)) →
    ∃ t, exec .setMode s = .next t ∧ t.Replied f (refuse .done) ∧ (t.gate g).mode = m ∧
      (∀ j, j ≠ g → t.gate j = s.gate j) ∧ t.sup = s.sup ∧ SameSurroundings s t ∧
      (m = .auto → t.gate g = { s.gate g with
        mode := .auto, queue := (s.gate g).queue.filter (fun e => e.origin = .auto)
        standing := if (s.gate g).mode = .off then s.gatePosition g else (s.gate g).standing }) ∧
      ((s.gate g).inFlight = true → (s.gate g).mode ≠ .off →
        (m = .manual → t.gate g = { s.gate g with
          mode := .manual, queue := (s.gate g).queue.filter (fun e => !e.automatic), closurePending := false,
          tideClosed := false }) ∧
        (m = .flood → t.gate g = { s.gate g with
          mode := .flood, queue := [⟨.flood, .absolute, upperLimit (s.record g), some .fast⟩] }))

/-- SET_MODE at an IDLE gate, one leaving OFF among them: in MANUAL the automatic entries and both closure flags gone; in
FLOOD both flags kept and the upper limit queued, unless the gate stands there; the gate then examined, so that a FLOOD
request is issued, completed within tolerance, or kept behind the tide-closed flag or a failed condition (R93, R95,
R96, R108, R110). -/
def Sys2Proof.Claim.IdleGateEntersMode : Prop :=
  ∀ (f : Frame) (s : State) (g : GateNo) (m : Mode), s.Executing .setMode f → readSetMode f = some (g, m) →
    s.mayOrder f.src = true → s.sup.device = .run → (s.gate g).motion = .idle →
    recordValid (s.record g) = true → s.hoistsReady g = true →
    (m ≠ .manual → 2 ≤ scheduleLength (s.scheduleOf g)) →
    let x := s.gate g
    let standing := if x.mode = .off then s.gatePosition g else x.standing
    let upper := upperLimit (s.record g)
    let manual := { x with mode := .manual, queue := x.queue.filter (fun e => !e.automatic), closurePending := false,
                           tideClosed := false, standing := standing }
    let flood := { x with mode := .flood, standing := standing }
    let waiting : Gate := { flood with queue := [⟨.flood, .absolute, upper, some .fast⟩] }
    ∃ t, exec .setMode s = .next t ∧ t.Replied f (refuse .done) ∧
      (m = .manual → t.gate g = (examine g (s.onGate g (fun _ => manual))).gate g ∧
        (s.HeldFromIssue g ∨ manual.queue = [] → t.gate g = manual)) ∧
      (m = .flood → standing = upper →
        t.gate g = (examine g (s.onGate g (fun _ => { flood with queue := [] }))).gate g ∧
        (x.closurePending = false → t.gate g = { flood with queue := [] })) ∧
      (m = .flood → standing ≠ upper →
        t.gate g = (examine g (s.onGate g (fun _ => waiting))).gate g ∧
        (s.HeldFromIssue g → t.gate g = waiting) ∧
        (x.closurePending = false → x.tideClosed = true → t.gate g = waiting) ∧
        (x.closurePending = false → x.tideClosed = false → ¬s.HeldFromIssue g →
          lowerLimit (s.record g) ≤ upper →
          (s.withinTolerance g upper = true → t.gate g = { waiting.completed upper .flood with queue := [] }) ∧
          (s.withinTolerance g upper = false →
            t.gate g = { waiting.started (s.contextFor g upper .fast .flood) (moveTimeLimit (s.record g)) with
                         queue := [] } ∧
            ∀ h, gateOf h = g → t.Posted h ⟨.move, upper, .fast⟩)))

/-- SET_MODE to MANUAL, AUTO and FLOOD, in motion and IDLE. -/
def Obligations.SetModeTaken : Prop :=
  Sys2Proof.Claim.ModeEntered ∧ Sys2Proof.Claim.IdleGateEntersMode

/-- SET_MODE to OFF, taken from IDLE: the queue emptied, the closure flags cleared, both slots emptied and both refresh
timers stopped (R89, R91, R141). -/
def Obligations.SetModeOffReleasesGate : Prop :=
  ∀ (f : Frame) (s : State) (g : GateNo), s.Executing .setMode f → readSetMode f = some (g, .off) →
    s.mayOrder f.src = true → s.sup.device = .run → (s.gate g).motion = .idle →
    ∃ t, exec .setMode s = .next t ∧ t.Replied f (refuse .done) ∧
      t.gate g = { s.gate g with mode := .off, queue := [], closurePending := false, tideClosed := false } ∧
      (∀ j, j ≠ g → t.gate j = s.gate j) ∧ t.sup = s.sup ∧ SameSurroundings s t ∧
      (∀ h, gateOf h = g → t.hoist h = { s.hoist h with slot := none, refreshTimer := none } ∧ h ∉ t.post.queue) ∧
      ∀ h, gateOf h ≠ g → (t.hoist h).exceptPhase = (s.hoist h).exceptPhase

/-- SET_MODE to HOLD: a gate in MOVING or TRIM goes to STOPPING, an IDLE one takes its position as standing target, and
STOP is posted to both hoists in either case (R92). -/
def Obligations.SetModeHoldStopsGate : Prop :=
  ∀ (f : Frame) (s : State) (g : GateNo), s.Executing .setMode f → readSetMode f = some (g, .hold) →
    s.mayOrder f.src = true → s.sup.device = .run → recordValid (s.record g) = true → s.hoistsReady g = true →
    ((s.gate g).motion = .idle ∨ ((s.gate g).inFlight = true ∧ (s.gate g).mode ≠ .off)) →
    ∃ t, exec .setMode s = .next t ∧ t.Replied f (refuse .done) ∧
      t.gate g =
        (let x := { s.gate g with mode := .hold, queue := [], closurePending := false, tideClosed := false }
         if (s.gate g).inFlight then
           { x with motion := .stopping, moveTimer := none, trimHoist := none,
                    stopTimer := some ((s.store.control[12]).toNat * 1000) }
         else { x with standing := s.gatePosition g }) ∧
      (∀ j, j ≠ g → t.gate j = s.gate j) ∧ t.sup = s.sup ∧ SameSurroundings s t ∧
      (∀ h, gateOf h = g → t.Posted h (stopSetpoint (s.hoist h))) ∧
      ∀ h, gateOf h ≠ g → (t.hoist h).exceptPhase = (s.hoist h).exceptPhase

/-- MOVE_TO and MOVE_BY without PREEMPT on a gate that cannot issue now join the tail of the queue, with their form,
value and speed class and the originator's address and tag; nothing else changes (R99, R100, R103). -/
def Obligations.MoveOrderQueued : Prop :=
  ∀ (form : Form) (f : Frame) (s : State) (o : MoveOrder),
    s.Executing (if form = .absolute then .moveTo else .moveBy) f → readMove form f = some o → o.preempt = false →
    s.mayOrder f.src = true → s.sup.device = .run → s.sup.holdLine = false → (s.gate o.gate).mode = .manual →
    (s.gate o.gate).queue.length < 4 → ((s.gate o.gate).motion ≠ .idle ∨ s.bothStill o.gate = false) →
    ∃ t, exec (if form = .absolute then .moveTo else .moveBy) s = .next t ∧ t.Replied f (refuse .done) ∧
      OnlyTraffic (s.onGate o.gate (fun x =>
        { x with queue := x.queue ++ [⟨.order f.src f.tag, form, o.value, o.speed⟩] })) t

/-- MOVE_TO and MOVE_BY on an IDLE gate in MANUAL with both drives STILL and nothing queued start the move at once,
with PREEMPT or without: the target, formed from the value or from the standing target, and the speed class, 0 being
the gate's default, captured; MOVE posted to both hoists; the move timer and both settle timers started (R103, R104,
R108 to R110). -/
def Sys2Proof.Claim.MoveOrderIssued : Prop :=
  ∀ (form : Form) (f : Frame) (s : State) (o : MoveOrder),
    s.Executing (if form = .absolute then .moveTo else .moveBy) f → readMove form f = some o →
    s.mayOrder f.src = true → s.sup.device = .run → s.sup.holdLine = false → (s.gate o.gate).mode = .manual →
    (s.gate o.gate).motion = .idle → (s.gate o.gate).queue = [] → (s.gate o.gate).closurePending = false →
    s.bothStill o.gate = true →
    let target := if form = .absolute then o.value else (s.gate o.gate).standing + o.value
    let speed := o.speed.getD (defaultSpeed (s.record o.gate))
    s.inWindow o.gate target = true → s.withinTolerance o.gate target = false →
    ∃ t, exec (if form = .absolute then .moveTo else .moveBy) s = .next t ∧ t.Replied f (refuse .done) ∧
      t.gate o.gate = { s.gate o.gate with
        motion := .moving, trimHoist := none, moveTimer := some (moveTimeLimit (s.record o.gate)),
        context := some ⟨target, speed, .order f.src f.tag, decide (s.gatePosition o.gate < target)⟩ } ∧
      (∀ j, j ≠ o.gate → t.gate j = s.gate j) ∧ t.sup = s.sup ∧ SameSurroundings s t ∧
      (∀ h, gateOf h = o.gate → t.Posted h ⟨.move, target, speed⟩ ∧
        (t.hoist h).settleTimer =
          (if s.store.thresholds[18] = 0#16 then none else some (s.store.thresholds[18]).toNat)) ∧
      ∀ h, gateOf h ≠ o.gate → (t.hoist h).exceptPhase = (s.hoist h).exceptPhase

/-- MOVE_TO and MOVE_BY on the same gate that start no move: a target within the arrival tolerance completes at once,
the target the standing target, with ARRIVED to the originator; one outside the travel window is, without PREEMPT, taken
and discarded at issue with the range flag set and RANGE to the originator, and with PREEMPT refused. No setpoint is
posted (R104, R108, R110, R113, R122). -/
def Sys2Proof.Claim.MoveOrderEndsAtIssue : Prop :=
  ∀ (form : Form) (f : Frame) (s : State) (o : MoveOrder),
    s.Executing (if form = .absolute then .moveTo else .moveBy) f → readMove form f = some o →
    s.mayOrder f.src = true → s.sup.device = .run → s.sup.holdLine = false → (s.gate o.gate).mode = .manual →
    (s.gate o.gate).motion = .idle → (s.gate o.gate).queue = [] → (s.gate o.gate).closurePending = false →
    s.bothStill o.gate = true →
    let x := s.gate o.gate
    let target := if form = .absolute then o.value else x.standing + o.value
    let lower := lowerLimit (s.record o.gate)
    let upper := upperLimit (s.record o.gate)
    let notice : List Word → OwnFrame := fun ws => ⟨f.src, kindNotice, nextTag s.post.tagCounter, ws⟩
    ∃ t, exec (if form = .absolute then .moveTo else .moveBy) s = .next t ∧
      (s.inWindow o.gate target = true → s.withinTolerance o.gate target = true →
        t.Replied f (refuse .done) ∧ t.gate o.gate = x.completed target (.order f.src f.tag) ∧
        (s.NoticeRoom →
          let n := notice [pack [(1, 8), (o.gate.val, 0)], word target, pack [(f.tag.toNat, 0)]]
          t.Placed (.notice n) n)) ∧
      (s.inWindow o.gate target = false → o.preempt = false →
        t.Replied f (refuse .done) ∧ t.gate o.gate = { x with rangeFlag := true } ∧
        (s.NoticeRoom →
          let n := notice [pack [(8, 8), (o.gate.val, 0)], word (max (-32768) (min 32767 target)),
            pack [(f.tag.toNat, 0)], word lower, word upper]
          t.Placed (.notice n) n)) ∧
      (s.inWindow o.gate target = false → o.preempt = true → t.Replied f (refuse .range) ∧ OnlyTraffic s t) ∧
      ((s.inWindow o.gate target = true → s.withinTolerance o.gate target = true) →
        (∀ j, j ≠ o.gate → t.gate j = s.gate j) ∧ t.sup = s.sup ∧ SameSurroundings s t ∧
        ∀ h, (t.hoist h).exceptPhase = (s.hoist h).exceptPhase)

/-- MOVE_TO and MOVE_BY on a gate that may issue: the move started, completed at once, or discarded. -/
def Obligations.MoveOrderStartsMove : Prop :=
  Sys2Proof.Claim.MoveOrderIssued ∧ Sys2Proof.Claim.MoveOrderEndsAtIssue

/-- A preempting MOVE_TO or MOVE_BY on a gate in MOVING or TRIM retargets the move in flight: the context replaced, the
queue untouched, MOVE posted to both hoists, the move timer restarted (R104, R105). -/
def Obligations.PreemptingMoveRetargets : Prop :=
  ∀ (form : Form) (f : Frame) (s : State) (o : MoveOrder) (c : MoveContext),
    s.Executing (if form = .absolute then .moveTo else .moveBy) f → readMove form f = some o → o.preempt = true →
    s.mayOrder f.src = true → s.sup.device = .run → s.sup.holdLine = false → (s.gate o.gate).mode = .manual →
    (s.gate o.gate).inFlight = true → (s.gate o.gate).context = some c →
    let target := if form = .absolute then o.value else c.target + o.value
    let speed := o.speed.getD (defaultSpeed (s.record o.gate))
    s.inWindow o.gate target = true →
    ∃ t, exec (if form = .absolute then .moveTo else .moveBy) s = .next t ∧ t.Replied f (refuse .done) ∧
      t.gate o.gate = { s.gate o.gate with
        motion := .moving, trimHoist := none, moveTimer := some (moveTimeLimit (s.record o.gate)),
        context := some ⟨target, speed, .order f.src f.tag, decide (s.gatePosition o.gate < target)⟩ } ∧
      (∀ j, j ≠ o.gate → t.gate j = s.gate j) ∧ t.sup = s.sup ∧ SameSurroundings s t ∧
      ∀ h, gateOf h = o.gate → t.Posted h ⟨.move, target, speed⟩

/-- STOP, taken in RUN whatever the HOLD line and the mode, for one gate or, naming 15, for all eight: the queue of each
named gate emptied, a gate in MOVING or TRIM put into STOPPING, STOP posted to both hoists of such a gate and of an
IDLE one outside OFF, no flag touched, no other gate changed (R102, R106). -/
def Obligations.StopOrderStopsGates : Prop :=
  ∀ (f : Frame) (s : State) (named : GateNo → Prop), s.Executing .stop f → s.mayOrder f.src = true →
    s.sup.device = .run →
    ((orderGate f = 15 ∧ ∀ g, named g) ∨ (orderGate f < 8 ∧ ∀ g, named g ↔ g.val = orderGate f)) →
    ∃ t, exec .stop s = .next t ∧ t.Replied f (refuse .done) ∧
      (∀ g, named g → t.gate g =
        if (s.gate g).inFlight then
          { s.gate g with queue := [], motion := .stopping, moveTimer := none, trimHoist := none,
                          stopTimer := some ((s.store.control[12]).toNat * 1000) }
        else { s.gate g with queue := [] }) ∧
      (∀ g, ¬named g → t.gate g = s.gate g) ∧ t.sup = s.sup ∧ SameSurroundings s t ∧
      (∀ h, named (gateOf h) → ((s.gate (gateOf h)).inFlight = true ∨
          ((s.gate (gateOf h)).motion = .idle ∧ (s.gate (gateOf h)).mode ≠ .off)) →
        t.Posted h (stopSetpoint (s.hoist h))) ∧
      ∀ h, ¬named (gateOf h) → (t.hoist h).exceptPhase = (s.hoist h).exceptPhase

/-- CANCEL, taken in RUN in any mode and any motion state, empties the gate's queue and changes nothing else: a move or
a stop in progress continues, no setpoint is posted, no flag is touched (R107). -/
def Obligations.CancelEmptiesQueue : Prop :=
  ∀ (f : Frame) (s : State) (g : GateNo), s.Executing .cancel f → orderGate f = g.val → s.mayOrder f.src = true →
    s.sup.device = .run →
    ∃ t, exec .cancel s = .next t ∧ t.Replied f (refuse .done) ∧
      OnlyTraffic (s.onGate g (fun x => { x with queue := [] })) t

/-- A write's rows read back: each row written holds its value and every other row its old contents (R182). -/
def Sys2Proof.Claim.WrittenRowsReadBack : Prop :=
  ∀ (n : Nat) (v : Vector Word n) (start : Nat) (values : List Word) (r : Nat), r < n →
    rowAt (storeRows v start values) r =
      if start ≤ r ∧ r < start + values.length then values.getD (r - start) 0#16 else rowAt v r

/-- Which writes are taken, by the table written: RANGE past the table's last row that may be written, then BUSY where a
gate's state bars the write, then RANGE for a value or a resulting record out of its range, and otherwise DONE; a refused
write stores nothing (R58, R59, R82, R83, R85, R86, R143, R177, R178, R182, R184; for a class code,
notes/assumptions/18.md). -/
def Sys2Proof.Claim.WriteDecidedByTable : Prop :=
  ∀ (f : Frame) (s : State) (o : WriteRows), s.Executing .writeRows f → readWriteRows f = some o →
    s.mayWrite f.src o.table = true → s.sup.device = .run →
    let fits := o.start + o.values.length ≤ o.limit
    ∃ t, exec .writeRows s = .next t ∧
      (¬fits → t.Replied f (refuse .range) ∧ OnlyTraffic s t) ∧
      (fits → s.WriteBarred o → t.Replied f (refuse .busy) ∧ OnlyTraffic s t) ∧
      (fits → ¬s.WriteBarred o → ¬s.ValuesTaken o → t.Replied f (refuse .range) ∧ OnlyTraffic s t) ∧
      (fits → ¬s.WriteBarred o → s.ValuesTaken o → t.Replied f (refuse .done))

/-- WRITE_ROWS that passes its checks, for every table but the Control Record and the Hoist Map: the rows of the one
image, or of the pending image of a table that has two, take the values; a gate record becomes VALID and its write
count increments, as the Access Record's counts do for its own table and for the Station Class table; no other table,
gate, hoist or level changes (R57 to R59, R82, R143, R177, R178, R182). -/
def Sys2Proof.Claim.TakenWriteStoresRows : Prop :=
  ∀ (f : Frame) (s : State) (o : WriteRows), s.Executing .writeRows f → readWriteRows f = some o →
    s.mayWrite f.src o.table = true → s.sup.device = .run → writeCheck o s = .done →
    o.table ≠ .control → o.table ≠ .hoistMap →
    let count := fun (w : Word) => if w = 65535#16 then w else w + 1
    let store := match o.table with
      | .access =>
        let a := storeRows s.store.access o.start o.values
        { s.store with access := a.set 12 (count a[12]) }
      | .stations =>
        { s.store with stations := storeRows s.store.stations o.start o.values
                       access := s.store.access.set 13 (count s.store.access[13]) }
      | .pass =>
        { s.store with
          passPending := ⟨s.store.passPending.length, storeRows s.store.passPending.rows o.start o.values⟩ }
      | .thresholds => { s.store with thresholds := storeRows s.store.thresholds o.start o.values }
      | .gate g =>
        let r := storeRows (s.record g) o.start o.values
        { s.store with gateRecords := s.store.gateRecords.set g.val ((r.set 10 1#16).set 11 (count r[11])) }
      | .header n =>
        let k := s.schedule n
        { s.store with schedules := (s.store.schedules.set n.val
            ⟨⟨storeRows k.pending.header o.start o.values, k.pending.rows⟩, k.active⟩) }
      | .rows n =>
        let k := s.schedule n
        { s.store with schedules := (s.store.schedules.set n.val
            ⟨⟨k.pending.header, storeRows k.pending.rows o.start o.values⟩, k.active⟩) }
      | _ => s.store
    ∃ t, exec .writeRows s = .next t ∧ t.Replied f (refuse .done) ∧ OnlyTraffic { s with store := store } t

/-- WRITE_ROWS: which writes are taken, and the rows that a taken one stores. -/
def Obligations.WriteRowsStoresRows : Prop :=
  Sys2Proof.Claim.WriteDecidedByTable ∧ Sys2Proof.Claim.TakenWriteStoresRows

/-- WRITE_ROWS to the Control Record changes the record at once, returns every channel whose binding it changes to
NO-DATA and recomputes its side; to the Hoist Map it makes the record of every hoist whose address it changes invalid
and clears its last-posted setpoint (R53, R86, R182, R184; notes/assumptions/14.md and 15.md). -/
def Obligations.WriteRowsRebinds : Prop :=
  ∀ (f : Frame) (s : State) (o : WriteRows), s.Executing .writeRows f → readWriteRows f = some o →
    s.mayWrite f.src o.table = true → s.sup.device = .run → writeCheck o s = .done →
    (o.table = .control →
      let after := storeRows s.store.control o.start o.values
      ∃ t, exec .writeRows s = .next t ∧ t.Replied f (refuse .done) ∧
        t.store = { s.store with control := after } ∧ t.gates = s.gates ∧ t.sup = s.sup ∧
        t.monitor.faultLine = t.faultDemanded ∧
        (∀ c, t.levels.channel c =
          if binding after c = binding s.store.control c then s.levels.channel c
          else ⟨.noData, 0, false, false, none⟩) ∧
        (∀ n, t.levels.side n = { s.levels.side n with state := (t.levels.side n).state } ∧
          ((∃ c, sideOf c = n ∧ binding after c ≠ binding s.store.control c) →
            (t.levels.side n).state = t.levels.sideState n)) ∧
        t.levels.head = s.levels.head) ∧
    (o.table = .hoistMap →
      let after := storeRows s.store.hoistMap o.start o.values
      ∃ t, exec .writeRows s = .next t ∧ t.Replied f (refuse .done) ∧
        t.store = { s.store with hoistMap := after } ∧ t.gates = s.gates ∧ t.levels = s.levels ∧ t.sup = s.sup ∧
        ∀ h, (t.hoist h).exceptPhase = (if t.driveOf h = s.driveOf h then s.hoist h
          else { s.hoist h with valid := false, lastPosted := none }).exceptPhase)

/-- Which writes of a gate record are refused, in the order of R83: rows 10 and 11 with RANGE, then a gate that is moving
or stopping outside OFF with BUSY, then a resulting record out of range with RANGE (R81 to R83). -/
def Obligations.GateRecordWriteChecked : Prop :=
  ∀ (o : WriteRows) (g : GateNo) (s : State), o.table = .gate g → 0 < o.values.length →
    (writeCheck o s = .done ↔
      o.start + o.values.length ≤ 10 ∧
      ((s.gate g).mode = .off ∨ (s.gate g).motion = .idle ∨ (s.gate g).motion = .faulted) ∧
      recordInRange (storeRows (s.record g) o.start o.values) = true) ∧
    (10 < o.start + o.values.length → writeCheck o s = .range) ∧
    (o.start + o.values.length ≤ 10 → (s.gate g).mode ≠ .off →
      ((s.gate g).inFlight = true ∨ (s.gate g).motion = .stopping ∨ (s.gate g).motion = .faultStopping) →
      writeCheck o s = .busy) ∧
    (o.start + o.values.length ≤ 10 →
      ((s.gate g).mode = .off ∨ (s.gate g).motion = .idle ∨ (s.gate g).motion = .faulted) →
      recordInRange (storeRows (s.record g) o.start o.values) = false → writeCheck o s = .range)

/-- READ_ROWS answers the rows in order: of the one image of a table, or, for the Pass Table and the schedules, of the
active image, and of the pending image under the image flag; with BEYOND when one lies at or beyond the length of the
image read, or RANGE when the run passes the table's capacity; and changes nothing (R61, R181, 10.3, 11.2). -/
def Sys2Proof.Claim.ReadRowsAnswersRows : Prop :=
  ∀ (f : Frame) (s : State) (o : ReadRows), s.Executing .readRows f → readReadRows f = some o →
    s.mayRead f.src o.table = true →
    let flagged := (f.word 1).getLsbD 15
    let count := field (f.word 1) 0 4
    let pass := if flagged then s.store.passPending else s.store.passActive
    let schedule := fun (n : ScheduleNo) => if flagged then (s.schedule n).pending else (s.schedule n).active
    let capacity := match o.table with
      | .control => 16 | .access => 14 | .stations => 254 | .hoistMap => 16 | .pass => 96 | .thresholds => 19
      | .gate _ => 12 | .header _ => 6 | .rows _ => 64
    let length := match o.table with
      | .pass => 3 * pass.length
      | .rows n => ((schedule n).header[0]).toNat
      | _ => capacity
    let row := fun (r : Nat) => match o.table with
      | .control => rowAt s.store.control r
      | .access => rowAt s.store.access r
      | .stations => rowAt s.store.stations r
      | .hoistMap => rowAt s.store.hoistMap r
      | .pass => rowAt pass.rows r
      | .thresholds => rowAt s.store.thresholds r
      | .gate g => rowAt (s.record g) r
      | .header n => rowAt (schedule n).header r
      | .rows n => rowAt (schedule n).rows r
    tableOfAddress (field (f.word 0) 0 12) = some (o.table, o.start) ∧
    ∃ t a, exec .readRows s = .next t ∧ t.Replied f a ∧ OnlyTraffic s t ∧
      (capacity < o.start + count → a = refuse .range) ∧
      (o.start + count ≤ capacity →
        a.result = .done ∧ a.data.length = count ∧
        (a.beyond = true ↔ length < o.start + count) ∧
        ∀ k, k < count → a.data[k]? = some (row (o.start + k)))

/-- READ_STATE answers its section as one reading, in the words 11.3 lays out, and changes nothing (R185). The report
count of the device section is notes/assumptions/9.md. -/
def Sys2Proof.Claim.ReadStateAnswersSection : Prop :=
  ∀ (f : Frame) (s : State) (k : StateSection), s.Executing .readState f → readReadState f = some k →
    ∃ t a, exec .readState s = .next t ∧ t.Replied f a ∧ OnlyTraffic s t ∧ a = sectionAnswer k s ∧
      (k = .device → a.data.length = 7) ∧ (∀ g, k = .gate g → a.data.length = 14) ∧
      (∀ g, k = .saveRecord g → a.data.length = 6 ∧ a.data[2]? = some (word (s.gate g).save.target) ∧
        a.data[3]? = some (word (s.gate g).save.left) ∧ a.data[4]? = some (word (s.gate g).save.right)) ∧
      (k = .levels → a.data.length = 9 ∧ a.data[6]? = some (word s.levels.up.level) ∧
        a.data[7]? = some (word s.levels.down.level) ∧ a.data[8]? = some (word s.levels.head)) ∧
      (∀ c, k = .threshold c → a.data.length = if c = .load then 14 else 5) ∧
      (∀ e, k = .pass e → if 32 ≤ e then a = refuse .range else a.data.length = min 14 (32 - e))

/-- The device section word by word (11.3). The forced value is fixed while the index is FORCED (notes/assumptions/9.md
and 23.md). -/
def Sys2Proof.Claim.DeviceSectionWords : Prop :=
  ∀ s : State, s.capacityRule → (∀ v, s.forcedIndex = some v → v ≤ 63) →
    let w := fun (i : Nat) => (sectionAnswer .device s).data.getD i 0#16
    field (w 0) 14 2 = s.sup.device.code ∧ field (w 0) 12 2 = s.sup.lockoutCause.code ∧
    field (w 0) 8 4 = (match s.sup.lockoutGate with | some g => g.val | none => 15) ∧
    (w 0).getLsbD 7 = s.sup.holdLine ∧ (w 0).getLsbD 6 = s.monitor.faultLine ∧
    (w 0).getLsbD 5 = s.forcedIndex.isSome ∧ (w 0).getLsbD 4 = s.req.requestLost ∧
    (w 0).getLsbD 3 = s.req.noticeLost ∧ (w 0).getLsbD 2 = s.pass.policedDrop ∧
    (w 0).getLsbD 1 = decide (s.levels.up.state = .stale) ∧ (w 0).getLsbD 0 = decide (s.levels.down.state = .stale) ∧
    field (w 1) 14 2 = 0 ∧ (∀ v, s.forcedIndex = some v → field (w 1) 8 6 = v) ∧
    field (w 1) 5 3 = s.req.intake.length ∧ field (w 1) 0 5 = reportCount s.req.report ∧
    field (w 2) 12 4 = 0 ∧ field (w 2) 8 4 = noticeCount s.req.report ∧ field (w 2) 0 8 = s.post.tagCounter.toNat ∧
    w 3 = s.store.control[14] ∧ w 4 = s.store.control[15] ∧ (w 5).toNat = s.ring.checkErrors ∧
    (w 6).toNat = s.ring.transitLosses

/-- The gate section word by word (11.3). Direction, in-flight target, head fields, slot tag and tries are fixed where
there is a move, an entry, a slot (notes/assumptions/23.md). -/
def Sys2Proof.Claim.GateSectionWords : Prop :=
  ∀ (g : GateNo) (s : State), (s.gate g).queue.length ≤ 4 →
    (∀ h, (∀ sl, (s.hoist h).slot = some sl → sl.tries ≤ 255) ∧
      ∀ sp, (s.hoist h).lastPosted = some sp → 0 ≤ sp.target ∧ sp.target < 16384) →
    let x := s.gate g
    let inMove := x.inFlight = true ∨ x.motion = .stopping
    let w := fun (i : Nat) => (sectionAnswer (.gate g) s).data.getD i 0#16
    field (w 0) 13 3 = x.mode.code ∧ field (w 0) 10 3 = x.motion.code ∧ (w 0).getLsbD 8 = x.closurePending ∧
    (w 0).getLsbD 7 = x.tideClosed ∧ (w 0).getLsbD 6 = x.rangeFlag ∧ field (w 0) 3 3 = x.queue.length ∧
    field (w 0) 0 2 = 0 ∧ (w 0).getLsbD 2 = decide (inMove ∧ x.context.isSome = true) ∧
    (∀ c, inMove → x.context = some c → (w 0).getLsbD 9 = c.up ∧ w 2 = word c.target) ∧
    w 1 = word x.standing ∧
    (∀ e rest, x.queue = e :: rest → field (w 7) 8 3 = e.origin.code ∧
      (w 7).getLsbD 7 = decide (e.form = .relative) ∧ field (w 7) 5 2 = (e.speed.map Speed.code).getD 0 ∧
      w 8 = word e.value) ∧
    (w 7).getLsbD 11 = false ∧ field (w 7) 0 5 = 0 ∧
    ∀ p ∈ [(leftHoist g, 0), (rightHoist g, 1)],
      let y := s.hoist p.1
      let byte := field (w 11) (8 - 8 * p.2) 8
      w (3 + p.2) = word y.position ∧ w (5 + p.2) = word y.load ∧ field (w 7) (14 - 2 * p.2) 2 = y.drive.code ∧
      (∀ sl, y.slot = some sl →
        field (w (9 + p.2)) 8 8 = sl.tag.toNat ∧ field (w (9 + p.2)) 0 8 = sl.tries ∧
        byte / 64 = (match sl.phase with | .waiting => 1 | .sending => 2 | .sent => 3) ∧
        byte / 16 % 4 = sl.setpoint.command.code) ∧
      (y.slot = none → byte / 16 = 0) ∧
      byte % 16 = flag y.retry * 8 + flag y.exhausted * 4 + flag y.settleTimer.isSome * 2 + flag y.valid ∧
      (y.lastPosted = none → w (12 + p.2) = 0x8000#16) ∧
      ∀ sp, y.lastPosted = some sp → (w (12 + p.2)).getLsbD 15 = false ∧
        (w (12 + p.2)).getLsbD 14 = decide (sp.command = .stop) ∧
        (field (w (12 + p.2)) 0 14 : Int) = sp.target

/-- The save record section and the levels section word by word (11.3). Originator and tag are fixed where the saved
origin is ORDER (notes/assumptions/23.md). -/
def Sys2Proof.Claim.SaveAndLevelSectionWords : Prop :=
  (∀ (g : GateNo) (s : State),
    let r := (s.gate g).save
    let w := fun (i : Nat) => (sectionAnswer (.saveRecord g) s).data.getD i 0#16
    (w 0).getLsbD 15 = r.occupied ∧ (w 0).getLsbD 14 = r.resumed ∧ field (w 0) 11 3 = r.firstCause.code ∧
    field (w 0) 8 3 = r.stateAtFault.code ∧ field (w 0) 6 2 = r.recoverable.code ∧ field (w 0) 4 2 = r.speed.code ∧
    (w 0).getLsbD 3 = false ∧ field (w 0) 0 3 = r.origin.code ∧ (w 1).toNat = r.causes.toNat ∧
    w 2 = word r.target ∧ w 3 = word r.left ∧ w 4 = word r.right ∧
    ∀ src tag, r.origin = .order src tag → field (w 5) 8 8 = src.toNat ∧ field (w 5) 0 8 = tag.toNat) ∧
  ∀ s : State,
    let w := fun (i : Nat) => (sectionAnswer .levels s).data.getD i 0#16
    (∀ p ∈ [(ChannelName.u1, 0), (.u2, 1), (.d1, 2), (.d2, 3)],
      let c := s.levels.channel p.1
      field (w 0) (14 - 4 * p.2) 2 = c.state.code ∧ (w 0).getLsbD (13 - 4 * p.2) = c.coarse ∧
      (w 0).getLsbD (12 - 4 * p.2) = c.clamped ∧ w (1 + p.2) = word c.value) ∧
    (∀ p ∈ [(s.levels.up, 0), (s.levels.down, 1)],
      field (w 5) (6 - 4 * p.2) 2 = p.1.state.code ∧ (w 5).getLsbD (5 - 4 * p.2) = p.1.disagree ∧
      (w 5).getLsbD (4 - 4 * p.2) = p.1.updated ∧ w (6 + p.2) = word p.1.level) ∧
    field (w 5) 8 8 = 0 ∧ w 8 = word s.levels.head

/-- The threshold and pass sections word by word, with the section field of the reply's word 0 (R26, R185, 11.3). -/
def Sys2Proof.Claim.ThresholdAndPassSectionWords : Prop :=
  (∀ (c : ThresholdClass) (s : State),
    let a := sectionAnswer (.threshold c) s
    let w := fun (i : Nat) => a.data.getD i 0#16
    let bits := fun (q : Quad) => flag q.ha * 8 + flag q.hw * 4 + flag q.lw * 2 + flag q.la
    let shows := fun (v : Word) (lo : Nat) (q : Quantity) =>
      field v (lo + 4) 4 = bits q.flags ∧ field v lo 4 = bits q.outcomes
    let head := a.payload.getD 0 0#16
    field head 0 8 = 0 ∧ field head 10 6 = 0 ∧ head.getLsbD 9 = alarmLatched s.store.thresholds c ∧
    head.getLsbD 8 = warningLatched s.store.thresholds c ∧
    (∀ k, k < 4 → (w k).toInt = threshold s.store.thresholds c k) ∧
    (c = .levelU → shows (w 4) 8 s.monitor.up ∧ field (w 4) 0 8 = 0) ∧
    (c = .levelD → shows (w 4) 8 s.monitor.down ∧ field (w 4) 0 8 = 0) ∧
    (c = .head → shows (w 4) 8 s.monitor.head ∧ field (w 4) 0 8 = 0) ∧
    (c = .load →
      (∀ g : GateNo, shows (w (4 + g.val)) 8 (s.hoist (leftHoist g)).monitor ∧
        shows (w (4 + g.val)) 0 (s.hoist (rightHoist g)).monitor) ∧
      (w 12).toNat = settleInterval s.store.thresholds ∧
      ∀ h : HoistNo, (w 13).getLsbD h.val = (s.hoist h).settleTimer.isSome)) ∧
  ∀ (start : Nat) (s : State), s.capacityRule → start < 32 → s.store.passActive.length ≤ 32 →
    let a := sectionAnswer (.pass start) s
    let head := a.payload.getD 0 0#16
    field head 0 8 = 0 ∧ field head 8 6 = s.store.passActive.length ∧ head.getLsbD 14 = s.pass.policedDrop ∧
    head.getLsbD 15 = decide (s.store.passActive.length < min 32 (start + 14)) ∧
    ∀ k, k < 14 → start + k < 32 → ∃ w, a.data[k]? = some w ∧
      w.toNat = if start + k < s.store.passActive.length then s.pass.hits.getD (start + k) 0 else 0

/-- READ_ROWS and READ_STATE, and the words of the sections. -/
def Obligations.ReadsAnswerAndChangeNothing : Prop :=
  Sys2Proof.Claim.ReadRowsAnswersRows ∧ Sys2Proof.Claim.ReadStateAnswersSection ∧
  Sys2Proof.Claim.DeviceSectionWords ∧ Sys2Proof.Claim.GateSectionWords ∧
  Sys2Proof.Claim.SaveAndLevelSectionWords ∧ Sys2Proof.Claim.ThresholdAndPassSectionWords

/-- SET_LENGTH within range replaces the pending length and changes nothing else (R60, R183). -/
def Sys2Proof.Claim.SetLengthSetsPending : Prop :=
  ∀ (f : Frame) (s : State) (table : Table) (image : ImageName) (n : Nat), s.Executing .setLength f →
    readSetLength f = some (table, image, n) → s.mayWrite f.src table = true → s.sup.device = .run →
    (image = .pass → n ≤ 32 →
      ∃ t, exec .setLength s = .next t ∧ t.Replied f (refuse .done) ∧
        OnlyTraffic { s with store := { s.store with passPending := { s.store.passPending with length := n } } } t) ∧
    (∀ k, image = .schedule k → 2 ≤ n → n ≤ 64 →
      ∃ t, exec .setLength s = .next t ∧ t.Replied f (refuse .done) ∧
        OnlyTraffic { s with store := { s.store with schedules := (s.store.schedules.set k.val
          ⟨⟨(s.schedule k).pending.header.set 0 (BitVec.ofNat 16 n), (s.schedule k).pending.rows⟩,
            (s.schedule k).active⟩) } } t)

/-- ACTIVATE of a Pass Table whose pending entries are all valid copies its length and entries and sets every hit count
to 0; of a schedule of length 2 or more it copies header and rows; the pending image is kept and nothing else
changes (R34, R62, R183). -/
def Sys2Proof.Claim.ActivateCopiesImage : Prop :=
  ∀ (f : Frame) (s : State) (table : Table) (image : ImageName), s.Executing .activate f →
    namedImage f = some (table, image) → s.mayWrite f.src table = true → s.sup.device = .run →
    (image = .pass →
      (∀ e, e < s.store.passPending.length → (passEntry s.store.passPending e).activatable = true) →
      ∃ t active, exec .activate s = .next t ∧ t.Replied f (refuse .done) ∧
        active.length = s.store.passPending.length ∧
        (∀ e, e < s.store.passPending.length → s.store.passPending.length ≤ 32 →
          passEntry active e = passEntry s.store.passPending e) ∧
        OnlyTraffic { s with store := { s.store with passActive := active }
                             pass := { s.pass with hits := List.replicate s.store.passPending.length 0 } } t) ∧
    (∀ k, image = .schedule k → 2 ≤ scheduleLength (s.schedule k).pending →
      ∃ t, exec .activate s = .next t ∧ t.Replied f (refuse .done) ∧
        OnlyTraffic { s with store := { s.store with schedules := (s.store.schedules.set k.val
          ⟨(s.schedule k).pending, (s.schedule k).pending⟩) } } t)

/-- SET_LENGTH and ACTIVATE. -/
def Obligations.PendingImagesSetAndActivated : Prop :=
  Sys2Proof.Claim.SetLengthSetsPending ∧ Sys2Proof.Claim.ActivateCopiesImage

/-- CLEAR_FLAGS, taken in RUN and LOCKOUT, clears the flags of the group it names and no other flag, and changes no
outcome, side state or count (R33, R49, R123, R137, R148, R186). -/
def Obligations.ClearFlagsClearsGroup : Prop :=
  ∀ (f : Frame) (s : State) (k : FlagGroup), s.Executing .clearFlags f → readClearFlags f = some k →
    s.mayOrder f.src = true → s.sup.device ≠ .drain →
    let none4 : Quad := ⟨false, false, false, false⟩
    let hoists : Vector Hoist 16 := Vector.ofFn (fun h =>
      match k with
      | .gate g => if gateOf h = g then { s.hoist h with retry := false, exhausted := false } else s.hoist h
      | .threshold .load => { s.hoist h with monitor := ⟨(s.hoist h).monitor.outcomes, none4⟩ }
      | _ => s.hoist h)
    let cleared : State := match k with
      | .device => { s with req := { s.req with requestLost := false, noticeLost := false } }
      | .levels =>
        { s with levels := { s.levels with up := { s.levels.up with updated := false }
                                           down := { s.levels.down with updated := false } } }
      | .pass => { s with pass := { s.pass with policedDrop := false } }
      | .gate g => { s.onGate g (fun x => { x with rangeFlag := false }) with hoists := hoists }
      | .threshold .levelU => { s with monitor := { s.monitor with up := ⟨s.monitor.up.outcomes, none4⟩ } }
      | .threshold .levelD => { s with monitor := { s.monitor with down := ⟨s.monitor.down.outcomes, none4⟩ } }
      | .threshold .head => { s with monitor := { s.monitor with head := ⟨s.monitor.head.outcomes, none4⟩ } }
      | .threshold .load => { s with hoists := hoists }
    ∃ t, exec .clearFlags s = .next t ∧ t.Replied f (refuse .done) ∧ OnlyTraffic cleared t ∧
      t.monitor.faultLine = t.faultDemanded

/-- CLEAR_GATE on a FAULTED gate releases the save record and enters HOLD from IDLE: queue and closure flags gone, the
standing target the gate position, STOP posted to both hoists (R92, R165, R166). -/
def Obligations.ClearGateReturnsToHold : Prop :=
  ∀ (f : Frame) (s : State) (g : GateNo), s.Executing .clearGate f → namedGate f = some g →
    s.mayOrder f.src = true → s.sup.device = .run → (s.gate g).motion = .faulted →
    ∃ t, exec .clearGate s = .next t ∧ t.Replied f (refuse .done) ∧
      t.gate g = { s.gate g with
        mode := .hold, motion := .idle, queue := [], closurePending := false, tideClosed := false,
        standing := s.gatePosition g, save := { (s.gate g).save with occupied := false, resumed := false } } ∧
      (∀ j, j ≠ g → t.gate j = s.gate j) ∧ t.sup = s.sup ∧ SameSurroundings s t ∧
      t.monitor.faultLine = t.faultDemanded ∧
      ∀ h, gateOf h = g → t.Posted h (stopSetpoint (s.hoist h))

/-- RESUME_GATE on a FAULTED, recoverable gate with no standing condition and its saved target in the window in force
re-issues the saved move, even within the arrival tolerance, and marks the record resumed (R167, R168). -/
def Obligations.ResumeGateReissuesMove : Prop :=
  ∀ (f : Frame) (s : State) (g : GateNo), s.Executing .resumeGate f → namedGate f = some g →
    s.mayOrder f.src = true → s.sup.device = .run → (s.gate g).motion = .faulted → (s.gate g).mode ≠ .off →
    (s.gate g).save.resumed = false → (s.gate g).save.recoverable = .yes →
    s.bothStill g = true → s.sup.holdLine = false →
    (∀ h, gateOf h = g → (s.hoist h).monitor.outcomes.ha = false ∧ (s.hoist h).monitor.outcomes.la = false) →
    let r := (s.gate g).save
    lowerLimit (s.record g) ≤ r.target → r.target ≤ upperLimit (s.record g) →
    ∃ t, exec .resumeGate s = .next t ∧ t.Replied f (refuse .done) ∧
      t.gate g = { s.gate g with
        motion := .moving, trimHoist := none, moveTimer := some (moveTimeLimit (s.record g)),
        context := some ⟨r.target, r.speed, r.origin, decide (s.gatePosition g < r.target)⟩,
        save := { r with resumed := true } } ∧
      (∀ j, j ≠ g → t.gate j = s.gate j) ∧ t.sup = s.sup ∧ SameSurroundings s t ∧
      ∀ h, gateOf h = g → t.Posted h ⟨.move, r.target, r.speed⟩

/-- FORCE_INDEX of 0..63 and RELEASE_INDEX, from an ENGINEER in RUN, set the forced-index state and change nothing
else: neither starts an evaluation (R68). -/
def Obligations.ForcedIndexSet : Prop :=
  ∀ (f : Frame) (s : State), s.classOf f.src = .engineer → s.sup.device = .run →
    (s.Executing .forceIndex f → 2 ≤ f.payload.length → (f.word 1).toNat ≤ 63 →
      ∃ t, exec .forceIndex s = .next t ∧ t.Replied f (refuse .done) ∧
        OnlyTraffic { s with forcedIndex := some (f.word 1).toNat } t) ∧
    (s.Executing .releaseIndex f →
      ∃ t, exec .releaseIndex s = .next t ∧ t.Replied f (refuse .done) ∧
        OnlyTraffic { s with forcedIndex := none } t)


/-- A row address names one table and one row within its capacity, or nothing; a request whose first row lies in no
table's range is MALFORMED, and a run that passes the last address of its table is refused with RANGE (R192). -/
def Sys2Proof.Claim.RowAddressNamesTable : Prop :=
  let base : Table → Nat := fun table => match table with
    | .control => 0 | .access => 16 | .stations => 32 | .hoistMap => 288 | .pass => 304 | .thresholds => 400
    | .gate g => 432 + 16 * g.val | .header n => 560 + 8 * n.val | .rows n => 640 + 64 * n.val
  (∀ (a : Nat) (table : Table) (row : Nat),
    tableOfAddress a = some (table, row) ↔ row < table.capacity ∧ a = base table + row) ∧
  ∀ (f : Frame) (s : State),
    (tableOfAddress (field (f.word 0) 0 12) = none →
      answerReadRows f s = refuse .malformed ∧ answerWriteRows f s = refuse .malformed) ∧
    (∀ o, readReadRows f = some o → s.mayRead f.src o.table = true → o.table.capacity < o.start + o.count →
      answerReadRows f s = refuse .range) ∧
    ∀ o, readWriteRows f = some o → s.mayWrite f.src o.table = true → s.sup.device = .run →
      o.table.capacity < o.start + o.values.length → answerWriteRows f s = refuse .range

/-- Row addresses, the refusals that belong to them, and the rows a write stores. -/
def Obligations.RowsAddressedAndStored : Prop :=
  Sys2Proof.Claim.RowAddressNamesTable ∧ Sys2Proof.Claim.WrittenRowsReadBack
end

