-- ==== Sys2Proof/Laws/State.lean ====
section
/-!
SUPPORT. The state record: one lemma for each field after each update, and the read of one gate or one hoist after
the update of another.
-/

namespace Sys2Proof.Machine

variable (s : State)

/-! ### onRing -/

section onRing

variable (f : RingInterface → RingInterface)

@[simp] theorem State.onRing_ring : (s.onRing f).ring = f s.ring := rfl
@[simp] theorem State.onRing_pass : (s.onRing f).pass = s.pass := rfl
@[simp] theorem State.onRing_levels : (s.onRing f).levels = s.levels := rfl
@[simp] theorem State.onRing_forcedIndex : (s.onRing f).forcedIndex = s.forcedIndex := rfl
@[simp] theorem State.onRing_gates : (s.onRing f).gates = s.gates := rfl
@[simp] theorem State.onRing_hoists : (s.onRing f).hoists = s.hoists := rfl
@[simp] theorem State.onRing_post : (s.onRing f).post = s.post := rfl
@[simp] theorem State.onRing_monitor : (s.onRing f).monitor = s.monitor := rfl
@[simp] theorem State.onRing_sup : (s.onRing f).sup = s.sup := rfl
@[simp] theorem State.onRing_req : (s.onRing f).req = s.req := rfl
@[simp] theorem State.onRing_store : (s.onRing f).store = s.store := rfl
@[simp] theorem State.onRing_orders : (s.onRing f).orders = s.orders := rfl
@[simp] theorem State.onRing_pending : (s.onRing f).pending = s.pending := rfl
@[simp] theorem State.onRing_gate (g : GateNo) : (s.onRing f).gate g = s.gate g := rfl
@[simp] theorem State.onRing_hoist (h : HoistNo) : (s.onRing f).hoist h = s.hoist h := rfl
@[simp] theorem State.onRing_record (g : GateNo) : (s.onRing f).record g = s.record g := rfl
@[simp] theorem State.onRing_driveOf (h : HoistNo) : (s.onRing f).driveOf h = s.driveOf h := rfl
@[simp] theorem State.onRing_schedule (n : ScheduleNo) : (s.onRing f).schedule n = s.schedule n := rfl
@[simp] theorem State.onRing_classOf (a : Byte) : (s.onRing f).classOf a = s.classOf a := rfl

end onRing

/-! ### onPass -/

section onPass

variable (f : PassFilter → PassFilter)

@[simp] theorem State.onPass_ring : (s.onPass f).ring = s.ring := rfl
@[simp] theorem State.onPass_pass : (s.onPass f).pass = f s.pass := rfl
@[simp] theorem State.onPass_levels : (s.onPass f).levels = s.levels := rfl
@[simp] theorem State.onPass_forcedIndex : (s.onPass f).forcedIndex = s.forcedIndex := rfl
@[simp] theorem State.onPass_gates : (s.onPass f).gates = s.gates := rfl
@[simp] theorem State.onPass_hoists : (s.onPass f).hoists = s.hoists := rfl
@[simp] theorem State.onPass_post : (s.onPass f).post = s.post := rfl
@[simp] theorem State.onPass_monitor : (s.onPass f).monitor = s.monitor := rfl
@[simp] theorem State.onPass_sup : (s.onPass f).sup = s.sup := rfl
@[simp] theorem State.onPass_req : (s.onPass f).req = s.req := rfl
@[simp] theorem State.onPass_store : (s.onPass f).store = s.store := rfl
@[simp] theorem State.onPass_orders : (s.onPass f).orders = s.orders := rfl
@[simp] theorem State.onPass_pending : (s.onPass f).pending = s.pending := rfl
@[simp] theorem State.onPass_gate (g : GateNo) : (s.onPass f).gate g = s.gate g := rfl
@[simp] theorem State.onPass_hoist (h : HoistNo) : (s.onPass f).hoist h = s.hoist h := rfl
@[simp] theorem State.onPass_record (g : GateNo) : (s.onPass f).record g = s.record g := rfl
@[simp] theorem State.onPass_driveOf (h : HoistNo) : (s.onPass f).driveOf h = s.driveOf h := rfl
@[simp] theorem State.onPass_schedule (n : ScheduleNo) : (s.onPass f).schedule n = s.schedule n := rfl
@[simp] theorem State.onPass_classOf (a : Byte) : (s.onPass f).classOf a = s.classOf a := rfl

end onPass

/-! ### onLevels -/

section onLevels

variable (f : LevelUnit → LevelUnit)

@[simp] theorem State.onLevels_ring : (s.onLevels f).ring = s.ring := rfl
@[simp] theorem State.onLevels_pass : (s.onLevels f).pass = s.pass := rfl
@[simp] theorem State.onLevels_levels : (s.onLevels f).levels = f s.levels := rfl
@[simp] theorem State.onLevels_forcedIndex : (s.onLevels f).forcedIndex = s.forcedIndex := rfl
@[simp] theorem State.onLevels_gates : (s.onLevels f).gates = s.gates := rfl
@[simp] theorem State.onLevels_hoists : (s.onLevels f).hoists = s.hoists := rfl
@[simp] theorem State.onLevels_post : (s.onLevels f).post = s.post := rfl
@[simp] theorem State.onLevels_monitor : (s.onLevels f).monitor = s.monitor := rfl
@[simp] theorem State.onLevels_sup : (s.onLevels f).sup = s.sup := rfl
@[simp] theorem State.onLevels_req : (s.onLevels f).req = s.req := rfl
@[simp] theorem State.onLevels_store : (s.onLevels f).store = s.store := rfl
@[simp] theorem State.onLevels_orders : (s.onLevels f).orders = s.orders := rfl
@[simp] theorem State.onLevels_pending : (s.onLevels f).pending = s.pending := rfl
@[simp] theorem State.onLevels_gate (g : GateNo) : (s.onLevels f).gate g = s.gate g := rfl
@[simp] theorem State.onLevels_hoist (h : HoistNo) : (s.onLevels f).hoist h = s.hoist h := rfl
@[simp] theorem State.onLevels_record (g : GateNo) : (s.onLevels f).record g = s.record g := rfl
@[simp] theorem State.onLevels_driveOf (h : HoistNo) : (s.onLevels f).driveOf h = s.driveOf h := rfl
@[simp] theorem State.onLevels_schedule (n : ScheduleNo) : (s.onLevels f).schedule n = s.schedule n := rfl
@[simp] theorem State.onLevels_classOf (a : Byte) : (s.onLevels f).classOf a = s.classOf a := rfl

end onLevels

/-! ### onPost -/

section onPost

variable (f : PostUnit → PostUnit)

@[simp] theorem State.onPost_ring : (s.onPost f).ring = s.ring := rfl
@[simp] theorem State.onPost_pass : (s.onPost f).pass = s.pass := rfl
@[simp] theorem State.onPost_levels : (s.onPost f).levels = s.levels := rfl
@[simp] theorem State.onPost_forcedIndex : (s.onPost f).forcedIndex = s.forcedIndex := rfl
@[simp] theorem State.onPost_gates : (s.onPost f).gates = s.gates := rfl
@[simp] theorem State.onPost_hoists : (s.onPost f).hoists = s.hoists := rfl
@[simp] theorem State.onPost_post : (s.onPost f).post = f s.post := rfl
@[simp] theorem State.onPost_monitor : (s.onPost f).monitor = s.monitor := rfl
@[simp] theorem State.onPost_sup : (s.onPost f).sup = s.sup := rfl
@[simp] theorem State.onPost_req : (s.onPost f).req = s.req := rfl
@[simp] theorem State.onPost_store : (s.onPost f).store = s.store := rfl
@[simp] theorem State.onPost_orders : (s.onPost f).orders = s.orders := rfl
@[simp] theorem State.onPost_pending : (s.onPost f).pending = s.pending := rfl
@[simp] theorem State.onPost_gate (g : GateNo) : (s.onPost f).gate g = s.gate g := rfl
@[simp] theorem State.onPost_hoist (h : HoistNo) : (s.onPost f).hoist h = s.hoist h := rfl
@[simp] theorem State.onPost_record (g : GateNo) : (s.onPost f).record g = s.record g := rfl
@[simp] theorem State.onPost_driveOf (h : HoistNo) : (s.onPost f).driveOf h = s.driveOf h := rfl
@[simp] theorem State.onPost_schedule (n : ScheduleNo) : (s.onPost f).schedule n = s.schedule n := rfl
@[simp] theorem State.onPost_classOf (a : Byte) : (s.onPost f).classOf a = s.classOf a := rfl

end onPost

/-! ### onMonitor -/

section onMonitor

variable (f : Monitor → Monitor)

@[simp] theorem State.onMonitor_ring : (s.onMonitor f).ring = s.ring := rfl
@[simp] theorem State.onMonitor_pass : (s.onMonitor f).pass = s.pass := rfl
@[simp] theorem State.onMonitor_levels : (s.onMonitor f).levels = s.levels := rfl
@[simp] theorem State.onMonitor_forcedIndex : (s.onMonitor f).forcedIndex = s.forcedIndex := rfl
@[simp] theorem State.onMonitor_gates : (s.onMonitor f).gates = s.gates := rfl
@[simp] theorem State.onMonitor_hoists : (s.onMonitor f).hoists = s.hoists := rfl
@[simp] theorem State.onMonitor_post : (s.onMonitor f).post = s.post := rfl
@[simp] theorem State.onMonitor_monitor : (s.onMonitor f).monitor = f s.monitor := rfl
@[simp] theorem State.onMonitor_sup : (s.onMonitor f).sup = s.sup := rfl
@[simp] theorem State.onMonitor_req : (s.onMonitor f).req = s.req := rfl
@[simp] theorem State.onMonitor_store : (s.onMonitor f).store = s.store := rfl
@[simp] theorem State.onMonitor_orders : (s.onMonitor f).orders = s.orders := rfl
@[simp] theorem State.onMonitor_pending : (s.onMonitor f).pending = s.pending := rfl
@[simp] theorem State.onMonitor_gate (g : GateNo) : (s.onMonitor f).gate g = s.gate g := rfl
@[simp] theorem State.onMonitor_hoist (h : HoistNo) : (s.onMonitor f).hoist h = s.hoist h := rfl
@[simp] theorem State.onMonitor_record (g : GateNo) : (s.onMonitor f).record g = s.record g := rfl
@[simp] theorem State.onMonitor_driveOf (h : HoistNo) : (s.onMonitor f).driveOf h = s.driveOf h := rfl
@[simp] theorem State.onMonitor_schedule (n : ScheduleNo) : (s.onMonitor f).schedule n = s.schedule n := rfl
@[simp] theorem State.onMonitor_classOf (a : Byte) : (s.onMonitor f).classOf a = s.classOf a := rfl

end onMonitor

/-! ### onSup -/

section onSup

variable (f : Supervisor → Supervisor)

@[simp] theorem State.onSup_ring : (s.onSup f).ring = s.ring := rfl
@[simp] theorem State.onSup_pass : (s.onSup f).pass = s.pass := rfl
@[simp] theorem State.onSup_levels : (s.onSup f).levels = s.levels := rfl
@[simp] theorem State.onSup_forcedIndex : (s.onSup f).forcedIndex = s.forcedIndex := rfl
@[simp] theorem State.onSup_gates : (s.onSup f).gates = s.gates := rfl
@[simp] theorem State.onSup_hoists : (s.onSup f).hoists = s.hoists := rfl
@[simp] theorem State.onSup_post : (s.onSup f).post = s.post := rfl
@[simp] theorem State.onSup_monitor : (s.onSup f).monitor = s.monitor := rfl
@[simp] theorem State.onSup_sup : (s.onSup f).sup = f s.sup := rfl
@[simp] theorem State.onSup_req : (s.onSup f).req = s.req := rfl
@[simp] theorem State.onSup_store : (s.onSup f).store = s.store := rfl
@[simp] theorem State.onSup_orders : (s.onSup f).orders = s.orders := rfl
@[simp] theorem State.onSup_pending : (s.onSup f).pending = s.pending := rfl
@[simp] theorem State.onSup_gate (g : GateNo) : (s.onSup f).gate g = s.gate g := rfl
@[simp] theorem State.onSup_hoist (h : HoistNo) : (s.onSup f).hoist h = s.hoist h := rfl
@[simp] theorem State.onSup_record (g : GateNo) : (s.onSup f).record g = s.record g := rfl
@[simp] theorem State.onSup_driveOf (h : HoistNo) : (s.onSup f).driveOf h = s.driveOf h := rfl
@[simp] theorem State.onSup_schedule (n : ScheduleNo) : (s.onSup f).schedule n = s.schedule n := rfl
@[simp] theorem State.onSup_classOf (a : Byte) : (s.onSup f).classOf a = s.classOf a := rfl

end onSup

/-! ### onReq -/

section onReq

variable (f : RequestUnit → RequestUnit)

@[simp] theorem State.onReq_ring : (s.onReq f).ring = s.ring := rfl
@[simp] theorem State.onReq_pass : (s.onReq f).pass = s.pass := rfl
@[simp] theorem State.onReq_levels : (s.onReq f).levels = s.levels := rfl
@[simp] theorem State.onReq_forcedIndex : (s.onReq f).forcedIndex = s.forcedIndex := rfl
@[simp] theorem State.onReq_gates : (s.onReq f).gates = s.gates := rfl
@[simp] theorem State.onReq_hoists : (s.onReq f).hoists = s.hoists := rfl
@[simp] theorem State.onReq_post : (s.onReq f).post = s.post := rfl
@[simp] theorem State.onReq_monitor : (s.onReq f).monitor = s.monitor := rfl
@[simp] theorem State.onReq_sup : (s.onReq f).sup = s.sup := rfl
@[simp] theorem State.onReq_req : (s.onReq f).req = f s.req := rfl
@[simp] theorem State.onReq_store : (s.onReq f).store = s.store := rfl
@[simp] theorem State.onReq_orders : (s.onReq f).orders = s.orders := rfl
@[simp] theorem State.onReq_pending : (s.onReq f).pending = s.pending := rfl
@[simp] theorem State.onReq_gate (g : GateNo) : (s.onReq f).gate g = s.gate g := rfl
@[simp] theorem State.onReq_hoist (h : HoistNo) : (s.onReq f).hoist h = s.hoist h := rfl
@[simp] theorem State.onReq_record (g : GateNo) : (s.onReq f).record g = s.record g := rfl
@[simp] theorem State.onReq_driveOf (h : HoistNo) : (s.onReq f).driveOf h = s.driveOf h := rfl
@[simp] theorem State.onReq_schedule (n : ScheduleNo) : (s.onReq f).schedule n = s.schedule n := rfl
@[simp] theorem State.onReq_classOf (a : Byte) : (s.onReq f).classOf a = s.classOf a := rfl

end onReq

/-! ### onStore -/

section onStore

variable (f : TableStore → TableStore)

@[simp] theorem State.onStore_ring : (s.onStore f).ring = s.ring := rfl
@[simp] theorem State.onStore_pass : (s.onStore f).pass = s.pass := rfl
@[simp] theorem State.onStore_levels : (s.onStore f).levels = s.levels := rfl
@[simp] theorem State.onStore_forcedIndex : (s.onStore f).forcedIndex = s.forcedIndex := rfl
@[simp] theorem State.onStore_gates : (s.onStore f).gates = s.gates := rfl
@[simp] theorem State.onStore_hoists : (s.onStore f).hoists = s.hoists := rfl
@[simp] theorem State.onStore_post : (s.onStore f).post = s.post := rfl
@[simp] theorem State.onStore_monitor : (s.onStore f).monitor = s.monitor := rfl
@[simp] theorem State.onStore_sup : (s.onStore f).sup = s.sup := rfl
@[simp] theorem State.onStore_req : (s.onStore f).req = s.req := rfl
@[simp] theorem State.onStore_store : (s.onStore f).store = f s.store := rfl
@[simp] theorem State.onStore_orders : (s.onStore f).orders = s.orders := rfl
@[simp] theorem State.onStore_pending : (s.onStore f).pending = s.pending := rfl
@[simp] theorem State.onStore_gate (g : GateNo) : (s.onStore f).gate g = s.gate g := rfl
@[simp] theorem State.onStore_hoist (h : HoistNo) : (s.onStore f).hoist h = s.hoist h := rfl

end onStore

/-! ### onGate -/

section onGate

variable (k : GateNo) (f : Gate → Gate)

@[simp] theorem State.onGate_ring : (s.onGate k f).ring = s.ring := rfl
@[simp] theorem State.onGate_pass : (s.onGate k f).pass = s.pass := rfl
@[simp] theorem State.onGate_levels : (s.onGate k f).levels = s.levels := rfl
@[simp] theorem State.onGate_forcedIndex : (s.onGate k f).forcedIndex = s.forcedIndex := rfl
@[simp] theorem State.onGate_hoists : (s.onGate k f).hoists = s.hoists := rfl
@[simp] theorem State.onGate_post : (s.onGate k f).post = s.post := rfl
@[simp] theorem State.onGate_monitor : (s.onGate k f).monitor = s.monitor := rfl
@[simp] theorem State.onGate_sup : (s.onGate k f).sup = s.sup := rfl
@[simp] theorem State.onGate_req : (s.onGate k f).req = s.req := rfl
@[simp] theorem State.onGate_store : (s.onGate k f).store = s.store := rfl
@[simp] theorem State.onGate_orders : (s.onGate k f).orders = s.orders := rfl
@[simp] theorem State.onGate_pending : (s.onGate k f).pending = s.pending := rfl
@[simp] theorem State.onGate_hoist (h : HoistNo) : (s.onGate k f).hoist h = s.hoist h := rfl
@[simp] theorem State.onGate_record (g : GateNo) : (s.onGate k f).record g = s.record g := rfl
@[simp] theorem State.onGate_driveOf (h : HoistNo) : (s.onGate k f).driveOf h = s.driveOf h := rfl
@[simp] theorem State.onGate_schedule (n : ScheduleNo) : (s.onGate k f).schedule n = s.schedule n := rfl
@[simp] theorem State.onGate_classOf (a : Byte) : (s.onGate k f).classOf a = s.classOf a := rfl

/-- The gate that was changed. -/
@[simp] theorem State.gate_onGate_self : (s.onGate k f).gate k = f (s.gate k) := by
  simp [State.gate, State.onGate]

/-- Every other gate reads as before. -/
theorem State.gate_onGate_ne (j : GateNo) (h : j ≠ k) : (s.onGate k f).gate j = s.gate j := by
  have h1 : (k : Nat) ≠ (j : Nat) := fun e => h (Fin.ext e.symm)
  simp [State.gate, State.onGate, Vector.getElem_set_ne, h1]

/-- The gate read after a change of one. -/
theorem State.gate_onGate (j : GateNo) : (s.onGate k f).gate j = if j = k then f (s.gate k) else s.gate j := by
  by_cases h : j = k
  · subst h; simp
  · simp [h, State.gate_onGate_ne]

end onGate

/-! ### onHoist -/

section onHoist

variable (k : HoistNo) (f : Hoist → Hoist)

@[simp] theorem State.onHoist_ring : (s.onHoist k f).ring = s.ring := rfl
@[simp] theorem State.onHoist_pass : (s.onHoist k f).pass = s.pass := rfl
@[simp] theorem State.onHoist_levels : (s.onHoist k f).levels = s.levels := rfl
@[simp] theorem State.onHoist_forcedIndex : (s.onHoist k f).forcedIndex = s.forcedIndex := rfl
@[simp] theorem State.onHoist_gates : (s.onHoist k f).gates = s.gates := rfl
@[simp] theorem State.onHoist_post : (s.onHoist k f).post = s.post := rfl
@[simp] theorem State.onHoist_monitor : (s.onHoist k f).monitor = s.monitor := rfl
@[simp] theorem State.onHoist_sup : (s.onHoist k f).sup = s.sup := rfl
@[simp] theorem State.onHoist_req : (s.onHoist k f).req = s.req := rfl
@[simp] theorem State.onHoist_store : (s.onHoist k f).store = s.store := rfl
@[simp] theorem State.onHoist_orders : (s.onHoist k f).orders = s.orders := rfl
@[simp] theorem State.onHoist_pending : (s.onHoist k f).pending = s.pending := rfl
@[simp] theorem State.onHoist_gate (g : GateNo) : (s.onHoist k f).gate g = s.gate g := rfl
@[simp] theorem State.onHoist_record (g : GateNo) : (s.onHoist k f).record g = s.record g := rfl
@[simp] theorem State.onHoist_driveOf (h : HoistNo) : (s.onHoist k f).driveOf h = s.driveOf h := rfl
@[simp] theorem State.onHoist_schedule (n : ScheduleNo) : (s.onHoist k f).schedule n = s.schedule n := rfl
@[simp] theorem State.onHoist_classOf (a : Byte) : (s.onHoist k f).classOf a = s.classOf a := rfl

/-- The hoist that was changed. -/
@[simp] theorem State.hoist_onHoist_self : (s.onHoist k f).hoist k = f (s.hoist k) := by
  simp [State.hoist, State.onHoist]

/-- Every other hoist reads as before. -/
theorem State.hoist_onHoist_ne (j : HoistNo) (h : j ≠ k) : (s.onHoist k f).hoist j = s.hoist j := by
  have h1 : (k : Nat) ≠ (j : Nat) := fun e => h (Fin.ext e.symm)
  simp [State.hoist, State.onHoist, Vector.getElem_set_ne, h1]

/-- The hoist read after a change of one. -/
theorem State.hoist_onHoist (j : HoistNo) : (s.onHoist k f).hoist j = if j = k then f (s.hoist k) else s.hoist j := by
  by_cases h : j = k
  · subst h; simp
  · simp [h, State.hoist_onHoist_ne]

end onHoist

/-! ### Equality of states -/

/-- Gates agree when each of the eight does. -/
theorem gates_eq_of_gate (s t : State) (h : ∀ g, t.gate g = s.gate g) : t.gates = s.gates := by
  ext i hi
  exact h ⟨i, hi⟩

/-- Hoists agree when each of the sixteen does. -/
theorem hoists_eq_of_hoist (s t : State) (h : ∀ k, t.hoist k = s.hoist k) : t.hoists = s.hoists := by
  ext i hi
  exact h ⟨i, hi⟩

end Sys2Proof.Machine
end

