-- ==== Sys2Proof/Laws/Traffic.lean ====
section
/-!
SUPPORT. The operations that only move traffic: the arbiter, the FIFOs, the start and the end of an execution, and
the end of every command.
-/

namespace Sys2Proof.Machine

/-! ### OnlyTraffic is reflexive and transitive -/

theorem OnlyTraffic.refl (s : State) : OnlyTraffic s s := by constructor <;> simp

theorem OnlyTraffic.trans {s t u : State} (h : OnlyTraffic s t) (k : OnlyTraffic t u) : OnlyTraffic s u where
  own := k.own.trans h.own
  commissioning := k.commissioning.trans h.commissioning
  checkErrors := k.checkErrors.trans h.checkErrors
  transitLosses := k.transitLosses.trans h.transitLosses
  pass := k.pass.trans h.pass
  levels := k.levels.trans h.levels
  forcedIndex := k.forcedIndex.trans h.forcedIndex
  gates := k.gates.trans h.gates
  hoists := fun x => (k.hoists x).trans (h.hoists x)
  tagCounter := k.tagCounter.trans h.tagCounter
  up := k.up.trans h.up
  down := k.down.trans h.down
  head := k.head.trans h.head
  sup := k.sup.trans h.sup
  requestLost := k.requestLost.trans h.requestLost
  noticeLost := k.noticeLost.trans h.noticeLost
  store := k.store.trans h.store
  orders := k.orders.trans h.orders
  pending := k.pending.trans h.pending

theorem OnlyTraffic.gate {s t : State} (h : OnlyTraffic s t) (g : GateNo) : t.gate g = s.gate g := by
  simp [State.gate, h.gates]

theorem OnlyTraffic.record {s t : State} (h : OnlyTraffic s t) (g : GateNo) : t.record g = s.record g := by
  simp [State.record, h.store]

theorem OnlyTraffic.classOf {s t : State} (h : OnlyTraffic s t) (a : Byte) : t.classOf a = s.classOf a := by
  simp [State.classOf, h.store]

theorem OnlyTraffic.driveOf {s t : State} (h : OnlyTraffic s t) (k : HoistNo) : t.driveOf k = s.driveOf k := by
  simp [State.driveOf, h.store]

/-! ### exceptPhase keeps everything but the phase -/

section exceptPhase

variable {x y : Hoist} (h : x.exceptPhase = y.exceptPhase)

include h

theorem Hoist.position_of_exceptPhase : x.position = y.position := by
  simpa [Hoist.exceptPhase] using congrArg Hoist.position h
theorem Hoist.load_of_exceptPhase : x.load = y.load := by
  simpa [Hoist.exceptPhase] using congrArg Hoist.load h
theorem Hoist.drive_of_exceptPhase : x.drive = y.drive := by
  simpa [Hoist.exceptPhase] using congrArg Hoist.drive h
theorem Hoist.valid_of_exceptPhase : x.valid = y.valid := by
  simpa [Hoist.exceptPhase] using congrArg Hoist.valid h
theorem Hoist.lastPosted_of_exceptPhase : x.lastPosted = y.lastPosted := by
  simpa [Hoist.exceptPhase] using congrArg Hoist.lastPosted h
theorem Hoist.refreshTimer_of_exceptPhase : x.refreshTimer = y.refreshTimer := by
  simpa [Hoist.exceptPhase] using congrArg Hoist.refreshTimer h
theorem Hoist.retry_of_exceptPhase : x.retry = y.retry := by
  simpa [Hoist.exceptPhase] using congrArg Hoist.retry h
theorem Hoist.exhausted_of_exceptPhase : x.exhausted = y.exhausted := by
  simpa [Hoist.exceptPhase] using congrArg Hoist.exhausted h
theorem Hoist.settleTimer_of_exceptPhase : x.settleTimer = y.settleTimer := by
  simpa [Hoist.exceptPhase] using congrArg Hoist.settleTimer h
theorem Hoist.monitor_of_exceptPhase : x.monitor = y.monitor := by
  simpa [Hoist.exceptPhase] using congrArg Hoist.monitor h

theorem Hoist.slot_none_of_exceptPhase : x.slot = none ↔ y.slot = none := by
  have e := congrArg Hoist.slot h
  cases hx : x.slot <;> cases hy : y.slot <;> simp [Hoist.exceptPhase, hx, hy] at e ⊢

theorem Hoist.slot_some_of_exceptPhase {sl : Slot} (hy : y.slot = some sl) :
    ∃ p, x.slot = some { sl with phase := p } := by
  have e : x.exceptPhase.slot = y.exceptPhase.slot := by rw [h]
  simp only [Hoist.exceptPhase, hy, Option.map_some] at e
  cases hx : x.slot with
  | none => simp [hx] at e
  | some a =>
    refine ⟨a.phase, ?_⟩
    cases a
    cases sl
    simp_all

end exceptPhase

/-! ### The arbiter -/

theorem onRing_traffic (s : State) (f : RingInterface → RingInterface) (h1 : (f s.ring).own = s.ring.own)
    (h2 : (f s.ring).commissioning = s.ring.commissioning) (h3 : (f s.ring).checkErrors = s.ring.checkErrors)
    (h4 : (f s.ring).transitLosses = s.ring.transitLosses) : OnlyTraffic s (s.onRing f) := by
  constructor <;> simp [*]

theorem grantTransit_traffic (n : Nat) (s : State) : OnlyTraffic s (grantTransit n s) := by
  unfold grantTransit
  split
  · exact onRing_traffic s _ rfl rfl rfl rfl
  · exact .refl s

theorem grantOwn_traffic (s : State) : OnlyTraffic s (grantOwn s) := by
  unfold grantOwn
  split
  · rename_i h rest _
    split
    · rename_i sl hsl
      constructor <;> simp
      intro k
      rw [State.hoist_onHoist]
      split
      · subst k; simp [Hoist.exceptPhase, hsl]
      · simp
    · constructor <;> simp
  · split
    · constructor <;> simp
    · exact .refl s

theorem grant_traffic (s : State) : OnlyTraffic s (grant s) := by
  unfold grant
  repeat' split
  all_goals first
    | exact grantOwn_traffic s
    | exact grantTransit_traffic _ s
    | exact onRing_traffic s _ rfl rfl rfl rfl

theorem arbitrate_traffic (s : State) : OnlyTraffic s (arbitrate s) := by
  unfold arbitrate
  split
  · exact grant_traffic s
  · exact .refl s

theorem settleRotation_traffic (s : State) : OnlyTraffic s (settleRotation s) := by
  unfold settleRotation
  split
  · exact .refl s
  · exact onRing_traffic s _ rfl rfl rfl rfl

/-! ### Requests -/

theorem onReq_traffic (s : State) (f : RequestUnit → RequestUnit) (h1 : (f s.req).requestLost = s.req.requestLost)
    (h2 : (f s.req).noticeLost = s.req.noticeLost) : OnlyTraffic s (s.onReq f) := by
  constructor <;> simp [*]

theorem placeReply_traffic (f : Frame) (a : Answer) (s : State) : OnlyTraffic s (placeReply f a s) :=
  OnlyTraffic.trans (onReq_traffic s _ rfl rfl) (arbitrate_traffic _)

theorem releaseReservation_traffic (s : State) : OnlyTraffic s (releaseReservation s) :=
  OnlyTraffic.trans (onReq_traffic s _ rfl rfl) ((settleRotation_traffic _).trans (arbitrate_traffic _))

theorem startExecution_traffic (s : State) : OnlyTraffic s (startExecution s) := by
  unfold startExecution
  split
  · exact onReq_traffic s _ rfl rfl
  · exact .refl s

theorem endExecution_traffic (s : State) : OnlyTraffic s (endExecution s) := onReq_traffic s _ rfl rfl

theorem answerUnlisted_traffic (f : Frame) (s : State) : OnlyTraffic s (answerUnlisted f s) := by
  unfold answerUnlisted
  refine OnlyTraffic.trans ?_ (endExecution_traffic _)
  split
  · exact releaseReservation_traffic s
  · exact placeReply_traffic f _ s

/-- The chance for an execution moves traffic alone. -/
theorem nextExecution_traffic (n : Nat) (s : State) : OnlyTraffic s (nextExecution n s) := by
  induction n generalizing s with
  | zero => exact .refl s
  | succ n ih =>
    unfold nextExecution
    split
    · split
      · split
        · exact startExecution_traffic s
        · exact ((startExecution_traffic s).trans (answerUnlisted_traffic _ _)).trans (ih _)
      · exact .refl s
    · exact .refl s

theorem updateFaultLine_traffic (s : State) : OnlyTraffic s (updateFaultLine s) := by
  constructor <;> simp [updateFaultLine]

/-- What every command ends with moves traffic alone. -/
theorem settle_traffic (s : State) : OnlyTraffic s (settle s) :=
  (nextExecution_traffic _ s).trans (updateFaultLine_traffic _)

/-! ### What settles nothing when nothing is to be settled -/

theorem nextExecution_of_not_mayExecute (n : Nat) (s : State) (h : s.mayExecute = false) : nextExecution n s = s := by
  cases n with
  | zero => rfl
  | succ n => simp [nextExecution, h]

/-- With no request to start, the end of a command only brings the FAULT line up to date. -/
theorem settle_of_not_mayExecute (s : State) (h : s.mayExecute = false) : settle s = updateFaultLine s := by
  simp [settle, nextExecution_of_not_mayExecute, h]

theorem updateFaultLine_eq_self (s : State) (h : s.monitor.faultLine = s.faultDemanded) : updateFaultLine s = s := by
  simp [updateFaultLine, State.onMonitor, ← h]

/-- A settled state is left as it is. -/
theorem settle_of_settled (s : State) (h : s.Settled) : settle s = s := by
  rw [settle_of_not_mayExecute s h.1, updateFaultLine_eq_self s h.2]

/-- After every command the FAULT line is the one the flags and the mask demand. -/
theorem settle_faultLine (s : State) : (settle s).monitor.faultLine = (settle s).faultDemanded := rfl

/-- A running transmission keeps the arbiter from choosing. -/
theorem arbitrate_of_sending (s : State) (h : s.ring.out ≠ .idle) : arbitrate s = s := by
  unfold arbitrate
  split
  · contradiction
  · rfl

end Sys2Proof.Machine
end

