-- ==== Sys2Proof/Laws/Motion.lean ====
section
/-!
SUPPORT. What notices, posts, moves, stops, faults, lockouts and the statuses of hoists leave alone.
-/

namespace Sys2Proof.Machine

/-! ### Notices -/

theorem OnlyTraffic.onlyNotices {s t : State} (h : OnlyTraffic s t) : OnlyNotices s t where
  own := h.own
  commissioning := h.commissioning
  checkErrors := h.checkErrors
  transitLosses := h.transitLosses
  pass := h.pass
  levels := h.levels
  forcedIndex := h.forcedIndex
  gates := h.gates
  hoists := h.hoists
  up := h.up
  down := h.down
  head := h.head
  sup := h.sup
  requestLost := h.requestLost
  store := h.store
  orders := h.orders
  pending := h.pending

theorem OnlyNotices.refl (s : State) : OnlyNotices s s := (OnlyTraffic.refl s).onlyNotices

theorem OnlyNotices.trans {s t u : State} (h : OnlyNotices s t) (k : OnlyNotices t u) : OnlyNotices s u where
  own := k.own.trans h.own
  commissioning := k.commissioning.trans h.commissioning
  checkErrors := k.checkErrors.trans h.checkErrors
  transitLosses := k.transitLosses.trans h.transitLosses
  pass := k.pass.trans h.pass
  levels := k.levels.trans h.levels
  forcedIndex := k.forcedIndex.trans h.forcedIndex
  gates := k.gates.trans h.gates
  hoists := fun x => (k.hoists x).trans (h.hoists x)
  up := k.up.trans h.up
  down := k.down.trans h.down
  head := k.head.trans h.head
  sup := k.sup.trans h.sup
  requestLost := k.requestLost.trans h.requestLost
  store := k.store.trans h.store
  orders := k.orders.trans h.orders
  pending := k.pending.trans h.pending

theorem OnlyNotices.gate {s t : State} (h : OnlyNotices s t) (g : GateNo) : t.gate g = s.gate g := by
  simp [State.gate, h.gates]

theorem OnlyNotices.record {s t : State} (h : OnlyNotices s t) (g : GateNo) : t.record g = s.record g := by
  simp [State.record, h.store]

theorem onReqNotice_notices (s : State) (f : RequestUnit → RequestUnit)
    (h1 : (f s.req).requestLost = s.req.requestLost) : OnlyNotices s (s.onReq f) := by
  constructor <;> simp [*]

theorem takeTag_notices (s : State) : OnlyNotices s (takeTag s) := by
  constructor <;> simp [takeTag]

/-- Offering a notice takes a tag and moves traffic (R187, R188). -/
theorem offerNotice_notices (d : Byte) (p : List Word) (s : State) : OnlyNotices s (offerNotice d p s) := by
  unfold offerNotice
  dsimp only
  split
  · exact .refl s
  · split
    · exact (takeTag_notices s).trans
        ((onReqNotice_notices _ _ rfl).trans (arbitrate_traffic _).onlyNotices)
    · exact (takeTag_notices s).trans (onReqNotice_notices _ _ rfl)

theorem notify_notices (p : List Word) (s : State) : OnlyNotices s (notify p s) := offerNotice_notices _ p s

theorem notifyArrived_notices (g : GateNo) (x : Int) (o : Origin) (s : State) :
    OnlyNotices s (notifyArrived g x o s) := by
  unfold notifyArrived
  split
  · exact offerNotice_notices _ _ s
  · exact .refl s

theorem notifyRange_notices (g : GateNo) (x : Int) (o : Origin) (s : State) :
    OnlyNotices s (notifyRange g x o s) := by
  unfold notifyRange
  split
  · exact offerNotice_notices _ _ s
  · exact .refl s

/-! ### Surroundings -/

theorem SameSurroundings.refl (s : State) : SameSurroundings s s := by constructor <;> simp

theorem SameSurroundings.trans {s t u : State} (h : SameSurroundings s t) (k : SameSurroundings t u) :
    SameSurroundings s u where
  own := k.own.trans h.own
  commissioning := k.commissioning.trans h.commissioning
  checkErrors := k.checkErrors.trans h.checkErrors
  transitLosses := k.transitLosses.trans h.transitLosses
  pass := k.pass.trans h.pass
  levels := k.levels.trans h.levels
  forcedIndex := k.forcedIndex.trans h.forcedIndex
  store := k.store.trans h.store
  holdLine := k.holdLine.trans h.holdLine
  requestLost := k.requestLost.trans h.requestLost
  position := fun x => (k.position x).trans (h.position x)
  load := fun x => (k.load x).trans (h.load x)
  drive := fun x => (k.drive x).trans (h.drive x)
  valid := fun x => (k.valid x).trans (h.valid x)
  retry := fun x => (k.retry x).trans (h.retry x)
  exhausted := fun x => (k.exhausted x).trans (h.exhausted x)
  pending := k.pending.trans h.pending

theorem OnlyNotices.surroundings {s t : State} (h : OnlyNotices s t) : SameSurroundings s t where
  own := h.own
  commissioning := h.commissioning
  checkErrors := h.checkErrors
  transitLosses := h.transitLosses
  pass := h.pass
  levels := h.levels
  forcedIndex := h.forcedIndex
  store := h.store
  holdLine := by rw [h.sup]
  requestLost := h.requestLost
  position := fun x => Hoist.position_of_exceptPhase (h.hoists x)
  load := fun x => Hoist.load_of_exceptPhase (h.hoists x)
  drive := fun x => Hoist.drive_of_exceptPhase (h.hoists x)
  valid := fun x => Hoist.valid_of_exceptPhase (h.hoists x)
  retry := fun x => Hoist.retry_of_exceptPhase (h.hoists x)
  exhausted := fun x => Hoist.exhausted_of_exceptPhase (h.hoists x)
  pending := h.pending

theorem OnlyTraffic.surroundings {s t : State} (h : OnlyTraffic s t) : SameSurroundings s t :=
  h.onlyNotices.surroundings

theorem SameSurroundings.record {s t : State} (h : SameSurroundings s t) (g : GateNo) : t.record g = s.record g := by
  simp [State.record, h.store]

theorem SameSurroundings.driveOf {s t : State} (h : SameSurroundings s t) (k : HoistNo) :
    t.driveOf k = s.driveOf k := by
  simp [State.driveOf, h.store]

/-- The gate position and the skew are read from the surroundings (R97, R112). -/
theorem SameSurroundings.gatePosition {s t : State} (h : SameSurroundings s t) (g : GateNo) :
    t.gatePosition g = s.gatePosition g := by
  simp [State.gatePosition, State.leftOf, State.rightOf, h.position]

theorem SameSurroundings.bothStill {s t : State} (h : SameSurroundings s t) (g : GateNo) :
    t.bothStill g = s.bothStill g := by
  unfold State.bothStill State.leftOf State.rightOf
  rw [h.drive, h.drive]

theorem onGate_surroundings (s : State) (g : GateNo) (f : Gate → Gate) : SameSurroundings s (s.onGate g f) := by
  constructor <;> simp

theorem onPost_surroundings (s : State) (f : PostUnit → PostUnit) : SameSurroundings s (s.onPost f) := by
  constructor <;> simp

theorem onSup_surroundings (s : State) (f : Supervisor → Supervisor) (h : (f s.sup).holdLine = s.sup.holdLine) :
    SameSurroundings s (s.onSup f) := by
  constructor <;> simp [h]

theorem onHoist_surroundings (s : State) (k : HoistNo) (f : Hoist → Hoist)
    (h1 : ∀ x, (f x).position = x.position) (h2 : ∀ x, (f x).load = x.load) (h3 : ∀ x, (f x).drive = x.drive)
    (h4 : ∀ x, (f x).valid = x.valid) (h5 : ∀ x, (f x).retry = x.retry) (h6 : ∀ x, (f x).exhausted = x.exhausted) :
    SameSurroundings s (s.onHoist k f) := by
  constructor <;> first | simp | (intro j; rw [State.hoist_onHoist]; split <;> simp [*])

/-! ### Posts and slots -/

theorem placePost_surroundings (h : HoistNo) (sp : Setpoint) (s : State) : SameSurroundings s (placePost h sp s) := by
  unfold placePost
  refine SameSurroundings.trans ?_ (arbitrate_traffic _).surroundings
  refine SameSurroundings.trans ?_ (onHoist_surroundings _ _ _ ?_ ?_ ?_ ?_ ?_ ?_) <;> try (intro x; rfl)
  split
  · exact (takeTag_notices s).surroundings
  · exact (takeTag_notices s).surroundings.trans (onPost_surroundings _ _)

theorem post_surroundings (h : HoistNo) (sp : Setpoint) (s : State) : SameSurroundings s (post h sp s) := by
  unfold post
  split
  · exact placePost_surroundings h sp s
  · exact .refl s

theorem postStop_surroundings (h : HoistNo) (s : State) : SameSurroundings s (postStop h s) :=
  post_surroundings h _ s

theorem postStops_surroundings (g : GateNo) (s : State) : SameSurroundings s (postStops g s) :=
  (postStop_surroundings _ s).trans (postStop_surroundings _ _)

theorem postMoves_surroundings (g : GateNo) (x : Int) (v : Speed) (s : State) :
    SameSurroundings s (postMoves g x v s) :=
  (post_surroundings _ _ s).trans (post_surroundings _ _ _)

theorem emptySlot_surroundings (h : HoistNo) (s : State) : SameSurroundings s (emptySlot h s) := by
  unfold emptySlot
  refine SameSurroundings.trans ?_ (settleRotation_traffic _).surroundings
  refine SameSurroundings.trans ?_ (onPost_surroundings _ _)
  exact onHoist_surroundings _ _ _ (fun _ => rfl) (fun _ => rfl) (fun _ => rfl) (fun _ => rfl) (fun _ => rfl)
    (fun _ => rfl)

theorem restartRefresh_surroundings (h : HoistNo) (s : State) : SameSurroundings s (restartRefresh h s) := by
  unfold restartRefresh
  exact onHoist_surroundings _ _ _ (fun _ => rfl) (fun _ => rfl) (fun _ => rfl) (fun _ => rfl) (fun _ => rfl)
    (fun _ => rfl)

theorem startSettle_surroundings (g : GateNo) (s : State) : SameSurroundings s (startSettle g s) := by
  unfold startSettle
  refine SameSurroundings.trans (onHoist_surroundings _ _ _ ?_ ?_ ?_ ?_ ?_ ?_)
    (onHoist_surroundings _ _ _ ?_ ?_ ?_ ?_ ?_ ?_) <;> intro x <;> rfl

theorem testDrain_surroundings (s : State) : SameSurroundings s (testDrain s) := by
  unfold testDrain
  split
  · exact onSup_surroundings _ _ rfl
  · exact .refl s

/-! ### Posts leave every gate and the device state alone -/

theorem post_gates (h : HoistNo) (sp : Setpoint) (s : State) : (post h sp s).gates = s.gates := by
  unfold post placePost
  dsimp only
  split
  · rw [(arbitrate_traffic _).gates]
    split <;> rfl
  · rfl

theorem post_sup (h : HoistNo) (sp : Setpoint) (s : State) : (post h sp s).sup = s.sup := by
  unfold post placePost
  dsimp only
  split
  · rw [(arbitrate_traffic _).sup]
    split <;> rfl
  · rfl

theorem post_gate (h : HoistNo) (sp : Setpoint) (s : State) (g : GateNo) : (post h sp s).gate g = s.gate g := by
  simp [State.gate, post_gates]

theorem postStops_gate (k g : GateNo) (s : State) : (postStops k s).gate g = s.gate g := by
  simp [postStops, postStop, post_gate]

theorem postStops_sup (g : GateNo) (s : State) : (postStops g s).sup = s.sup := by
  simp [postStops, postStop, post_sup]

theorem postMoves_gate (k g : GateNo) (x : Int) (v : Speed) (s : State) : (postMoves k x v s).gate g = s.gate g := by
  simp [postMoves, post_gate]

theorem postMoves_sup (g : GateNo) (x : Int) (v : Speed) (s : State) : (postMoves g x v s).sup = s.sup := by
  simp [postMoves, post_sup]

/-! ### Moves -/

theorem startMove_surroundings (g : GateNo) (c : MoveContext) (s : State) : SameSurroundings s (startMove g c s) := by
  unfold startMove
  exact (((onGate_surroundings _ _ _).trans (postMoves_surroundings _ _ _ _)).trans
    (onGate_surroundings _ _ _)).trans (startSettle_surroundings _ _)

theorem completeMove_surroundings (g : GateNo) (c : MoveContext) (s : State) :
    SameSurroundings s (completeMove g c s) := by
  unfold completeMove
  exact ((onGate_surroundings _ _ _).trans (testDrain_surroundings _)).trans
    (notifyArrived_notices _ _ _ _).surroundings

theorem issueMove_surroundings (g : GateNo) (c : MoveContext) (s : State) : SameSurroundings s (issueMove g c s) := by
  unfold issueMove
  split
  · exact completeMove_surroundings g c s
  · exact startMove_surroundings g c s

theorem issueClosure_surroundings (g : GateNo) (s : State) : SameSurroundings s (issueClosure g s) := by
  unfold issueClosure
  exact ((onGate_surroundings _ _ _).trans (issueMove_surroundings _ _ _)).trans (notify_notices _ _).surroundings

theorem takeEntry_surroundings (g : GateNo) (e : Entry) (s : State) : SameSurroundings s (takeEntry g e s) := by
  unfold takeEntry
  dsimp only
  split
  · exact (onGate_surroundings _ _ _).trans (issueMove_surroundings _ _ _)
  · exact ((onGate_surroundings _ _ _).trans (onGate_surroundings _ _ _)).trans
      (notifyRange_notices _ _ _ _).surroundings

theorem examineFor_surroundings (n : Nat) (g : GateNo) (s : State) : SameSurroundings s (examineFor n g s) := by
  induction n generalizing s with
  | zero => exact .refl s
  | succ n ih =>
    unfold examineFor
    split
    · split
      · exact (issueClosure_surroundings g s).trans (ih _)
      · split
        · exact .refl s
        · split
          · exact .refl s
          · exact (takeEntry_surroundings g _ s).trans (ih _)
    · exact .refl s

/-- The examination for issue touches nothing of the surroundings (R108). -/
theorem examine_surroundings (g : GateNo) (s : State) : SameSurroundings s (examine g s) :=
  examineFor_surroundings _ g s

theorem retarget_surroundings (g : GateNo) (x : Int) (v : Speed) (o : Origin) (s : State) :
    SameSurroundings s (retarget g x v o s) :=
  startMove_surroundings g _ s

/-- A gate to which nothing may be issued is left as it is (R108). -/
theorem examine_of_not_mayIssue (g : GateNo) (s : State) (h : s.mayIssue g = false) : examine g s = s := by
  simp [examine, examineFor, h]

/-! ### Stops -/

theorem enterStopping_surroundings (g : GateNo) (s : State) : SameSurroundings s (enterStopping g s) := by
  unfold enterStopping
  exact ((onGate_surroundings _ _ _).trans (postStops_surroundings _ _)).trans (onGate_surroundings _ _ _)

theorem enterStopping_gate_ne (g k : GateNo) (s : State) (h : k ≠ g) : (enterStopping g s).gate k = s.gate k := by
  simp [enterStopping, State.gate_onGate_ne, h, postStops_gate]

theorem enterStopping_sup (g : GateNo) (s : State) : (enterStopping g s).sup = s.sup := by
  simp [enterStopping, postStops_sup]

/-- Entry to STOPPING at the gate: its move timer stopped, its stop timer started, all else kept (R115). -/
theorem enterStopping_gate (g : GateNo) (s : State) :
    (enterStopping g s).gate g =
      { s.gate g with motion := .stopping, moveTimer := none, trimHoist := none,
                      stopTimer := some (stopTimeout s.store.control) } := by
  have h := ((onGate_surroundings s g
    (fun x => { x with motion := .stopping, moveTimer := none, trimHoist := none })).trans
      (postStops_surroundings g _)).store
  simp only [enterStopping, State.gate_onGate_self, postStops_gate, h]

theorem stopIfMoving_surroundings (g : GateNo) (s : State) : SameSurroundings s (stopIfMoving g s) := by
  unfold stopIfMoving
  split
  · exact enterStopping_surroundings g s
  · exact .refl s

theorem stopIfMoving_gate_ne (g k : GateNo) (s : State) (h : k ≠ g) : (stopIfMoving g s).gate k = s.gate k := by
  unfold stopIfMoving
  split
  · exact enterStopping_gate_ne g k s h
  · rfl

theorem stopIfMoving_sup (g : GateNo) (s : State) : (stopIfMoving g s).sup = s.sup := by
  unfold stopIfMoving
  split
  · exact enterStopping_sup g s
  · rfl

/-- After the stop the gate is in neither MOVING nor TRIM (R120, R121). -/
theorem stopIfMoving_not_inFlight (g : GateNo) (s : State) : ((stopIfMoving g s).gate g).inFlight = false := by
  unfold stopIfMoving
  split
  · rw [enterStopping_gate]; rfl
  · simp_all

theorem endStop_surroundings (g : GateNo) (s : State) : SameSurroundings s (endStop g s) := by
  unfold endStop
  exact ((onGate_surroundings _ _ _).trans (testDrain_surroundings _)).trans (examine_surroundings _ _)

/-! ### The order of meeting events -/

theorem chooseOrder_surroundings (n : Nat) (s : State) : SameSurroundings s (chooseOrder n s).2 := by
  unfold chooseOrder
  split <;> constructor <;> simp [State.hoist]

theorem chooseOrder_gate (n : Nat) (s : State) (g : GateNo) : (chooseOrder n s).2.gate g = s.gate g := by
  unfold chooseOrder
  split <;> rfl

theorem chooseOrder_sup (n : Nat) (s : State) : (chooseOrder n s).2.sup = s.sup := by
  unfold chooseOrder
  split <;> rfl

/-- An order is one of those there are. -/
theorem chooseOrder_lt (n : Nat) (s : State) (h : 0 < n) : (chooseOrder n s).1 < n := by
  unfold chooseOrder
  split <;> exact Nat.mod_lt _ h

theorem drawOrder_surroundings {α : Type} (n : Nat) (xs : List α) (s : State) :
    SameSurroundings s (drawOrder n xs s).2 := by
  induction n generalizing xs s with
  | zero => exact .refl s
  | succ n ih =>
    unfold drawOrder
    dsimp only
    split
    · exact .refl s
    · split
      · exact .refl s
      · exact (chooseOrder_surroundings _ s).trans (ih _ _)

theorem drawOrder_gate {α : Type} (n : Nat) (xs : List α) (s : State) (g : GateNo) :
    (drawOrder n xs s).2.gate g = s.gate g := by
  induction n generalizing xs s with
  | zero => rfl
  | succ n ih =>
    unfold drawOrder
    dsimp only
    split
    · rfl
    · split
      · rfl
      · rw [ih, chooseOrder_gate]

/-- An order of a list is a permutation of it. -/
theorem drawOrder_perm {α : Type} (n : Nat) (xs : List α) (s : State) : (drawOrder n xs s).1.Perm xs := by
  induction n generalizing xs s with
  | zero => exact List.Perm.refl xs
  | succ n ih =>
    unfold drawOrder
    dsimp only
    split
    · exact List.Perm.refl xs
    · split
      · exact List.Perm.refl xs
      · rename_i x hx
        obtain ⟨hi, rfl⟩ := List.getElem?_eq_some_iff.mp hx
        exact ((ih _ _).cons _).trans (List.getElem_cons_eraseIdx_perm hi)

/-! ### Lockout and faults -/

/-- A fold of an operation that keeps the surroundings keeps them. -/
theorem foldl_surroundings {α : Type} (f : State → α → State) (hf : ∀ s a, SameSurroundings s (f s a)) (xs : List α)
    (s : State) : SameSurroundings s (xs.foldl f s) := by
  induction xs generalizing s with
  | nil => exact .refl s
  | cons a xs ih => exact (hf s a).trans (ih _)

theorem lockoutStops_surroundings (s : State) : SameSurroundings s (lockoutStops s) := by
  unfold lockoutStops
  refine foldl_surroundings _ (fun t h => ?_) _ s
  split
  · exact postStop_surroundings h t
  · exact .refl t

theorem takeLockout_surroundings (t : EntryTaker) (s : State) : SameSurroundings s (takeLockout t s) := by
  cases t
  · exact stopIfMoving_surroundings _ s
  · exact lockoutStops_surroundings s

theorem handLockout_surroundings (s : State) : SameSurroundings s (handLockout s) := by
  unfold handLockout
  exact (drawOrder_surroundings _ _ s).trans
    (foldl_surroundings _ (fun t a => takeLockout_surroundings a t) _ _)

theorem enterLockout_surroundings (c : LockoutCause) (g : GateNo) (s : State) :
    SameSurroundings s (enterLockout c g s) := by
  unfold enterLockout
  exact ((onSup_surroundings _ _ rfl).trans (notify_notices _ _).surroundings).trans (handLockout_surroundings _)

theorem demandLockout_surroundings (c : LockoutCause) (g : GateNo) (s : State) :
    SameSurroundings s (demandLockout c g s) := by
  unfold demandLockout
  split
  · exact enterLockout_surroundings c g s
  · exact .refl s

/-- Outside RUN a lockout demand is discarded (R169). -/
theorem demandLockout_of_not_run (c : LockoutCause) (g : GateNo) (s : State) (h : s.sup.device ≠ .run) :
    demandLockout c g s = s := by
  simp [demandLockout, h]

theorem faultStop_surroundings (g : GateNo) (r : SaveRecord) (b : Bool) (s : State) :
    SameSurroundings s (faultStop g r b s) := by
  unfold faultStop
  exact (((onGate_surroundings _ _ _).trans (postStops_surroundings _ _)).trans (onGate_surroundings _ _ _)).trans
    (notify_notices _ _).surroundings

theorem faultStop_gate_ne (g k : GateNo) (r : SaveRecord) (b : Bool) (s : State) (h : k ≠ g) :
    (faultStop g r b s).gate k = s.gate k := by
  simp [faultStop, (notify_notices _ _).gate, State.gate_onGate_ne, h, postStops_gate]

theorem faultStop_sup (g : GateNo) (r : SaveRecord) (b : Bool) (s : State) : (faultStop g r b s).sup = s.sup := by
  simp [faultStop, (notify_notices _ _).sup, postStops_sup]

/-- A faulted gate: timers stopped but the stop timer, the record filled, no context, FAULT-STOPPING (R160). -/
theorem faultStop_gate (g : GateNo) (r : SaveRecord) (b : Bool) (s : State) :
    (faultStop g r b s).gate g =
      { s.gate g with moveTimer := none, stopTimer := some (stopTimeout s.store.control), save := r, context := none,
                      trimHoist := none, motion := .faultStopping } := by
  have h := ((onGate_surroundings s g (fun x =>
    { x with moveTimer := none, stopTimer := none, save := r, context := none, trimHoist := none,
             motion := .faultStopping })).trans (postStops_surroundings g _)).store
  simp only [faultStop, (notify_notices _ _).gate, State.gate_onGate_self, postStops_gate, h]

theorem takeFault_surroundings (g : GateNo) (c : Cause) (b : Bool) (s : State) :
    SameSurroundings s (takeFault g c b s) := by
  unfold takeFault
  dsimp only
  split
  · exact (faultStop_surroundings _ _ _ s).trans (demandLockout_surroundings _ _ _)
  · exact faultStop_surroundings _ _ _ s

/-- With the fault response enabled and no resumed move a fault stays with its gate (R160, R169). -/
theorem takeFault_of_response (g : GateNo) (c : Cause) (s : State) (h : faultResponse s.store.control = true) :
    takeFault g c false s = faultStop g (s.savedMove g c) false s := by
  simp [takeFault, h]

theorem reachCause_surroundings (g : GateNo) (c : Cause) (s : State) : SameSurroundings s (reachCause g c s) := by
  unfold reachCause
  dsimp only
  split
  · exact .refl s
  · split
    · exact onGate_surroundings _ _ _
    · exact takeFault_surroundings _ _ _ s

/-- A gate in OFF takes no fault (R87, R158). -/
theorem reachCause_of_off (g : GateNo) (c : Cause) (s : State) (h : (s.gate g).mode = .off) : reachCause g c s = s := by
  simp [reachCause, h]

theorem endFaultStop_surroundings (g : GateNo) (s : State) : SameSurroundings s (endFaultStop g s) := by
  unfold endFaultStop
  exact (onGate_surroundings _ _ _).trans (testDrain_surroundings _)

/-! ### Trim and statuses -/

theorem enterTrim_surroundings (g : GateNo) (c : MoveContext) (s : State) : SameSurroundings s (enterTrim g c s) := by
  unfold enterTrim
  exact (onGate_surroundings _ _ _).trans (postStop_surroundings _ _)

theorem releaseTrim_surroundings (g : GateNo) (c : MoveContext) (s : State) :
    SameSurroundings s (releaseTrim g c s) := by
  unfold releaseTrim
  dsimp only
  split
  · exact (onGate_surroundings _ _ _).trans (post_surroundings _ _ _)
  · exact onGate_surroundings _ _ _

theorem checkMove_surroundings (g : GateNo) (c : MoveContext) (s : State) : SameSurroundings s (checkMove g c s) := by
  unfold checkMove
  dsimp only
  repeat' split
  all_goals first
    | exact reachCause_surroundings _ _ s
    | exact (completeMove_surroundings _ _ s).trans (examine_surroundings _ _)
    | exact enterTrim_surroundings _ _ s
    | exact releaseTrim_surroundings _ _ s
    | exact .refl s

theorem checkMotion_surroundings (g : GateNo) (s : State) : SameSurroundings s (checkMotion g s) := by
  unfold checkMotion
  split
  · split
    · exact checkMove_surroundings _ _ s
    · exact .refl s
  · split
    · exact checkMove_surroundings _ _ s
    · exact .refl s
  · split
    · exact endStop_surroundings _ s
    · exact .refl s
  · exact examine_surroundings _ s
  · split
    · exact endFaultStop_surroundings _ s
    · exact .refl s
  · exact .refl s

/-- The sequencer's checks on a status touch nothing of the surroundings, the hoist records among them (R111). -/
theorem sequencerStatus_surroundings (h : HoistNo) (s : State) : SameSurroundings s (sequencerStatus h s) := by
  unfold sequencerStatus
  dsimp only
  split
  · exact .refl s
  · split
    · split
      · exact (reachCause_surroundings _ _ s).trans (checkMotion_surroundings _ _)
      · exact reachCause_surroundings _ _ s
    · split
      · exact reachCause_surroundings _ _ s
      · exact checkMotion_surroundings _ s
    · exact checkMotion_surroundings _ s

/-- A gate in OFF does nothing with a status (R111). -/
theorem sequencerStatus_of_off (h : HoistNo) (s : State) (e : (s.gate (gateOf h)).mode = .off) :
    sequencerStatus h s = s := by
  simp [sequencerStatus, e]

/-! ### Outcomes of the evaluator, and the HOLD line -/

theorem takeRequest_surroundings (g : GateNo) (e : Entry) (s : State) : SameSurroundings s (takeRequest g e s) := by
  unfold takeRequest
  exact (onGate_surroundings _ _ _).trans (examine_surroundings _ _)

theorem takeNoClosure_surroundings (g : GateNo) (s : State) : SameSurroundings s (takeNoClosure g s) := by
  unfold takeNoClosure
  dsimp only
  split
  · exact (onGate_surroundings _ _ _).trans (examine_surroundings _ _)
  · exact onGate_surroundings _ _ _

theorem takeClosureHeld_surroundings (g : GateNo) (s : State) : SameSurroundings s (takeClosureHeld g s) := by
  unfold takeClosureHeld
  split
  · exact onGate_surroundings _ _ _
  · exact .refl s

theorem takeClosure_surroundings (g : GateNo) (s : State) : SameSurroundings s (takeClosure g s) := by
  unfold takeClosure
  dsimp only
  split
  · exact ((onGate_surroundings _ _ _).trans (retarget_surroundings _ _ _ _ _)).trans
      (notify_notices _ _).surroundings
  · split
    · exact (onGate_surroundings _ _ _).trans (examine_surroundings _ _)
    · exact onGate_surroundings _ _ _
    · exact .refl s

theorem stopMovingGates_surroundings (s : State) : SameSurroundings s (stopMovingGates s) := by
  unfold stopMovingGates
  exact (drawOrder_surroundings _ _ s).trans
    (foldl_surroundings _ (fun t g => stopIfMoving_surroundings g t) _ _)

theorem examineIdleGates_surroundings (s : State) : SameSurroundings s (examineIdleGates s) := by
  unfold examineIdleGates
  exact (drawOrder_surroundings _ _ s).trans (foldl_surroundings _ (fun t g => examine_surroundings g t) _ _)

end Sys2Proof.Machine
end

