-- ==== Sys2Proof/WellFormed.lean ====
section
/-!
DEFINITION. Which terms of `Instr` stand for something that can happen at the part. Gate and hoist numbers are in
range by their types; the one check left is that the bits after the last whole word of a frame are fewer than a
word (R5: everything between the marks is assembled into 16-bit words).
-/

namespace Sys2Proof

/-- A command that can happen. `strayBits` are what is left over once whole words are taken (R5). -/
def Instr.wellFormed : Instr → Bool
  | .frameArrival _ strayBits => decide (strayBits < 16)
  | _ => true

end Sys2Proof
end

