-- ==== Sys2Proof/Laws/PerInstr.lean ====
section
/-!
SUPPORT. What holds of every command as syntax, one lemma a constructor.
-/

namespace Sys2Proof.Laws.IllFormed

/-- A command that cannot happen is a frame with a whole word or more left over (R5). -/
def Statement (i : Instr) : Prop := i.wellFormed = false → ∃ ws n, i = .frameArrival ws n ∧ 16 ≤ n

theorem frameArrival (ws : List Word) (n : Nat) : Statement (.frameArrival ws n) := by
  intro h
  exact ⟨ws, n, rfl, by simpa [Instr.wellFormed] using h⟩

theorem transmissionComplete : Statement .transmissionComplete := fun h => nomatch h
theorem hardReset (a : Byte) (b : Byte) (hold : Bool) : Statement (.hardReset a b hold) := fun h => nomatch h
theorem holdLineAsserted : Statement .holdLineAsserted := fun h => nomatch h
theorem holdLineReleased : Statement .holdLineReleased := fun h => nomatch h
theorem ageTimerExpiry (c : ChannelName) : Statement (.ageTimerExpiry c) := fun h => nomatch h
theorem ackTimerExpiry (h : HoistNo) : Statement (.ackTimerExpiry h) := fun h => nomatch h
theorem refreshTimerExpiry (h : HoistNo) : Statement (.refreshTimerExpiry h) := fun h => nomatch h
theorem moveTimerExpiry (g : GateNo) : Statement (.moveTimerExpiry g) := fun h => nomatch h
theorem stopTimerExpiry (g : GateNo) : Statement (.stopTimerExpiry g) := fun h => nomatch h
theorem settleTimerExpiry (h : HoistNo) : Statement (.settleTimerExpiry h) := fun h => nomatch h
theorem drainTimerExpiry : Statement .drainTimerExpiry := fun h => nomatch h
theorem drainCompletion : Statement .drainCompletion := fun h => nomatch h
theorem setMode : Statement .setMode := fun h => nomatch h
theorem moveTo : Statement .moveTo := fun h => nomatch h
theorem moveBy : Statement .moveBy := fun h => nomatch h
theorem stop : Statement .stop := fun h => nomatch h
theorem cancel : Statement .cancel := fun h => nomatch h
theorem writeRows : Statement .writeRows := fun h => nomatch h
theorem readRows : Statement .readRows := fun h => nomatch h
theorem setLength : Statement .setLength := fun h => nomatch h
theorem activate : Statement .activate := fun h => nomatch h
theorem readState : Statement .readState := fun h => nomatch h
theorem clearFlags : Statement .clearFlags := fun h => nomatch h
theorem clearGate : Statement .clearGate := fun h => nomatch h
theorem resumeGate : Statement .resumeGate := fun h => nomatch h
theorem forceIndex : Statement .forceIndex := fun h => nomatch h
theorem releaseIndex : Statement .releaseIndex := fun h => nomatch h
theorem softReset : Statement .softReset := fun h => nomatch h
theorem startMarkBeforeEndMark : Statement .startMarkBeforeEndMark := fun h => nomatch h

end Sys2Proof.Laws.IllFormed

namespace Sys2Proof.Machine

/-- Every command has an effect in every state: no command faults and none is refused. -/
theorem exec_next (i : Instr) (s : State) : ∃ t, exec i s = .next t := by
  cases i <;> exact ⟨_, rfl⟩

/-- So has every step. -/
theorem step_next (s : State) : ∃ t, step s = .next t := by
  unfold step
  split
  · exact ⟨_, rfl⟩
  · exact exec_next _ _

end Sys2Proof.Machine
end

