-- ==== Sys2Proof/Tests/Slice0.lean ====
section
/-!
SUPPORT. Tests. The expected figures are the manual's own worked examples, named at each test. Then, for every
statement with premises, a witness: a concrete state and operands that meet the premises together.
-/

namespace Sys2Proof.Tests

-- One theorem after another: each `decide +kernel` would otherwise take a thread of its own.
set_option Elab.async false

open Sys2Proof.Machine

/-! ### The dam of the worked examples -/

/-- The next state of an outcome. -/
def after (o : Host.Outcome State Fault Refusal) : State :=
  match o with
  | .next t => t
  | _ => State.reset

/-- A frame as another station sends it, to the own address of the examples. -/
def toPart (src : Byte) (kind : BitVec 4) (payload : List Word) : Frame := sealFrame src ⟨37#8, kind, 5#8, payload⟩

/-- A frame from one station to another. -/
def passing (src dest : Byte) (kind : BitVec 4) (payload : List Word) : Frame :=
  sealFrame src ⟨dest, kind, 5#8, payload⟩

/-- The arrival of a frame. -/
def arrives (f : Frame) : Instr := .frameArrival f.words 0

/-- The gate record of 5.6. -/
def exampleRecord : Vector Word 12 :=
  #v[0#16, 40#16, 200#16, 9000#16, 2#16, 10#16, 30#16, 10#16, 60#16, 600#16, 1#16, 1#16]

/-- Schedule 0 of 4.11. -/
def exampleSchedule : ScheduleImage :=
  ⟨#v[40#16, 2100#16, 24#16, 500#16, 300#16, 40#16],
    ((((((Vector.replicate 64 0#16).set 10 7310#16).set 11 6995#16).set 26 3000#16).set 27 2600#16).set 28
      2150#16).set 29 1700#16⟩

/-- The Pass Table of 2.5: POLICE of setpoints to 64 and 65, SNOOP of statuses from 64, DROP to 200..254. -/
def examplePass : PassImage :=
  ⟨3, ((((((((Vector.replicate 96 0#16).set 0 0x0300#16).set 1 0x4140#16).set 2 0x0008#16).set 3 0x0140#16).set 4
      0xFF01#16).set 5 0x0004#16).set 6 0x0200#16).set 7 0xFEC8#16 |>.set 8 0xFFFF#16⟩

/-- Station 12 ENGINEER, 40 OPERATOR, 50 OBSERVER, every other NONE. -/
def exampleStations : Vector Word 254 :=
  (((Vector.replicate 254 0#16).set 11 3#16).set 39 2#16).set 49 1#16

/-- Own address 37, commissioning address 12, stations 23, 24, 21, 22 bound to U1, U2, D1, D2 (3.8), hoists 6 and 7
on stations 64 and 65 and the others beside them, N = 2 (1.6), retry limit 2 (7.7), every gate with the record of
5.6, LOAD alarms at 900 and 20 kN (9.9), hoists 6 and 7 STILL at 2984 and 2975 (5.6, step 5). RING-OUT is IDLE, every
gate OFF. The orders of meeting events are given, so that nothing rests on the free value. -/
def dam : State :=
  { State.reset with
    ring := { State.reset.ring with out := .idle }
    pass := ⟨[0, 0, 0], false⟩
    hoists := Vector.ofFn (fun i =>
      { Hoist.reset with position := if i.val = 7 then 2975 else 2984, load := 300, valid := true })
    store := { State.reset.store with
      control := #v[12#16, 23#16, 24#16, 21#16, 22#16, 5#16, 5#16, 50#16, 0b1001#16, 2#16, 100#16, 1000#16, 10#16,
        30#16, 0#16, 0#16]
      stations := exampleStations
      hoistMap := Vector.ofFn (fun i => BitVec.ofNat 16 (58 + i.val))
      passActive := examplePass
      thresholds := (((State.reset.store.thresholds.set 12 900#16).set 13 750#16).set 14 60#16).set 15 20#16
      gateRecords := Vector.replicate 8 exampleRecord
      schedules := Vector.replicate 4 ⟨exampleSchedule, exampleSchedule⟩ }
    orders := ⟨List.replicate 16 0, 0⟩ }

/-- Gate 3 in a mode, IDLE at its position. -/
def damIn (m : Mode) : State := dam.onGate 3 (fun x => { x with mode := m, standing := 2979 })

/-- Gate 3 on its way. -/
def damMoving (m : Mode) (target : Int) (o : Origin) : State :=
  (damIn m).onGate 3 (fun x =>
    { x with motion := .moving, moveTimer := some 600000
             context := some ⟨target, .normal, o, decide (2979 < target)⟩ })

/-- Gate 3 stopping, on the way to 2670. -/
def damStopping : State :=
  (damIn .auto).onGate 3 (fun x =>
    { x with motion := .stopping, stopTimer := some 10000, context := some ⟨2670, .normal, .auto, false⟩ })

/-- Gate 3 in FAULT-STOPPING or FAULTED, with the record of 9.9 after step 4. -/
def damFaulted (m : Motion) (t : Option Nat) : State :=
  (damIn .auto).onGate 3 (fun x =>
    { x with motion := m, stopTimer := t,
             save := ⟨true, false, .overload, 1#8, .moving, 4200, .normal, .auto, 2984, 2975, .yes⟩ })

/-- The slot of a hoist occupied. -/
def withSlot (h : HoistNo) (sp : Setpoint) (tag : Byte) (tries : Nat) (p : Phase) (s : State) : State :=
  let s1 := s.onHoist h (fun x =>
    { x with slot := some ⟨sp, s.driveOf h, tag, tries, p, if p = .sent then some 100 else none⟩,
             lastPosted := some sp })
  if p = .waiting then s1.onPost (fun q => { q with queue := q.queue ++ [h] }) else s1

/-- A request under way. -/
def underWay (f : Frame) (s : State) : State :=
  s.onReq (fun q => { q with executing := some f, report := q.report ++ [.reserved] })

def order (payload : List Word) : Frame := toPart 12#8 kindOrder payload
def manage (payload : List Word) : Frame := toPart 12#8 kindManage payload

/-- The device in LOCKOUT or DRAIN. -/
def inDevice (d : Device) (s : State) : State :=
  s.onSup (fun x => { x with device := d, lockoutLine := decide (d = .lockout) })

def held (s : State) : State := s.onSup (fun x => { x with holdLine := true })

/-! ### Commands as terms -/

/-- A frame with a whole word left over is no frame; one with 15 bits left over is (R5). -/
theorem test_wellFormed : (Instr.frameArrival [] 16).wellFormed = false ∧ (Instr.frameArrival [] 15).wellFormed = true := by
  decide

/-- No row of the opcode table has bits (00_scope.md, "Steps"). -/
theorem test_noWordSpellsACommand : decodeTableWord 16 0xFFFF = none := rfl

/-! ### One step of each command -/

/-- HARD_RESET: the RESET-DONE notice is on RING-OUT, with tag 1 (R20, R129, R176). -/
theorem test_hardReset : (after (exec (.hardReset 37#8 12#8 false) dam)).ring = State.reset.ring := by decide +kernel

/-- Straps at 0 take 254, and a commissioning address equal to the own one takes 253 (R3). -/
theorem test_hardReset_straps :
    let r := (after (exec (.hardReset 0#8 255#8 true) dam)).ring
    r.own = 254#8 ∧ r.commissioning = 253#8 := by decide +kernel

/-- The check word over the bytes 31H to 38H is A12BH, a figure of general knowledge about this check (R190). -/
theorem test_checkWord : checkWord [0x3132#16, 0x3334#16, 0x3536#16, 0x3738#16] = 0xA12B#16 := by decide +kernel

/-- A good fine sample (R38). -/
def goodSample (src : Byte) (fine : Word) : Instr := arrives (passing src 255#8 kindSample [fine, 0#16, 1#16])

/-- The levels of 3.8 at 0.4. -/
def damLevels : State :=
  dam.onLevels (fun _ =>
    ⟨⟨.fresh, 2175, false, false, some 5000⟩, Channel.reset, ⟨.fresh, 1234, false, false, some 5000⟩,
      ⟨.fresh, 1250, false, false, some 5000⟩, ⟨.valid, 2175, true, false, true⟩, ⟨.valid, 1242, true, false, true⟩,
      933⟩)

/-- 3.8 at 0.6: U = 2180, head 938. -/
theorem test_frameArrival_sample :
    let l := (after (exec (goodSample 24#8 2186#16) damLevels)).levels
    l.up.level = 2180 ∧ l.up.disagree = false ∧ l.head = 938 ∧ l.u2.state = .fresh := by decide +kernel

/-- 2.5, second frame: a MOVE to 9500 for station 65 is dropped, counted, and sets POLICED-DROP. -/
theorem test_frameArrival_policed :
    let t := after (exec (arrives (passing 90#8 65#8 kindSetpoint [0x0102#16, 9500#16])) dam)
    t.pass = ⟨[1, 0, 0], true⟩ ∧ t.ring.out = .idle := by decide +kernel

/-- Four transit frames T1 to T4, P4 and P5 in the post queue and a reply, as 1.6 starts. -/
def damSharing (count : Nat) : State :=
  let f := fun (n : Nat) => passing 90#8 91#8 8#4 [BitVec.ofNat 16 n]
  let stop : Setpoint := ⟨.stop, 0, .creep⟩
  (withSlot 5 stop 2#8 0 .waiting (withSlot 4 stop 1#8 0 .waiting dam)).onRing (fun r =>
    { r with transit := [f 1, f 2, f 3, f 4], out := .transit (f 0), consecutive := count })

/-- 1.6: X completes with the count at 0, and T1 is granted, the count 1. -/
theorem test_transmissionComplete_transit :
    let r := (after (exec .transmissionComplete (damSharing 0))).ring
    r.out = .transit (passing 90#8 91#8 8#4 [1#16]) ∧ r.consecutive = 1 ∧ r.transit.length = 3 := by decide +kernel

/-- 1.6: with the count at N = 2, P4 is granted, the count 0. -/
theorem test_transmissionComplete_own :
    let t := after (exec .transmissionComplete (damSharing 2))
    t.post.queue = [5] ∧ t.ring.consecutive = 0 ∧ (t.hoist 4).phase = some .sending := by decide +kernel

/-- 6.8, step 14: the HOLD line stops the move, the context kept, STOP posted to hoist 6 at its position. -/
theorem test_holdLineAsserted :
    let t := after (exec .holdLineAsserted (damMoving .auto 2540 .auto))
    (t.gate 3).motion = .stopping ∧ (t.gate 3).stopTimer = some 10000 ∧
      (t.hoist 6).lastPosted = some ⟨.stop, 2984, .creep⟩ := by decide +kernel

/-- 6.8, step 19: the pending closure is issued, to 200 at FAST with origin CLOSURE, DOWN. -/
theorem test_holdLineReleased :
    let s := held ((damIn .auto).onGate 3 (fun x => { x with closurePending := true }))
    let x := (after (exec .holdLineReleased s)).gate 3
    x.motion = .moving ∧ x.context = some ⟨200, .fast, .closure, false⟩ ∧ x.closurePending = false := by decide +kernel

/-- 3.8 at 5.2: D2 ages with D1 FAULTED; the side goes STALE and keeps 1242. -/
theorem test_ageTimerExpiry :
    let s := damLevels.onLevels (fun l => { l with d1 := { l.d1 with state := .faulted, ageTimer := none } })
    let l := (after (exec (.ageTimerExpiry .d2) s)).levels
    l.d2.state = .aged ∧ l.down.state = .stale ∧ l.down.level = 1242 ∧ l.head = 933 := by decide +kernel

/-- Gate 3 stopping with the slots of 7.7: STOP 43 in slot 6, SENT, after a number of tries; the counter at 44. -/
def damSilent (tries : Nat) : State :=
  (withSlot 6 ⟨.stop, 3050, .creep⟩ 43#8 tries .sent damStopping).onPost (fun q => { q with tagCounter := 44#8 })

/-- 7.7, step 9: one more try, the same tag, queued again and granted to the idle RING-OUT. -/
theorem test_ackTimerExpiry_retry :
    let x := (after (exec (.ackTimerExpiry 6) (damSilent 0))).hoist 6
    x.slot.map (fun sl => (sl.tag, sl.tries)) = some (43#8, 1) ∧ x.retry = true := by decide +kernel

/-- 7.7, steps 13 and 14: past the retry limit of 2 the slot is abandoned: DRIVE-SILENT, STOP 45 and 46, and the
GATE-FAULT notice takes 47. -/
theorem test_ackTimerExpiry_abandon :
    let t := after (exec (.ackTimerExpiry 6) (damSilent 2))
    (t.gate 3).save.firstCause = .driveSilent ∧ (t.hoist 6).slot.map Slot.tag = some 45#8 ∧
      (t.hoist 7).slot.map Slot.tag = some 46#8 ∧ t.post.tagCounter = 47#8 := by decide +kernel

/-- The last-posted STOP is posted again and the timer starts anew (R139). -/
theorem test_refreshTimerExpiry :
    let s := (damIn .hold).onHoist 6 (fun x =>
      { x with lastPosted := some ⟨.stop, 2601, .creep⟩, refreshTimer := some 1000 })
    let x := (after (exec (.refreshTimerExpiry 6) s)).hoist 6
    x.slot.map Slot.setpoint = some ⟨.stop, 2601, .creep⟩ ∧ x.refreshTimer = some 1000 := by decide +kernel

/-- The move is saved with cause MOVE-TIMEOUT, bit 5 (R114, R160). -/
theorem test_moveTimerExpiry :
    let x := (after (exec (.moveTimerExpiry 3) (damMoving .manual 3150 (.order 12#8 5#8)))).gate 3
    x.motion = .faultStopping ∧ x.save.causes = 0x20#8 ∧ x.save.target = 3150 ∧ x.context = none := by decide +kernel

/-- STOP-TIMEOUT in FAULT-STOPPING is added to the causes and locks the device out with STOP-FAILED (R164). -/
theorem test_stopTimerExpiry :
    let t := after (exec (.stopTimerExpiry 3) (damFaulted .faultStopping (some 10000)))
    (t.gate 3).save.causes = 0x41#8 ∧ t.sup.device = .lockout ∧ t.sup.lockoutCause = .stopFailed ∧
      t.sup.lockoutLine = true := by decide +kernel

/-- The timer stops, and no comparison is made (R149). -/
theorem test_settleTimerExpiry :
    let s := dam.onHoist 6 (fun x => { x with settleTimer := some 3000, load := 15 })
    let x := (after (exec (.settleTimerExpiry 6) s)).hoist 6
    x.settleTimer = none ∧ x.monitor = ⟨Quad.clear, Quad.clear⟩ := by decide +kernel

/-- The drain of 9.9 with gate 3 for gate 5, its hoists at 3498 and 3561. -/
def damDraining (fulfilled : Bool) : State :=
  (inDevice .drain (((damFaulted .faulted none).onHoist 6 (fun x => { x with position := 3498 })).onHoist 7
    (fun x => { x with position := 3561 }))).onSup (fun x =>
      { x with drainFulfilled := fulfilled, drainTimer := if fulfilled then none else some 30000 })

/-- 9.9, step 12: the gate in HOLD and IDLE at 3529, and a RESET-DONE notice of kind SOFT, outcome YES, no gate cut
off. -/
theorem test_drainCompletion :
    let t := after (exec .drainCompletion (damDraining true))
    (t.gate 3).mode = .hold ∧ (t.gate 3).motion = .idle ∧ (t.gate 3).standing = 3529 ∧ t.sup.device = .run ∧
      t.ring.out = .report (sealFrame 37#8 ⟨12#8, kindNotice, 2#8, [0x0700#16, 3#16, 0#16]⟩) := by decide +kernel

/-- The drain limit: outcome NO, with gate 3, which still stops, in the set of gates cut off (R174 to R176). -/
theorem test_drainTimerExpiry :
    let s := (damDraining false).onGate 3 (fun x => { x with motion := .faultStopping, stopTimer := some 10000 })
    let t := after (exec .drainTimerExpiry s)
    t.sup.device = .run ∧
      t.ring.out = .report (sealFrame 37#8 ⟨12#8, kindNotice, 2#8, [0x0700#16, 2#16, 8#16]⟩) := by decide +kernel

/-- 5.6, step 6: gate 3 leaves OFF for MANUAL with its position, 2979, as standing target. -/
theorem test_setMode_manual :
    let x := (after (exec .setMode (underWay (order [0x0103#16, 2#16]) dam))).gate 3
    x.mode = .manual ∧ x.standing = 2979 ∧ x.motion = .idle := by decide +kernel

/-- 5.6, step 10: FLOOD empties the queue and queues the request for 9000 at FAST. -/
theorem test_setMode_flood :
    let s := (damMoving .auto 3150 (.order 12#8 5#8)).onGate 3 (fun x =>
      { x with queue := [⟨.auto, .absolute, 3076, some .normal⟩] })
    let x := (after (exec .setMode (underWay (order [0x0103#16, 4#16]) s))).gate 3
    x.mode = .flood ∧ x.queue = [⟨.flood, .absolute, 9000, some .fast⟩] ∧ x.motion = .moving := by decide +kernel

/-- 5.6, step 7: MOVE-TO 3150 without extension is issued at once, at the default speed NORMAL. -/
theorem test_moveTo :
    let x := (after (exec .moveTo (underWay (order [0x0203#16, 3150#16]) (damIn .manual)))).gate 3
    x.motion = .moving ∧ x.context = some ⟨3150, .normal, .order 12#8 5#8, true⟩ ∧ x.queue = [] ∧
      x.standing = 2979 := by decide +kernel

/-- MOVE-BY -179 is formed from the standing target 2979 (R108). -/
theorem test_moveBy :
    let x := (after (exec .moveBy (underWay (order [0x0303#16, 0xFF4D#16, 3#16]) (damIn .manual)))).gate 3
    x.context = some ⟨2800, .fast, .order 12#8 5#8, false⟩ := by decide +kernel

/-- STOP naming 15 stops the moving gate and posts STOP to its hoists, and to no hoist of a gate in OFF (R106). -/
theorem test_stop :
    let t := after (exec .stop (underWay (order [0x040F#16]) (damMoving .manual 3150 (.order 12#8 5#8))))
    (t.gate 3).motion = .stopping ∧ (t.hoist 7).lastPosted = some ⟨.stop, 2975, .creep⟩ ∧
      (t.hoist 0).slot = none := by decide +kernel

/-- CANCEL empties the queue; the move goes on (R107). -/
theorem test_cancel :
    let s := (damMoving .manual 3150 (.order 12#8 5#8)).onGate 3 (fun x =>
      { x with queue := [⟨.order 12#8 6#8, .absolute, 3076, none⟩] })
    let x := (after (exec .cancel (underWay (order [0x0503#16]) s))).gate 3
    x.queue = [] ∧ x.motion = .moving := by decide +kernel

/-- Gate 3's record as after a hard reset. -/
def damUnwritten : State :=
  dam.onStore (fun t => { t with gateRecords := t.gateRecords.set 3 (Vector.replicate 12 0#16) })

/-- 5.6, step 1: rows 2 and 3 alone leave a record out of range; the write is refused with RANGE. -/
theorem test_writeRows_refused :
    let t := after (exec .writeRows (underWay (manage [0x11E2#16, 200#16, 9000#16]) damUnwritten))
    t.ring.out = .report (sealFrame 37#8 ⟨12#8, kindReply, 5#8, [3#16]⟩) ∧
      lowerLimit (t.record 3) = 0 := by decide +kernel

/-- 5.6, step 2: rows 0 to 9 make the record VALID with write count 1. -/
theorem test_writeRows :
    let f := manage (0x11E0#16 :: exampleRecord.toList.take 10)
    (after (exec .writeRows (underWay f damUnwritten))).record 3 = exampleRecord := by decide +kernel

/-- READ-ROWS of rows 2 and 3 of gate record 3: DONE, 200, 9000 (R181; 11.2, 11.3). -/
theorem test_readRows :
    (after (exec .readRows (underWay (manage [0x21E2#16, 2#16]) dam))).ring.out =
      .report (sealFrame 37#8 ⟨12#8, kindReply, 5#8, [0#16, 200#16, 9000#16]⟩) := by decide +kernel

/-- SET-LENGTH 64 of schedule 1 reaches its pending image alone (R183). -/
theorem test_setLength :
    let t := after (exec .setLength (underWay (manage [0x3015#16, 64#16]) dam))
    scheduleLength (t.schedule 1).pending = 64 ∧ scheduleLength (t.schedule 1).active = 40 := by decide +kernel

/-- ACTIVATE of an empty Pass Table: length 0, and no hit counts (R34). -/
theorem test_activate :
    let t := after (exec .activate (underWay (manage [0x4004#16]) dam))
    t.store.passActive.length = 0 ∧ t.pass.hits = [] := by decide +kernel

/-- READ-STATE of the pass section from entry 0 at the end of 2.5: active length 3, POLICED-DROP, the counts 5, 1 and
1, and BEYOND, since 14 counts are returned (R185). -/
theorem test_readState :
    (after (exec .readState (underWay (manage [0x5500#16]) (dam.onPass (fun _ => ⟨[5, 1, 1], true⟩))))).ring.out =
      .report (sealFrame 37#8 ⟨12#8, kindReply, 5#8,
        [0xC300#16, 5#16, 1#16, 1#16] ++ List.replicate 11 0#16⟩) := by decide +kernel

/-- 8.9 at 6.0: the flags of the LOAD class are cleared, the outcomes held are kept. -/
theorem test_clearFlags :
    let q : Quad := ⟨false, true, false, false⟩
    let s := dam.onHoist 7 (fun x => { x with monitor := ⟨q, q⟩ })
    ((after (exec .clearFlags (underWay (manage [0x6023#16]) s))).hoist 7).monitor = ⟨q, Quad.clear⟩ := by
  decide +kernel

/-- CLEAR-GATE returns the gate to HOLD with its position, 2979, as standing target (R166). -/
theorem test_clearGate :
    let x := (after (exec .clearGate (underWay (manage [0x7003#16]) (damFaulted .faulted none)))).gate 3
    x.mode = .hold ∧ x.motion = .idle ∧ x.standing = 2979 ∧ x.save.occupied = false := by decide +kernel

/-- 9.9, step 7: the saved move to 4200 at NORMAL is re-issued, UP, and the record marked resumed. -/
theorem test_resumeGate :
    let x := (after (exec .resumeGate (underWay (manage [0x8003#16]) (damFaulted .faulted none)))).gate 3
    x.motion = .moving ∧ x.context = some ⟨4200, .normal, .auto, true⟩ ∧ x.save.resumed = true ∧
      x.moveTimer = some 600000 := by decide +kernel

/-- The forced index is set to its highest value, 63, and 64 is refused (R68). -/
theorem test_forceIndex :
    (after (exec .forceIndex (underWay (manage [0x9000#16, 63#16]) dam))).forcedIndex = some 63 ∧
    (after (exec .forceIndex (underWay (manage [0x9000#16, 64#16]) dam))).forcedIndex = none := by decide +kernel

/-- The forced index is released (R68). -/
theorem test_releaseIndex :
    let s : State := { dam with forcedIndex := some 5 }
    (after (exec .releaseIndex (underWay (manage [0xA000#16]) s))).forcedIndex = none := by decide +kernel

/-- 9.9, step 10: from LOCKOUT to DRAIN with the drain timer at 30 s, a gate still in FAULT-STOPPING. -/
theorem test_softReset :
    let s := inDevice .lockout (damFaulted .faultStopping (some 10000))
    let t := after (exec .softReset (underWay (manage [0xB000#16]) s))
    t.sup.device = .drain ∧ t.sup.lockoutLine = false ∧ t.sup.drainTimer = some 30000 := by decide +kernel

/-- A check error is counted, and the count stays at 65535 (R5, R7). -/
theorem test_startMarkBeforeEndMark :
    (after (exec .startMarkBeforeEndMark dam)).ring.checkErrors = 1 ∧
    (after (exec .startMarkBeforeEndMark (dam.onRing (fun r => { r with checkErrors := 65535 })))).ring.checkErrors =
      65535 := by decide +kernel

/-- Case 1 of 4.11: stage index 26, remainder 42, base opening 2916, correction 120, target 3076. -/
theorem test_openingArithmetic :
    stageIndex none 40 1242 = (26, 42) ∧ baseOpening exampleSchedule 26 42 = 2916 ∧
      poolCorrection exampleSchedule 2180 = 120 ∧ (damIn .auto).autoTarget 3 2180 1242 = 3076 := by decide +kernel

/-! ### Witnesses

One for every statement with premises, and for every clause where a statement has several, at the boundary value of
its range where there is one. A theorem bears the name of its statement, or of the
clause (`Sys2Proof.Claim.<Name>`) of the statement it stands for. -/

theorem witness_StepRunsFrontCommand :
    { dam with pending := [.cancel, .stop] }.pending = .cancel :: [.stop] ∧ dam.pending = [] := ⟨rfl, rfl⟩

theorem witness_HardResetGivesResetState :
    ∃ t, exec (.hardReset 0#8 255#8 true) (held (damMoving .auto 2670 .auto)) = .next t := ⟨_, rfl⟩

/-- A state with a gate on its way, a slot in SENT, one WAITING and levels formed, a command waiting. -/
def damBusy : State :=
  let s := withSlot 7 ⟨.move, 2670, .normal⟩ 42#8 0 .waiting
    (withSlot 6 ⟨.move, 2670, .normal⟩ 41#8 0 .sent (damMoving .auto 2670 .auto))
  { s with levels := damLevels.levels, pending := [.transmissionComplete] }

/-- The premises of the statements whose names end in "Kept", of `LockoutLineKept` and of the first part of
`MotionNeedsRunAndRelease`, all together, at one busy state that steps on. -/
theorem witness_rulesKept : damBusy.Sound ∧ ∃ t, step damBusy = .next t := by
  refine ⟨?_, _, rfl⟩
  constructor
  · delta State.addressRule; decide +kernel
  · delta State.capacityRule; decide +kernel
  · delta State.reservationRule; decide +kernel
  · delta State.Settled; decide +kernel
  · delta State.lockoutRule; decide +kernel
  · delta State.restRule; decide +kernel
  · delta Gate.offRule; decide +kernel
  · intro g
    fin_cases g <;> first | exact rfl | exact ⟨by decide, fun e h => nomatch h⟩
  · delta Gate.motionRule; decide +kernel
  · delta Gate.saveRule; decide +kernel
  · refine ⟨by decide +kernel, by decide +kernel, ?_⟩
    intro h sl e
    have all : ∀ h, ((damBusy.hoist h).slot.all (fun sl =>
        decide (sl.tag ≠ 0#8 ∧ sl.tries ≤ 255 ∧ sl.ackTimer.isSome = decide (sl.phase = .sent)))) = true := by
      decide +kernel
    have here := all h
    rw [e] at here
    simpa using here
  · refine ⟨fun c => by cases c <;> decide +kernel, fun n => by cases n <;> decide +kernel, ?_⟩
    decide +kernel
  · exact ⟨fun c => by cases c <;> decide +kernel, fun n => by cases n <;> decide +kernel⟩
  · delta State.hoistRule; decide +kernel
  · exact ⟨by decide +kernel, by decide +kernel⟩
  · intro g c e
    have all : ∀ g, ((damBusy.gate g).context.all (fun c => damBusy.inWindow g c.target)) = true := by decide +kernel
    have here := all g
    rw [e] at here
    simpa using here
  · intro h
    have slots : ∀ h, ((damBusy.hoist h).slot.all (fun sl => decide (sl.setpoint.command = .move →
        0 ≤ sl.setpoint.target ∧ sl.setpoint.target ≤ 12000))) = true := by decide +kernel
    have lasts : ∀ h, ((damBusy.hoist h).lastPosted.all (fun sp => decide (sp.command = .move →
        0 ≤ sp.target ∧ sp.target ≤ 12000))) = true := by decide +kernel
    have a := slots h
    have b := lasts h
    constructor
    · intro sl e
      rw [e] at a
      exact of_decide_eq_true a
    · intro sp e
      rw [e] at b
      exact of_decide_eq_true b
  · intro e
    exact absurd e (by decide +kernel)
  · delta State.engineerRule; decide +kernel
  · refine ⟨by decide +kernel, by decide +kernel, by decide +kernel, by decide +kernel⟩

/-- In LOCKOUT, gate 3 in service with a STOP in each slot; a command waits. -/
def damLocked : State :=
  let stop : Setpoint := ⟨.stop, 2984, .creep⟩
  { inDevice .lockout (withSlot 7 stop 42#8 0 .sent (withSlot 6 stop 41#8 0 .sent (damIn .hold))) with
    pending := [.refreshTimerExpiry 6] }

/-- The second part of `MotionNeedsRunAndRelease`. -/
theorem witness_LockoutHoldsStops :
    damLocked.serviceRule ∧ damLocked.lockoutStopRule ∧ damLocked.sup.device = .lockout ∧
      (damLocked.gate (gateOf 6)).mode ≠ .off ∧ ∃ t, step damLocked = .next t := by
  refine ⟨⟨by decide +kernel, by decide +kernel⟩, ?_, by decide +kernel, by decide +kernel, _, rfl⟩
  intro _ h out
  have slots : ∀ h, ((damLocked.hoist h).slot.all (fun sl => decide (sl.setpoint.command = .stop))) = true := by
    decide +kernel
  have lasts : ∀ h, (damLocked.gate (gateOf h)).mode ≠ .off →
      (damLocked.hoist h).lastPosted = some ⟨.stop, 2984, .creep⟩ := by decide +kernel
  have a := slots h
  refine ⟨?_, _, lasts h out, rfl⟩
  intro sl e
  rw [e] at a
  simpa using a

/-- A frame with the longest payload, 15 words. -/
def longest : Frame := passing 90#8 91#8 8#4 (List.replicate 15 7#16)

theorem witness_FrameRoundTrip :
    longest.payload.length ≤ 15 ∧ parseFrame longest.words 0 = some longest := by decide +kernel

/-- No words; a stray bit; a wrong check word; an unbound, a short and an unreadable one. -/
theorem witness_UnusableFramesChangeNothing :
    checkedFrame [] 0 = none ∧ checkedFrame longest.words 1 = none ∧
    checkedFrame (longest.body ++ [longest.check ^^^ 1#16]) 0 = none ∧ dam.Settled ∧
    (let f := toPart 90#8 kindSetpoint [0x0102#16, 9500#16]
     dam.Arrives f.words 0 f ∧ f.dest = dam.ring.own ∧ f.kind ≠ kindSample ∧ f.kind ≠ kindHoistStatus ∧
       f.kind ≠ kindOrder ∧ f.kind ≠ kindManage) ∧
    (∀ f ∈ [toPart 0#8 kindManage [0x5000#16], toPart 255#8 kindManage [0x5000#16]],
      dam.Arrives f.words 0 f ∧ f.dest = dam.ring.own ∧ f.kind = kindManage ∧ (f.src = 0#8 ∨ f.src = 255#8)) ∧
    (∀ f ∈ [toPart 64#8 kindSample [1#16, 1#16, 1#16], toPart 21#8 kindSample [1#16, 1#16]],
      dam.Arrives f.words 0 f ∧ f.dest = dam.ring.own ∧ f.kind = kindSample ∧
        (dam.isLevelStation f.src = false ∨ f.payload.length < 3)) ∧
    ∀ f ∈ [toPart 21#8 kindHoistStatus [1#16, 1#16, 0#16], toPart 64#8 kindHoistStatus [1#16, 1#16],
        toPart 64#8 kindHoistStatus [1#16, 1#16, 0x0400#16]],
      dam.Arrives f.words 0 f ∧ f.dest = dam.ring.own ∧ f.kind = kindHoistStatus ∧
        (dam.hoistsAt f.src = [] ∨ f.payload.length < 3 ∨ 4 ≤ field (f.word 2) 8 3) := by
  delta State.Arrives State.Settled
  decide +kernel

theorem witness_OwnFrameStripped :
    let f := passing 37#8 12#8 kindReply [0#16]
    checkedFrame f.words 0 = some f ∧ f.src = dam.ring.own ∧ dam.Settled := by
  delta State.Settled
  decide +kernel

/-- A request from station 40 at a part whose intake holds `waiting` frames and whose report FIFO holds `reports`
reservations or notices. -/
def damIntake (waiting reports : Nat) (executing : Option Frame) : State :=
  let n : ReportEntry := .notice ⟨12#8, kindNotice, 1#8, [0#16]⟩
  dam.onReq (fun q =>
    { q with intake := List.replicate waiting (manage [0x5000#16]), executing := executing
             report := List.replicate reports n })

/-- Class NONE; a full intake, 4; one place left, with a request under way or a full report FIFO, 16; the last free
entry, for a listed and for an unlisted code. -/
theorem witness_RequestAdmitted :
    (let f := toPart 77#8 kindOrder [0x0103#16, 2#16]
     dam.Arrives f.words 0 f ∧ f.dest = dam.ring.own ∧ dam.Settled ∧ f.kind = kindOrder ∧ f.src ≠ 0#8 ∧
       f.src ≠ 255#8 ∧ dam.classOf f.src = .unheard) ∧
    (let f := toPart 40#8 kindOrder [0x0103#16, 2#16]
     f.src ≠ 0#8 ∧ f.src ≠ 255#8 ∧ dam.classOf f.src ≠ .unheard ∧ (requestName f).isSome = true ∧
     ∀ s ∈ [damIntake 4 15 (some f), damIntake 3 15 (some f), damIntake 3 16 none, damIntake 0 15 none],
       s.Arrives f.words 0 f ∧ f.dest = s.ring.own ∧ s.Settled) ∧
    (let f := toPart 40#8 kindManage [0xC000#16]
     (damIntake 0 15 none).Arrives f.words 0 f ∧ (damIntake 0 15 none).Settled ∧ requestName f = none ∧
       (damIntake 0 15 none).classOf f.src ≠ .unheard) := by
  delta State.Arrives State.Settled
  decide +kernel

/-- The transit FIFO of the dam. -/
def damTransit (n : Nat) (out : RingOut) : State :=
  dam.onRing (fun r => { r with transit := List.replicate n longest, out := out })

/-- The dam with the default pass action DROP. -/
def damDropping : State :=
  dam.onStore (fun t => { t with control := t.control.set 8 0b1101#16 })

/-- Entry 0 of the Pass Table with another action. -/
def damAction (code : Word) (s : State) : State :=
  s.onStore (fun t => { t with passActive := ⟨3, t.passActive.rows.set 0 code⟩ })

/-- DROP by entry 2; the default action, FORWARD and DROP; FORWARD by entry 0; a full FIFO, one with its last place
free, and an idle RING-OUT. -/
theorem witness_TransitFrameForwardedOrDropped :
    (let f := passing 12#8 210#8 kindOrder [0#16]
     dam.Arrives f.words 0 f ∧ f.dest ≠ dam.ring.own ∧ f.dest ≠ 255#8 ∧ dam.Settled ∧
       dam.decidingEntry f = some 2 ∧ (passEntry dam.store.passActive 2).action = some .drop) ∧
    (let f := passing 65#8 90#8 kindHoistStatus [0#16]
     (∀ s ∈ [damTransit 8 (.transit longest), damTransit 7 (.transit longest), dam],
       s.Arrives f.words 0 f ∧ f.dest ≠ s.ring.own ∧ s.Settled ∧ s.decidingEntry f = none ∧
         defaultDrop s.store.control = false) ∧
     dam.ring.transit = [] ∧ dam.ring.out = .idle ∧ dam.ownWaiting = false ∧
     damDropping.Arrives f.words 0 f ∧ damDropping.Settled ∧ damDropping.decidingEntry f = none ∧
       defaultDrop damDropping.store.control = true) ∧
    (let f := passing 90#8 65#8 kindSetpoint [0#16]
     let s := damAction 0x0000#16 dam
     s.Arrives f.words 0 f ∧ s.Settled ∧ s.decidingEntry f = some 0 ∧
       (passEntry s.store.passActive 0).action = some .forward) := by
  delta State.Arrives State.Settled
  decide +kernel

/-- SNOOP of a status at a full FIFO, and with its last place free; a broadcast frame of no data under the default action,
FORWARD and DROP. -/
theorem witness_TransitFrameJoins :
    (let f := passing 64#8 90#8 kindHoistStatus [2990#16, 300#16, 0#16]
     ∀ s ∈ [damTransit 8 (.transit longest), damTransit 7 (.transit longest)],
       s.Arrives f.words 0 f ∧ f.dest ≠ s.ring.own ∧ s.ring.out ≠ .idle ∧ s.decidingEntry f = some 1 ∧
         (passEntry s.store.passActive 1).action = some .snoop) ∧
    (let f := passing 90#8 255#8 8#4 [0#16]
     ∀ s ∈ [damTransit 7 (.transit longest), damDropping.onRing (fun r => { r with out := .transit longest })],
       s.Arrives f.words 0 f ∧ f.dest ≠ s.ring.own ∧ s.ring.out ≠ .idle ∧ s.decidingEntry f = none ∧
         f.kind ≠ kindSample ∧ f.kind ≠ kindHoistStatus ∧ s.Settled) ∧
    defaultDrop damDropping.store.control = true ∧ defaultDrop dam.store.control = false := by
  delta State.Arrives State.Settled
  decide +kernel

/-- Entry 0 widened to broadcast, under POLICE; RING-OUT busy, 7 frames held. -/
def damPolice (s : State) : State :=
  (s.onStore (fun t => { t with passActive := ⟨3, t.passActive.rows.set 1 0xFF40#16⟩ })).onRing
    (fun r => { r with transit := List.replicate 7 longest, out := .transit longest })

/-- The dam with no hoist mapped. -/
def damUnmapped : State := dam.onStore (fun t => { t with hoistMap := Vector.replicate 16 0#16 })

/-- STOP; MOVE to the window's upper end, 9000; one past it; a broadcast MOVE with no hoist mapped under HOLD; a
payload of one word; a command code of 3; a broadcast MOVE that every hoist may take. -/
theorem witness_SetpointPoliced :
    (∀ f ∈ [passing 90#8 65#8 kindSetpoint [0x0200#16, 0#16], passing 90#8 65#8 kindSetpoint [0x0102#16, 9000#16],
        passing 90#8 65#8 kindSetpoint [0x0102#16, 9001#16], passing 90#8 65#8 kindSetpoint [0x0102#16],
        passing 90#8 65#8 kindSetpoint [0x0300#16, 0#16], passing 90#8 255#8 kindSetpoint [0x0102#16, 200#16]],
      let s := damPolice dam
      s.Arrives f.words 0 f ∧ f.dest ≠ s.ring.own ∧ f.kind = kindSetpoint ∧ s.Settled ∧ s.ring.out ≠ .idle ∧
        s.ring.transit.length < 8 ∧ s.decidingEntry f = some 0 ∧
        (passEntry s.store.passActive 0).action = some .police ∧ (f.dest = 255#8 ∨ s.hoistsAt f.dest ≠ [])) ∧
    (let s := damPolice dam
     s.sup.device = .run ∧ s.sup.holdLine = false ∧ (∀ h, (s.gate (gateOf h)).mode = .off ∧
       recordValid (s.record (gateOf h)) = true ∧ lowerLimit (s.record (gateOf h)) ≤ 9000 ∧
       upperLimit (s.record (gateOf h)) = 9000)) ∧
    (let f := passing 90#8 255#8 kindSetpoint [0x0102#16, 200#16]
     let s := damPolice (held damUnmapped)
     s.Arrives f.words 0 f ∧ s.Settled ∧ s.ring.out ≠ .idle ∧ s.ring.transit.length < 8 ∧
       s.decidingEntry f = some 0 ∧ (passEntry s.store.passActive 0).action = some .police ∧
       allHoists.filter (fun h => s.driveOf h ≠ 0#8) = [] ∧ s.sup.holdLine = true) := by
  delta State.Arrives State.Settled
  decide +kernel

/-- A setpoint for no mapped drive, in RUN and in LOCKOUT; and a frame of another kind for a mapped drive. -/
theorem witness_OtherFramePoliced :
    (∀ s ∈ [damPolice dam, inDevice .lockout (damPolice dam)],
      let f := passing 90#8 200#8 kindSetpoint [0x0102#16, 200#16]
      s.Arrives f.words 0 f ∧ f.dest ≠ s.ring.own ∧ f.dest ≠ 255#8 ∧ s.hoistsAt f.dest = [] ∧ s.Settled ∧
        s.ring.out ≠ .idle ∧ s.ring.transit.length < 8 ∧ s.decidingEntry f = some 0 ∧
        (passEntry s.store.passActive 0).action = some .police) ∧
    (let s := damPolice (dam.onStore (fun t => { t with passActive := ⟨3, t.passActive.rows.set 2 0xFFFF#16⟩ }))
     let f := passing 90#8 65#8 8#4 []
     s.Arrives f.words 0 f ∧ f.kind ≠ kindSetpoint ∧ s.Settled ∧ s.decidingEntry f = some 0 ∧
       (passEntry s.store.passActive 0).action = some .police) := by
  delta State.Arrives State.Settled
  decide +kernel

/-- A broadcast of a kind the part does not read, in RUN and in LOCKOUT with 7 frames held and in RUN with 8; and a
HOIST-STATUS that the part takes first. -/
theorem witness_BroadcastPoliced :
    let police := fun (s : State) => damPolice (s.onStore (fun t => { t with passActive := ⟨3, t.passActive.rows.set 2 0xFFFF#16⟩ }))
    (∀ s ∈ [police dam, inDevice .lockout (police dam),
        (police dam).onRing (fun r => { r with transit := List.replicate 8 longest })],
      ∀ f ∈ [passing 90#8 255#8 8#4 [0#16], passing 64#8 255#8 kindHoistStatus [2990#16, 300#16, 0#16]],
      s.Arrives f.words 0 f ∧ f.dest ≠ s.ring.own ∧ f.dest = 255#8 ∧ f.kind ≠ kindSetpoint ∧ s.ring.out ≠ .idle ∧
        s.decidingEntry f = some 0 ∧ (passEntry s.store.passActive 0).action = some .police) ∧
    (police dam).Settled ∧ (inDevice .lockout (police dam)).Settled := by
  delta State.Arrives State.Settled
  decide +kernel

/-- The end of a transmission: nothing waits; a transit frame alone; N = 0; the count one below N and at N = 2; a
reply and a notice with the post queue empty; the end of a post whose slot has been merged meanwhile. -/
theorem witness_ArbiterTable :
    let x := longest
    let reply : ReportEntry := .reply ⟨12#8, kindReply, 5#8, [0#16]⟩
    let notice : ReportEntry := .notice ⟨12#8, kindNotice, 1#8, [0#16]⟩
    let own := fun (e : ReportEntry) (s : State) => s.onReq (fun q => { q with report := [e] })
    let none0 := damTransit 0 (.transit x)
    (none0.Settled ∧ none0.ring.transit = [] ∧ none0.ownWaiting = false) ∧
    ((damTransit 1 (.report x)).Settled ∧ (damTransit 1 (.report x)).ownWaiting = false) ∧
    (let s := (damSharing 0).onStore (fun t => { t with control := t.control.set 9 0#16 })
     s.Settled ∧ s.ring.transit ≠ [] ∧ s.ownWaiting = true ∧ rotation s.store.control = 0) ∧
    ((damSharing 1).Settled ∧ (damSharing 1).ownWaiting = true ∧
      (damSharing 1).ring.consecutive < rotation (damSharing 1).store.control) ∧
    (let s := damSharing 2
     s.Settled ∧ s.ownWaiting = true ∧ rotation s.store.control ≠ 0 ∧ rotation s.store.control ≤ s.ring.consecutive ∧
       s.post.queue = 4 :: [5] ∧ (s.hoist 4).slot.isSome = true) ∧
    (let s := (withSlot 6 ⟨.stop, 0, .creep⟩ 41#8 0 .waiting dam).onRing (fun r => { r with out := .post 6 x })
     s.Settled ∧ 6 ∈ s.post.queue ∧ (s.hoist 6).phase = some .waiting ∧ s.ownWaiting = true) ∧
    ∀ e ∈ [reply, notice], (own e none0).Settled ∧ (own e none0).ownWaiting = true ∧ (own e none0).ring.transit = [] ∧
      (own e none0).post.queue = [] ∧ (own e none0).req.report = e :: [] := by
  delta State.Settled
  decide +kernel

/-- The slot still holds the frame's tag, and it holds another; and it waits again, merged meanwhile. -/
theorem witness_PostCompletionStartsAckTimer :
    (∀ x ∈ [sealFrame 37#8 ⟨64#8, kindSetpoint, 41#8, []⟩, sealFrame 37#8 ⟨64#8, kindSetpoint, 43#8, []⟩],
      let s := (withSlot 6 ⟨.move, 2670, .normal⟩ 41#8 0 .sending dam).onRing (fun r => { r with out := .post 6 x })
      6 ∉ s.post.queue ∧ s.ring.out = .post 6 x ∧
        (s.hoist 6).phase = some .sending ∧ (s.hoist 6).slot.map Slot.tag = some 41#8) ∧
    let s := (withSlot 6 ⟨.stop, 2984, .creep⟩ 42#8 0 .waiting dam).onRing (fun r =>
      { r with out := .post 6 (sealFrame 37#8 ⟨64#8, kindSetpoint, 41#8, []⟩) })
    6 ∈ s.post.queue ∧ (s.hoist 6).phase = some .waiting := by decide +kernel

/-- 12 notices, RING-OUT busy and nothing to execute: no notice finds room. -/
def noRoom (s : State) : State :=
  { s with req := { s.req with report := List.replicate 12 (.notice ⟨12#8, kindNotice, 9#8, [0x0700#16]⟩) }
           ring := { s.ring with out := .transit longest } }

/-- A stopped timer; one that ages the side's first of two FRESH channels; one that leaves the side STALE, with room
for the notice, with 12 notices held, and with no notice destination. -/
theorem witness_AgeTimerAgesChannel :
    ((damLevels.levels.channel .u2).ageTimer = none ∧ damLevels.Settled) ∧
    ((damLevels.levels.channel .d1).ageTimer.isSome = true ∧ (damLevels.levels.channel .d2).state = .fresh) ∧
    ((damLevels.levels.channel .u1).ageTimer.isSome = true ∧ (damLevels.levels.channel .u2).state ≠ .fresh ∧
      damLevels.levels.up.formed = true ∧ damLevels.levels.up.state ≠ .stale ∧ damLevels.NoticeRoom) ∧
    (¬(noRoom damLevels).NoticeRoom ∧ noticeDest (noRoom damLevels).store.control ≠ 0#8 ∧ (noRoom damLevels).Settled) ∧
    noticeDest (damLevels.onStore (fun t => { t with control := t.control.set 0 0#16 })).store.control = 0#8 := by
  delta State.Settled State.NoticeRoom
  decide +kernel

/-- A fine sample for U2 at the agree limit, 50 mm, and past it: the mean, and the lower of the two; for D1, where D2
is FRESH, past it: the higher; for U1 alone; a coarse one for U2. -/
theorem witness_GoodSampleFormsLevels :
    (∀ f ∈ [toPart 24#8 kindSample [2225#16, 0#16, 1#16], toPart 24#8 kindSample [2226#16, 0#16, 1#16],
        toPart 21#8 kindSample [1301#16, 0#16, 1#16], toPart 23#8 kindSample [2190#16, 0#16, 1#16],
        toPart 24#8 kindSample [0#16, 227#16, 0#16]],
      damLevels.Arrives f.words 0 f ∧ f.dest = damLevels.ring.own ∧ f.kind = kindSample ∧ f.src ≠ 0#8 ∧
        3 ≤ f.payload.length ∧ (f.word 2).getLsbD 1 = false ∧
        (binding damLevels.store.control .u1 = f.src ∨ binding damLevels.store.control .u2 = f.src ∨
          binding damLevels.store.control .d1 = f.src)) ∧
    (let up := fun (w : Word) => (after (exec (arrives (toPart 24#8 kindSample [w, 0#16, 1#16])) damLevels)).levels.up
     ((up 2225#16).level, (up 2225#16).disagree) = (2200, false) ∧
     ((up 2226#16).level, (up 2226#16).disagree) = (2175, true)) ∧
    (let x := (after (exec (arrives (toPart 21#8 kindSample [1301#16, 0#16, 1#16])) damLevels)).levels.down
     (x.level, x.disagree) = (1301, true)) := by
  delta State.Arrives
  decide +kernel

/-- SNOOP of every sample. -/
def damSnooping (s : State) : State :=
  s.onStore (fun t => { t with passActive := ⟨3, ((t.passActive.rows.set 0 0x0100#16).set 1 0xFF01#16).set 2 2#16⟩ })

/-- The same sample broadcast and under SNOOP; both sides are VALID then. -/
theorem witness_GoodSampleTaken :
    ∀ dest ∈ [255#8, 90#8], let f := passing 23#8 dest kindSample [2190#16, 0#16, 1#16]
      let s := damSnooping damLevels
      s.Arrives f.words 0 f ∧ (f.dest = 255#8 ∨ s.decidingEntry f = some 0) ∧
        (passEntry s.store.passActive 0).action = some .snoop ∧ binding s.store.control .u1 = f.src ∧
        s.sup.device = .run ∧ (after (exec (arrives f) s)).levels.bothValid = true := by
  delta State.Arrives
  decide +kernel

/-- One side STALE, and both, with U1 and D1 bound to one station; room for two notices, 10 of 12 held. -/
theorem witness_SampleSideStateNoticed :
    let f := toPart 23#8 kindSample [2190#16, 0#16, 1#16]
    let s := damLevels.onLevels (fun l => { l with up := { l.up with state := .stale } })
    let both := (s.onStore (fun t => { t with control := t.control.set 3 23#16 })).onLevels (fun l =>
      { l with down := { l.down with state := .noData } })
    let crowded := fun (x : State) =>
      x.onReq (fun q => { q with report := List.replicate 10 (.notice ⟨12#8, kindNotice, 9#8, [0x0700#16]⟩) })
    (∀ x ∈ [s, crowded both], x.Arrives f.words 0 f ∧ f.dest = x.ring.own ∧ f.kind = kindSample ∧ f.src ≠ 0#8 ∧
      3 ≤ f.payload.length ∧ (f.word 2).getLsbD 1 = false ∧ binding x.store.control .u1 = f.src ∧
      x.levels.up.state ≠ .valid ∧ x.NoticeRoom ∧ x.TwoNoticesRoom) ∧
    (s.channelsAt f.src = [.u1] ∧ s.levels.down.state = .valid) ∧
    both.channelsAt f.src = [.u1, .d1] ∧ both.levels.down.state ≠ .valid := by
  delta State.Arrives State.NoticeRoom State.TwoNoticesRoom
  decide +kernel

/-- HA of HEAD at 0 mm, its group enabled: a sample of 2190 for U1 sets the flag, and no flag of a level rises. -/
theorem witness_HeadAlarmNoticed :
    let f := toPart 23#8 kindSample [2190#16, 0#16, 1#16]
    let s := damLevels.onStore (fun t =>
      { t with thresholds := t.thresholds.set 8 0#16, control := t.control.set 14 0x100#16 })
    let t := after (exec (arrives f) s)
    s.Arrives f.words 0 f ∧ f.dest = s.ring.own ∧ f.kind = kindSample ∧ f.src ≠ 0#8 ∧ 3 ≤ f.payload.length ∧
      (f.word 2).getLsbD 1 = false ∧ binding s.store.control .u1 = f.src ∧ s.levels.bothValid = true ∧ s.NoticeRoom ∧
      (∀ g, (s.gate g).mode ≠ .auto ∧ (s.gate g).mode ≠ .flood) ∧ s.monitor.head.flags.ha = false ∧
      t.monitor.head.flags.ha = true ∧ t.monitor.up.flags.ha = false ∧ t.monitor.up.flags.la = false ∧
      t.monitor.down.flags.ha = false ∧ t.monitor.down.flags.la = false := by
  delta State.Arrives State.NoticeRoom
  decide +kernel

/-- HA of LEVEL-U at 2189 mm, its group enabled, the downstream side STALE: a sample of 2190 for U1 sets the flag. -/
theorem witness_LevelAlarmNoticed :
    let f := toPart 23#8 kindSample [2190#16, 0#16, 1#16]
    let s := (damLevels.onStore (fun t =>
      { t with thresholds := t.thresholds.set 0 2189#16, control := t.control.set 14 1#16 })).onLevels (fun l =>
        { l with down := { l.down with state := .stale } })
    s.Arrives f.words 0 f ∧ f.dest = s.ring.own ∧ f.kind = kindSample ∧ f.src ≠ 0#8 ∧ 3 ≤ f.payload.length ∧
      (f.word 2).getLsbD 1 = false ∧ binding s.store.control .u1 = f.src ∧ s.channelsAt f.src = [.u1] ∧
      s.levels.up.state = .valid ∧ s.levels.down.state ≠ .valid ∧ s.NoticeRoom ∧ s.monitor.up.flags.ha = false ∧
      (after (exec (arrives f) s)).monitor.up.flags.ha = true := by
  delta State.Arrives State.NoticeRoom
  decide +kernel

/-- Addressed to the part, broadcast, and under SNOOP. -/
theorem witness_FaultSampleFormsNothing :
    ∀ dest ∈ [37#8, 255#8, 90#8], let f := passing 21#8 dest kindSample [0#16, 0#16, 2#16]
      let s := damSnooping damLevels
      s.Arrives f.words 0 f ∧ (f.dest = s.ring.own ∨ f.dest = 255#8 ∨ s.decidingEntry f = some 0) ∧
        (passEntry s.store.passActive 0).action = some .snoop ∧ f.kind = kindSample ∧ f.src ≠ 0#8 ∧
        3 ≤ f.payload.length ∧ (f.word 2).getLsbD 1 = true := by
  delta State.Arrives
  decide +kernel

theorem witness_SampleMovesNoGateOutsideRun :
    let f := passing 21#8 255#8 kindSample [1234#16, 0#16, 1#16]
    let s := inDevice .lockout damLevels
    checkedFrame f.words 0 = some f ∧ f.kind = kindSample ∧ s.sup.device ≠ .run := by decide +kernel

/-- The shortest and the longest schedule; a level below the table, at its last row, one below that; a remainder of 0
and of 199; rows that fall and rows that rise; a FLOOD gate; an AUTO gate with and without the pool alarm. -/
theorem witness_AutomaticTargetArithmetic :
    (2 ≤ 2 ∧ 2 ≤ 64 ∧ (-4001 : Int) < -4000 ∧ ((40 : Int) - 1) * 200 ≤ 3800 + 4000 ∧
      (3799 : Int) + 4000 < ((40 : Int) - 1) * 200 ∧ (stageIndex (some 63) 40 0).1 = 39) ∧
    (∀ r ∈ [(0 : Int), 199], 0 ≤ r ∧ r < 200 ∧ 26 + 1 < scheduleLength exampleSchedule) ∧
    baseRow exampleSchedule 27 ≤ baseRow exampleSchedule 26 ∧ baseRow exampleSchedule 9 ≤ baseRow exampleSchedule 10 ∧
    lowerLimit (dam.record 3) ≤ upperLimit (dam.record 3) ∧ ((damIn .flood).gate 3).mode = .flood ∧
    ((damIn .auto).gate 3).mode ≠ .flood ∧ floodOnPoolAlarm (damIn .auto).store.control = false ∧
    (let s := (damIn .auto).onStore (fun t =>
       { t with control := t.control.set 8 0b1011#16, thresholds := t.thresholds.set 0 2179#16 })
     floodOnPoolAlarm s.store.control = true ∧ threshold s.store.thresholds .levelU 0 < 2180) := by decide +kernel

/-- Gate 3 IDLE with both hoists at a position. -/
def damAt (m : Mode) (position : Int) : State :=
  ((damIn m).onHoist 6 (fun x => { x with position := position })).onHoist 7 (fun x => { x with position := position })

/-- The closure condition at its boundary, U = D + M: a move in flight, elsewhere and to the lower limit; a gate IDLE at
its lower limit, free to issue, held, and within the tolerance, 10 mm; one STOPPING; one FAULTED; and a gate in MANUAL,
which is not taken up. -/
theorem witness_ReverseHeadClosesGates :
    (1542 : Int) ≤ 1242 + headMargin (dam.scheduleOf 3) ∧ lowerLimit (dam.record 3) = 200 ∧
    (∀ s ∈ [damMoving .auto 2670 .auto, damMoving .auto 200 .closure,
        (damIn .auto).onGate 3 (fun x => { x with standing := 200 }), damIn .auto, held (damIn .auto),
        damAt .auto 210, damStopping, damFaulted .faulted none],
      s.sup.device = .run ∧ (s.gate 3).motionRule ∧ s.takenUp 3 = true ∧ s.NoticeRoom ∧
        ((s.gate 3).mode = .auto ∧ (s.gate 3).queue = [])) ∧
    ((damMoving .auto 2670 .auto).gate 3).aim ≠ 200 ∧ ((damMoving .auto 200 .closure).gate 3).aim = 200 ∧
    ((damIn .auto).gate 3).standing ≠ 200 ∧ ¬(damIn .auto).HeldFromIssue 3 ∧ (held (damIn .auto)).HeldFromIssue 3 ∧
    (damAt .auto 210).withinTolerance 3 200 = true ∧ (damIn .auto).withinTolerance 3 200 = false ∧
    ((damFaulted .faulted none).gate 3).faulty = true ∧ (damIn .manual).takenUp 3 = false := by
  delta Gate.motionRule State.NoticeRoom State.HeldFromIssue
  decide +kernel

/-- No closure condition, U = D + M + 1: a target 39 and 40 mm from the aim, the deadband being 40; a faulted gate; an
entry that the tide-closed flag holds back; the target to be queued under HOLD, issued, and within tolerance. -/
theorem witness_AutomaticOutcomes :
    let aims := fun (n : Int) (s : State) => s.onGate 3 (fun x => { x with standing := s.autoTarget 3 1543 1242 - n })
    let waits := (aims 39 (damIn .auto)).onGate 3 (fun x =>
      { x with tideClosed := true, queue := [⟨.auto, .absolute, 2670, some .normal⟩] })
    (1242 : Int) + headMargin (dam.scheduleOf 3) < 1543 ∧ deadband (dam.scheduleOf 3) = 40 ∧
    (∀ s ∈ [aims 39 (damIn .auto), aims 40 (damIn .auto), aims 40 (held (damIn .auto)), waits,
        aims 40 (damAt .auto ((damIn .auto).autoTarget 3 1543 1242)), damFaulted .faulted none],
      s.sup.device = .run ∧ (s.gate 3).motionRule ∧ s.takenUp 3 = true ∧ (s.gate 3).mode = .auto ∧
        (s.gate 3).queue.length ≤ 1 ∧ ((s.gate 3).queue.all (fun e => decide (e.origin = .auto))) = true) ∧
    ¬waits.HeldFromIssue 3 ∧ waits.inWindow 3 2670 = true ∧ waits.withinTolerance 3 2670 = false ∧
    (aims 40 (held (damIn .auto))).HeldFromIssue 3 ∧ ¬(aims 40 (damIn .auto)).HeldFromIssue 3 ∧
    lowerLimit (dam.record 3) ≤ upperLimit (dam.record 3) := by
  delta Gate.motionRule State.HeldFromIssue
  decide +kernel

/-- A status. -/
def status (dest src : Byte) (position load : Word) (drive : Nat) (tag : Nat) : Frame :=
  passing src dest kindHoistStatus [position, load, BitVec.ofNat 16 (256 * drive + tag)]

/-- Addressed to the part with figures past the clamps, 16001 mm and 4001 kN; broadcast; under SNOOP. -/
theorem witness_HoistStatusRecorded :
    ∀ f ∈ [status 37#8 64#8 16001#16 4001#16 0 0, status 255#8 64#8 3000#16 300#16 1 0,
        status 90#8 64#8 3000#16 300#16 0 0],
      dam.Arrives f.words 0 f ∧ f.kind = kindHoistStatus ∧ (readStatus f).isSome = true ∧
        dam.hoistsAt f.src = [6] ∧
        (f.dest = dam.ring.own ∨ f.dest = 255#8 ∨
          (dam.decidingEntry f = some 1 ∧ (passEntry dam.store.passActive 1).action = some .snoop)) := by
  delta State.Arrives
  decide +kernel

/-- The premises of `State.StatusReaches` as a test. -/
def reachesPart (s : State) (f : Frame) (d : StatusData) (h : HoistNo) : Bool :=
  decide (checkedFrame f.words 0 = some f ∧ f.src ≠ s.ring.own ∧ f.kind = kindHoistStatus ∧ readStatus f = some d ∧
      s.hoistsAt f.src = [h]) &&
    (decide (f.dest = s.ring.own ∨ f.dest = 255#8) ||
      (s.decidingEntry f).any (fun e => decide ((passEntry s.store.passActive e).action = some .snoop)))

theorem reachesPart_sound (s : State) (f : Frame) (d : StatusData) (h : HoistNo) (e : reachesPart s f d h = true) :
    s.StatusReaches f.words 0 f d h := by
  simp only [reachesPart, Bool.and_eq_true, decide_eq_true_eq, Bool.or_eq_true, Option.any_eq_true] at e
  obtain ⟨⟨a, b, c, k, l⟩, m⟩ := e
  refine ⟨⟨a, b⟩, c, k, l, ?_⟩
  rcases m with (m | m) | ⟨i, hi, m⟩
  · exact .inl m
  · exact .inr (.inl m)
  · exact .inr (.inr ⟨i, hi, m⟩)

/-- A load of 901 kN against the HA threshold, 900, its group enabled, at a gate in OFF. -/
theorem witness_LoadAlarmNoticed :
    let f := status 37#8 64#8 2984#16 901#16 0 0
    let s := dam.onStore (fun t => { t with control := t.control.set 14 0x1000#16 })
    reachesPart s f ⟨2984, 901, .still, 0#8⟩ 6 = true ∧ (s.gate (gateOf 6)).mode = .off ∧ s.NoticeRoom ∧
      (s.hoist 6).monitor.flags.ha = false ∧ groupEnabled s.store.control .load 0 = true := by
  delta State.NoticeRoom
  decide +kernel

/-- 7.7, step 8, with gate 3 in HOLD: tag 44 is acknowledged, addressed to the part and broadcast, the load at the HA
threshold, 900. -/
theorem witness_AcknowledgementMatched :
    ∀ dest ∈ [37#8, 255#8], let f := status dest 65#8 3041#16 900#16 0 44
      let s := withSlot 7 ⟨.stop, 3041, .creep⟩ 44#8 0 .sent (damIn .hold)
      reachesPart s f ⟨3041, 900, .still, 44#8⟩ 7 = true ∧ (f.dest = s.ring.own ∨ f.dest = 255#8) ∧
        (s.gate (gateOf 7)).mode = .hold ∧ (s.gate (gateOf 7)).motion = .idle ∧ (s.gate (gateOf 7)).queue = [] ∧
        (s.gate (gateOf 7)).closurePending = false ∧ s.sup.device = .run ∧
        s.LoadCalm 7 ⟨3041, 900, .still, 44#8⟩ ∧
        (s.hoist 7).slot = some ⟨⟨.stop, 3041, .creep⟩, 65#8, 44#8, 0, .sent, some 100⟩ := by
  delta State.LoadCalm State.Overloads State.Slackens
  decide +kernel

/-- The slot's tag under SNOOP; tag 0 and another tag, addressed to the part; and an empty slot. -/
theorem witness_AcknowledgementNotMatched :
    ∀ p ∈ [(90#8, 44, true), (37#8, 0, true), (37#8, 43, true), (37#8, 44, false)],
      let f := status p.1 64#8 3041#16 300#16 0 p.2.1
      let d : StatusData := ⟨3041, 300, .still, BitVec.ofNat 8 p.2.1⟩
      let s := if p.2.2 then withSlot 6 ⟨.stop, 3041, .creep⟩ 44#8 0 .sent (damIn .hold) else damIn .hold
      reachesPart s f d 6 = true ∧ (s.gate (gateOf 6)).mode = .hold ∧ (s.gate (gateOf 6)).motion = .idle ∧
        (s.gate (gateOf 6)).queue = [] ∧ (s.gate (gateOf 6)).closurePending = false ∧ s.LoadCalm 6 d ∧
        ((f.dest ≠ s.ring.own ∧ f.dest ≠ 255#8) ∨ d.ackTag = 0#8 ∨ (s.hoist 6).slot.map Slot.tag ≠ some d.ackTag) := by
  delta State.LoadCalm State.Overloads State.Slackens
  decide +kernel

/-- A target that hoist 7 at 2975 misses by 5 and hoist 6 reaches from above by the tolerance, 10 mm; the load at the LA
threshold, 20. -/
theorem witness_ArrivalCompletesMove :
    let f := status 37#8 64#8 2990#16 20#16 0 0
    let d : StatusData := ⟨2990, 20, .still, 0#8⟩
    let s := damMoving .manual 2980 (.order 12#8 5#8)
    let u := s.withStatus 6 d
    reachesPart s f d 6 = true ∧ gateOf 6 = 3 ∧ (s.gate 3).mode ≠ .off ∧ (s.gate 3).inFlight = true ∧
      (s.gate 3).context = some ⟨2980, .normal, .order 12#8 5#8, true⟩ ∧ (s.gate 3).queue = [] ∧
      (s.gate 3).closurePending = false ∧ s.sup.device = .run ∧ s.LoadCalm 6 d ∧ u.bothStill 3 = true ∧
      |u.skew 3| ≤ skewAlarm (s.record 3) ∧ u.withinTolerance 3 2980 = true ∧ s.NoticeRoom := by
  delta State.NoticeRoom State.LoadCalm State.Overloads State.Slackens
  decide +kernel

/-- The reporting drive STILL, in RUN, and in DRAIN, where nothing is issued; and one that runs on. -/
theorem witness_RestEndsStop :
    (∀ s ∈ [damStopping, inDevice .drain damStopping], ∀ p ∈ [(0, Drive.still), (1, .running)],
      let f := status 37#8 64#8 2990#16 300#16 p.1 0
      let d : StatusData := ⟨2990, 300, p.2, 0#8⟩
      reachesPart s f d 6 = true ∧ gateOf 6 = 3 ∧ (s.gate 3).mode ≠ .off ∧ (s.gate 3).motion = .stopping ∧
        s.LoadCalm 6 d ∧ (s.withStatus 6 d).bothAtRest 3 = decide (p.2 = .still)) ∧
    (damStopping.gate 3).queue = [] ∧ (damStopping.gate 3).closurePending = false := by
  delta State.LoadCalm State.Overloads State.Slackens
  decide +kernel

/-- Gate 3 in TRIM, hoist 6 stopped. -/
def damTrim : State :=
  (damMoving .auto 4200 .auto).onGate 3 (fun x => { x with motion := .trim, trimHoist := some 6 })

/-- Hoist 7 standing at 2975: a skew of 30, the trim threshold, and of 31; in TRIM of 10, the trim release, and of 11. -/
theorem witness_SkewTrimsGate :
    ∀ p ∈ [(damMoving .auto 4200 .auto, 3005), (damMoving .auto 4200 .auto, 3006), (damTrim, 2985), (damTrim, 2986)],
      let f := status 37#8 64#8 (BitVec.ofNat 16 p.2) 300#16 1 0
      let d : StatusData := ⟨p.2, 300, .running, 0#8⟩
      let s := p.1
      reachesPart s f d 6 = true ∧ gateOf 6 = 3 ∧ (s.gate 3).mode ≠ .off ∧ (s.gate 3).inFlight = true ∧
        (s.gate 3).context = some ⟨4200, .normal, .auto, true⟩ ∧ s.sup.device = .run ∧ s.LoadCalm 6 d ∧
        |(s.withStatus 6 d).skew 3| ≤ skewAlarm (s.record 3) ∧ (s.withStatus 6 d).bothStill 3 = false ∧
        (s.withStatus 6 d).skew 3 = p.2 - 2975 ∧ trimThreshold (s.record 3) = 30 ∧ trimRelease (s.record 3) = 10 := by
  delta State.LoadCalm State.Overloads State.Slackens
  decide +kernel

/-- A skew of 61 against an alarm of 60, as a resumed move's 65 in 9.9. -/
theorem witness_SkewFaultsGate :
    let f := status 37#8 64#8 3036#16 300#16 1 0
    let d : StatusData := ⟨3036, 300, .running, 0#8⟩
    let s := damMoving .auto 4200 .auto
    let u := s.withStatus 6 d
    reachesPart s f d 6 = true ∧ gateOf 6 = 3 ∧ (s.gate 3).mode ≠ .off ∧ (s.gate 3).inFlight = true ∧
      (s.gate 3).context = some ⟨4200, .normal, .auto, true⟩ ∧ (s.gate 3).save.resumed = false ∧
      faultResponse s.store.control = true ∧ skewAlarm (s.record 3) < |u.skew 3| ∧ u.skew 3 = 61 ∧ s.LoadCalm 6 d := by
  delta State.LoadCalm State.Overloads State.Slackens
  decide +kernel

/-- FAULT at an IDLE gate and at a moving one; LOCAL at a moving one and at an IDLE one. -/
theorem witness_DriveStateFaultsGate :
    ∀ s ∈ [damIn .auto, damMoving .auto 4200 .auto], ∀ p ∈ [(2, Drive.fault), (3, .takenLocal)],
      let f := status 37#8 64#8 2984#16 300#16 p.1 0
      let d : StatusData := ⟨2984, 300, p.2, 0#8⟩
      reachesPart s f d 6 = true ∧ gateOf 6 = 3 ∧ (s.gate 3).mode ≠ .off ∧ s.LoadCalm 6 d ∧
        (s.gate 3).faulty = false ∧ (s.gate 3).save.resumed = false ∧ faultResponse s.store.control = true ∧
        ((s.gate 3).inFlight = true ∨ (s.gate 3).motion = .idle) := by
  delta State.LoadCalm State.Overloads State.Slackens
  decide +kernel

/-- Loads of 901 and 19 kN, past the alarm thresholds 900 and 20, at an IDLE gate, a moving one and one that stops; and,
with LA at 950, a load of 901, which is past both. -/
theorem witness_LoadFaultsGate :
    (∀ s ∈ [damIn .auto, damMoving .auto 4200 .auto, damStopping], ∀ load ∈ [901, 19],
      let f := status 37#8 64#8 2984#16 (BitVec.ofNat 16 load) 1 0
      let d : StatusData := ⟨2984, load, .running, 0#8⟩
      let u := s.withStatus 6 d
      reachesPart s f d 6 = true ∧ gateOf 6 = 3 ∧ (s.gate 3).mode ≠ .off ∧ (s.gate 3).faulty = false ∧
        |u.skew 3| ≤ skewAlarm (s.record 3) ∧ |u.skew 3| ≤ trimThreshold (s.record 3) ∧
        (s.gate 3).motion ≠ .trim ∧ (s.gate 3).save.resumed = false ∧ faultResponse s.store.control = true ∧
        (s.hoist 6).settleTimer = none ∧ u.bothStill 3 = false ∧ ((u.hoist 6).load = 901 ∨ (u.hoist 6).load = 19)) ∧
    dam.Overloads 901 ∧ ¬dam.Overloads 900 ∧ dam.Slackens 19 ∧ ¬dam.Slackens 20 ∧
    (dam.onStore (fun t => { t with thresholds := t.thresholds.set 15 950#16 })).Slackens 901 := by
  delta State.Overloads State.Slackens
  decide +kernel

/-- A gate in FAULT-STOPPING and in FAULTED: STILL with a load of 901, FAULT, and RUNNING with a load of 19; it recovers
at a skew of 30, the trim threshold, and not at 31. -/
theorem witness_FaultedGateTakesStatus :
    (∀ m ∈ [Motion.faultStopping, .faulted],
      ∀ p ∈ [(0, Drive.still, 3005, 901), (0, .still, 3006, 300), (2, .fault, 3005, 300), (1, .running, 3005, 19)],
      let f := status 37#8 64#8 (BitVec.ofNat 16 p.2.2.1) (BitVec.ofNat 16 p.2.2.2) p.1 0
      let s := damFaulted m none
      reachesPart s f ⟨p.2.2.1, p.2.2.2, p.2.1, 0#8⟩ 6 = true ∧ gateOf 6 = 3 ∧ (s.gate 3).mode ≠ .off ∧
        (s.gate 3).faulty = true ∧ (s.hoist 6).settleTimer = none) ∧
    (((damFaulted .faultStopping none).withStatus 6 ⟨3005, 901, .still, 0#8⟩).bothStill 3 = true ∧
      ((damFaulted .faultStopping none).withStatus 6 ⟨3005, 901, .still, 0#8⟩).skew 3 = 30 ∧
      trimThreshold (dam.record 3) = 30) := by decide +kernel

/-- The exhaustion action KEEP. -/
def damKeep (s : State) : State := s.onStore (fun t => { t with control := t.control.set 8 1#16 })

/-- A second try, the retry limit being 2, and one past it under KEEP. -/
theorem witness_AckTimerRetries :
    ((damSilent 1).hoist 6).phase = some .sent ∧
    ((damSilent 1).hoist 6).slot.map Slot.ackTimer = some (some 100) ∧
    min 255 (1 + 1) ≤ retryLimit (damSilent 1).store.control ∧
    retryLimit (damKeep (damSilent 2)).store.control < min 255 (2 + 1) ∧
    abandonAction (damKeep (damSilent 2)).store.control = false := by decide +kernel

/-- One try past the limit under ABANDON, in RUN and in DRAIN; and an empty slot. -/
theorem witness_AckTimerAbandons :
    (∀ s ∈ [damSilent 2, inDevice .drain (damSilent 2)], (s.hoist 6).phase = some .sent ∧
      (s.hoist 6).slot.map Slot.ackTimer = some (some 100) ∧ (s.hoist 6).slot.map Slot.tries = some 2 ∧
      retryLimit s.store.control < min 255 (2 + 1) ∧ abandonAction s.store.control = true) ∧
    (let s := damSilent 2
     s.sup.device ≠ .drain ∧ (s.gate (gateOf 6)).mode ≠ .off ∧ (s.gate (gateOf 6)).faulty = false ∧
       (s.gate (gateOf 6)).save.resumed = false ∧ faultResponse s.store.control = true) ∧
    (dam.hoist 6).slot = none ∧ dam.Settled := by
  delta State.Settled
  decide +kernel

/-- A stopped timer; a MOVE re-posted in RUN; a MOVE not re-posted under HOLD. -/
theorem witness_RefreshRepostsLastSetpoint :
    let s := (damIn .auto).onHoist 6 (fun x =>
      { x with lastPosted := some ⟨.move, 2670, .normal⟩, refreshTimer := some 1000 })
    ((dam.hoist 6).refreshTimer = none ∧ dam.Settled) ∧
    ((s.hoist 6).refreshTimer.isSome = true ∧ (s.hoist 6).lastPosted = some ⟨.move, 2670, .normal⟩ ∧
      (s.gate (gateOf 6)).mode ≠ .off ∧ (s.hoist 6).slot = none ∧ s.sup.device = .run ∧ s.sup.holdLine = false) ∧
    (((held s).hoist 6).refreshTimer.isSome = true ∧ (held s).sup.holdLine = true ∧ (held s).Settled) := by
  delta State.Settled
  decide +kernel

theorem witness_MoveTimerFaultsGate :
    ((dam.gate 3).moveTimer = none ∧ dam.Settled) ∧
    (let s := damMoving .manual 3150 (.order 12#8 5#8)
     (s.gate 3).moveTimer.isSome = true ∧ (s.gate 3).inFlight = true ∧ (s.gate 3).mode ≠ .off ∧
       (s.gate 3).save.resumed = false ∧ faultResponse s.store.control = true ∧
       (s.gate 3).context = some ⟨3150, .normal, .order 12#8 5#8, true⟩ ∧ s.NoticeRoom) := by
  delta State.Settled State.NoticeRoom
  decide +kernel

/-- A resumed move, and the fault response enable at 0: at a moving gate, one that stops, one with a slot past its retry
limit, and for a drive in FAULT. -/
theorem witness_FaultLocksDeviceOut :
    let resumed := fun (s : State) =>
      s.onGate 3 (fun x => { x with save := { x.save with occupied := true, resumed := true } })
    let off := fun (s : State) => s.onStore (fun t => { t with control := t.control.set 8 0b1000#16 })
    let moving := withSlot 6 ⟨.move, 4200, .normal⟩ 41#8 2 .sent (damMoving .auto 4200 .auto)
    let f := status 37#8 64#8 2984#16 300#16 2 0
    (∀ s ∈ [resumed moving, off moving],
      (s.gate 3).mode ≠ .off ∧ (s.gate 3).faulty = false ∧ s.sup.device = .run ∧
      ((s.gate 3).resumedMove = true ∨ faultResponse s.store.control = false) ∧
      (s.gate 3).moveTimer.isSome = true ∧ (s.gate 3).inFlight = true ∧ s.NoticeRoom ∧ s.TwoNoticesRoom ∧
      gateOf 6 = 3 ∧ (s.hoist 6).slot = some ⟨⟨.move, 4200, .normal⟩, 64#8, 41#8, 2, .sent, some 100⟩ ∧
      retryLimit s.store.control < min 255 (2 + 1) ∧ abandonAction s.store.control = true ∧
      reachesPart s f ⟨2984, 300, .fault, 0#8⟩ 6 = true ∧ s.LoadCalm 6 ⟨2984, 300, .fault, 0#8⟩) ∧
    ∀ s ∈ [resumed damStopping, off damStopping],
      (s.gate 3).mode ≠ .off ∧ (s.gate 3).faulty = false ∧ s.sup.device = .run ∧
      ((s.gate 3).resumedMove = true ∨ faultResponse s.store.control = false) ∧
      (s.gate 3).stopTimer.isSome = true ∧ (s.gate 3).motion = .stopping := by
  delta State.NoticeRoom State.TwoNoticesRoom State.LoadCalm State.Overloads State.Slackens
  decide +kernel

/-- No timer; STOPPING; FAULT-STOPPING in RUN and in DRAIN. -/
theorem witness_StopTimerFaultsOrLocksOut :
    (((damIn .hold).gate 3).mode ≠ .off ∧ ((damIn .hold).gate 3).stopTimer = none ∧ (damIn .hold).Settled) ∧
    (let x := damStopping.gate 3
     x.mode ≠ .off ∧ x.stopTimer.isSome = true ∧ x.motion = .stopping ∧ x.save.resumed = false ∧
       faultResponse damStopping.store.control = true) ∧
    ∀ d ∈ [Device.run, Device.drain],
      let s := inDevice d (damFaulted .faultStopping (some 10000))
      (s.gate 3).mode ≠ .off ∧ (s.gate 3).stopTimer.isSome = true ∧ (s.gate 3).motion = .faultStopping ∧
        s.sup.device = d ∧ s.NoticeRoom := by
  delta State.Settled State.NoticeRoom
  decide +kernel

theorem witness_HoldAssertionStopsGates :
    (damMoving .auto 2540 .auto).sup.holdLine = false ∧
    ((damMoving .auto 2540 .auto).gate 3).inFlight = true := by decide +kernel

/-- A gate in OFF with nothing to issue; a pending closure; an order at the head of the queue, its target at the
window's upper end. -/
theorem witness_HoldReleaseIssues :
    let closing := held ((damIn .auto).onGate 3 (fun x => { x with closurePending := true }))
    let e : Entry := ⟨.order 12#8 5#8, .relative, 6021, none⟩
    let waiting := held ((damIn .manual).onGate 3 (fun x => { x with queue := e :: [] }))
    (∀ s ∈ [closing, waiting], s.sup.holdLine = true ∧ s.sup.device = .run ∧ s.bothStill 3 = true ∧
      (s.gate 3).motion = .idle ∧ (s.gate 0).closurePending = false ∧ (s.gate 0).queue = []) ∧
    ((closing.gate 3).closurePending = true ∧
      closing.withinTolerance 3 (lowerLimit (closing.record 3)) = false) ∧
    ((waiting.gate 3).closurePending = false ∧ (waiting.gate 3).queue = e :: [] ∧ e.automatic = false ∧
      (waiting.gate 3).standing + e.value = 9000 ∧ waiting.inWindow 3 9000 = true ∧
      waiting.withinTolerance 3 9000 = false) := by decide +kernel

/-- Held from issuing; a closure pending, off the lower limit and within its tolerance; a head entry one past the window,
one at the tolerance's end, and an automatic one behind the tide-closed flag. -/
theorem witness_ExaminationTakesHead :
    let pending := fun (s : State) => s.onGate 3 (fun x => { x with closurePending := true })
    let queued := fun (e : Entry) => (damAt .manual 2979).onGate 3 (fun x => { x with queue := [e] })
    (held (damIn .auto)).HeldFromIssue 3 ∧
    (∀ s ∈ [pending (damIn .auto), pending (damAt .auto 210), queued ⟨.order 12#8 5#8, .absolute, 9001, none⟩,
        queued ⟨.order 12#8 5#8, .relative, 10, none⟩, queued ⟨.order 12#8 5#8, .relative, 11, none⟩],
      ¬s.HeldFromIssue 3) ∧
    (pending (damIn .auto)).withinTolerance 3 (lowerLimit (dam.record 3)) = false ∧
    (pending (damAt .auto 210)).withinTolerance 3 (lowerLimit (dam.record 3)) = true ∧
    (damAt .manual 2979).inWindow 3 9001 = false ∧ (damAt .manual 2979).withinTolerance 3 (2979 + 10) = true ∧
    (damAt .manual 2979).withinTolerance 3 (2979 + 11) = false ∧ ((damAt .manual 2979).gate 3).standing = 2979 ∧
    ((⟨.auto, .absolute, 2670, none⟩ : Entry).automatic = true) := by
  delta State.HeldFromIssue
  decide +kernel

/-- A fulfilled drain and one whose timer runs, with room for the notice; and nothing to complete. -/
theorem witness_DrainCompletesOnce :
    ((damDraining true).sup.device = .drain ∧ (damDraining true).sup.drainFulfilled = true ∧
      (damDraining true).NoticeRoom ∧ (damDraining true).ring.transit = []) ∧
    ((damDraining false).sup.device = .drain ∧ (damDraining false).sup.drainTimer.isSome = true ∧
      (damDraining false).NoticeRoom) ∧
    (dam.Settled ∧ dam.sup.device ≠ .drain) ∧ ((damDraining false).Settled ∧
      (damDraining false).sup.drainFulfilled = false) := by
  delta State.Settled State.NoticeRoom
  decide +kernel

theorem witness_SoftResetEntersDrain :
    let f := manage [0xB000#16]
    let s := underWay f (inDevice .lockout (damFaulted .faultStopping (some 10000)))
    s.Executing .softReset f ∧ s.classOf f.src = .engineer ∧ s.sup.device ≠ .drain := by
  delta State.Executing
  decide +kernel

/-- FORCE-INDEX with 64, one past the range; and a request whose source is of class NONE, RING-OUT busy. -/
theorem witness_RefusedRequestChangesNothing :
    (let f := manage [0x9000#16, 64#16]
     let s := underWay f dam
     s.req.executing = some f ∧ requestName f = some .forceIndex ∧ .reserved ∈ s.req.report ∧
       s.classOf f.src ≠ .unheard ∧ (RequestName.answer .forceIndex f s).result ≠ .done) ∧
    (let f := toPart 77#8 kindOrder [0x0503#16]
     let s := underWay f (damTransit 0 (.transit longest))
     s.req.executing = some f ∧ requestName f = some .cancel ∧ .reserved ∈ s.req.report ∧
       s.classOf f.src = .unheard ∧ s.req.intake = [] ∧ s.ring.out ≠ .idle) := by decide +kernel

/-- MALFORMED, gate 8; ACCESS; a request that passes both, in LOCKOUT, in DRAIN and in RUN; the classes. -/
theorem witness_RefusalsInOrder :
    RequestName.Malformed .cancel (order [0x0508#16]) ∧ ¬RequestName.Malformed .cancel (order [0x0507#16]) ∧
    ¬RequestName.Permitted .cancel (toPart 50#8 kindOrder [0x0507#16]) dam ∧
    RequestName.Permitted .cancel (order [0x0507#16]) dam ∧
    ¬RequestName.TakenInLockout .cancel ∧ ¬RequestName.TakenInDrain .softReset ∧ RequestName.TakenInLockout .softReset ∧
    (inDevice .lockout dam).sup.device = .lockout ∧ (inDevice .drain dam).sup.device = .drain ∧
    dam.classOf (toPart 50#8 kindOrder [0x0503#16]).src = .observer ∧
    dam.classOf (toPart 40#8 kindManage [0x9000#16]).src = .operator ∧
    (readWriteRows (toPart 40#8 kindManage [0x1010#16, 1#16])).map WriteRows.table = some .access ∧
    (readWriteRows (toPart 40#8 kindManage [0x1020#16, 1#16])).map WriteRows.table = some .stations := by
  delta RequestName.Malformed RequestName.Permitted RequestName.TakenInLockout RequestName.TakenInDrain
  decide +kernel

/-- SET-MODE: of a stopping gate; OFF of an idle one and of a moving one; MANUAL with a hoist whose record is invalid; AUTO
with a schedule of length 1, and of length 2. MOVE: held; a gate in AUTO; a full queue and one place left; PREEMPT on the
way, standing, with a drive running, and of a gate that stops. -/
theorem witness_OrdersChecked :
    let lone := fun (n : Word) => dam.onStore (fun t =>
      { t with schedules := Vector.replicate 4 ⟨exampleSchedule, ⟨exampleSchedule.header.set 0 n, exampleSchedule.rows⟩⟩ })
    let e : Entry := ⟨.order 12#8 6#8, .absolute, 3076, none⟩
    let queued := fun (q : List Entry) => (damIn .manual).onGate 3 (fun x => { x with queue := q })
    let running := (damIn .manual).onHoist 6 (fun x => { x with drive := .running })
    (∀ p ∈ [(damStopping, Mode.hold, Result.busy), (damIn .hold, .off, .done),
        (damMoving .manual 3150 (.order 12#8 5#8), .off, .busy),
        (dam.onHoist 7 (fun x => { x with valid := false }), .manual, .notValid), (lone 1#16, .auto, .notValid),
        (lone 2#16, .auto, .done)],
      let f := order [0x0103#16, BitVec.ofNat 16 p.2.1.code]
      2 ≤ f.payload.length ∧ orderGate f = 3 ∧ (f.word 1).toNat = p.2.1.code ∧ p.1.mayOrder f.src = true ∧
        p.1.sup.device = .run ∧ RequestName.answer .setMode f p.1 = refuse p.2.2) ∧
    ∀ p ∈ [(held (damIn .manual), 0x0#16, Result.held), (damIn .auto, 0#16, .mode), (queued [e, e, e, e], 0#16, .full),
        (queued [e, e, e], 0#16, .done), (damMoving .manual 3150 (.order 12#8 5#8), 0x8000#16, .done),
        (damIn .manual, 0x8000#16, .done), (running, 0x8000#16, .busy),
        (damStopping.onGate 3 (fun x => { x with mode := .manual }), 0x8000#16, .busy)],
      let f := order [0x0203#16, 9000#16, p.2.1]
      2 ≤ f.payload.length ∧ orderGate f = 3 ∧ p.1.mayOrder f.src = true ∧ p.1.sup.device = .run ∧
        RequestName.answer .moveTo f p.1 = refuse p.2.2 := by decide +kernel

/-- CLEAR-GATE at a gate in FAULTED, FAULT-STOPPING and IDLE; RESUME-GATE: not faulted, not recoverable, under the HOLD
line, and with the saved target at the window's end and one past it. SET-LENGTH, ACTIVATE and FORCE-INDEX at the ends of
their ranges and one past them; and CANCEL, which has no check of its own. -/
theorem witness_RequestsChecked :
    let faulted := fun (r : Recoverable) (target : Int) => (damFaulted .faulted none).onGate 3 (fun x =>
      { x with save := { x.save with recoverable := r, target := target } })
    (∀ p ∈ [(damFaulted .faulted none, Result.done), (damFaulted .faultStopping (some 10000), .busy),
        (damIn .hold, .notFaulted)],
      let f := manage [0x7003#16]
      p.1.mayOrder f.src = true ∧ p.1.sup.device = .run ∧ field (f.word 0) 0 8 = 3 ∧
        RequestName.answer .clearGate f p.1 = refuse p.2) ∧
    (∀ p ∈ [(damIn .hold, Result.notFaulted), (faulted .no 9000, .notRecoverable), (held (faulted .yes 9000), .standing),
        (faulted .yes 9000, .done), (faulted .yes 9001, .range)],
      let f := manage [0x8003#16]
      p.1.mayOrder f.src = true ∧ p.1.sup.device = .run ∧ field (f.word 0) 0 8 = 3 ∧
        RequestName.answer .resumeGate f p.1 = refuse p.2) ∧
    (∀ p ∈ [(0x3004#16, 32#16, Result.done), (0x3004#16, 33#16, .range), (0x3010#16, 2#16, .done),
        (0x3017#16, 65#16, .range), (0x3017#16, 1#16, .range)],
      dam.mayWrite 12#8 .pass = true ∧ dam.sup.device = .run ∧
        RequestName.answer .setLength (manage [p.1, p.2.1]) dam = refuse p.2.2) ∧
    (let s := dam.onStore (fun t => { t with passPending := ⟨1, examplePass.rows.set 1 0x4041#16⟩ })
     RequestName.answer .activate (manage [0x4004#16]) s = refuse .notValid) ∧
    RequestName.answer .activate (manage [0x4010#16]) State.reset = refuse .notValid ∧
    RequestName.answer .activate (manage [0x4014#16]) dam = refuse .done ∧
    RequestName.answer .forceIndex (manage [0x9000#16, 63#16]) dam = refuse .done ∧
    RequestName.answer .forceIndex (manage [0x9000#16, 64#16]) dam = refuse .range ∧
    RequestName.answer .cancel (order [0x0507#16]) dam = refuse .done := by decide +kernel

/-- MANUAL from OFF; AUTO from OFF with a schedule of the least length, 2; MANUAL and FLOOD on the way. -/
theorem witness_SetModeTaken :
    let short := dam.onStore (fun t =>
      { t with schedules := Vector.replicate 4 ⟨exampleSchedule, ⟨exampleSchedule.header.set 0 2#16, exampleSchedule.rows⟩⟩ })
    ∀ p ∈ [(dam, Mode.manual), (short, Mode.auto), (damMoving .auto 3150 .auto, Mode.manual),
        (damMoving .auto 3150 .auto, Mode.flood)],
      let f := order [0x0103#16, BitVec.ofNat 16 p.2.code]
      let s := underWay f p.1
      s.Executing .setMode f ∧ readSetMode f = some (3, p.2) ∧ s.mayOrder f.src = true ∧ s.sup.device = .run ∧
        ((s.gate 3).motion = .idle ∨ (s.gate 3).inFlight = true) ∧ recordValid (s.record 3) = true ∧
        s.hoistsReady 3 = true ∧ 2 ≤ scheduleLength (s.scheduleOf 3) := by
  delta State.Executing
  decide +kernel

/-- MANUAL and FLOOD from OFF; FLOOD from AUTO free to issue, held, behind the tide-closed flag, standing at the upper
limit, and within the tolerance of it. -/
theorem witness_IdleGateEntersMode :
    let atUpper := (damIn .auto).onGate 3 (fun x => { x with standing := 9000 })
    let tide := (damIn .auto).onGate 3 (fun x => { x with tideClosed := true })
    (∀ p ∈ [(dam, Mode.manual), (dam, .flood), (damIn .auto, .flood), (held (damIn .auto), .flood), (tide, .flood),
        (atUpper, .flood), (damAt .auto 8990, .flood)],
      let f := order [0x0103#16, BitVec.ofNat 16 p.2.code]
      let s := underWay f p.1
      s.Executing .setMode f ∧ readSetMode f = some (3, p.2) ∧ s.mayOrder f.src = true ∧ s.sup.device = .run ∧
        (s.gate 3).motion = .idle ∧ (s.gate 3).closurePending = false ∧ recordValid (s.record 3) = true ∧
        s.hoistsReady 3 = true ∧ 2 ≤ scheduleLength (s.scheduleOf 3) ∧ upperLimit (s.record 3) = 9000) ∧
    ¬(damIn .auto).HeldFromIssue 3 ∧ (held (damIn .auto)).HeldFromIssue 3 ∧
    (damAt .auto 8990).withinTolerance 3 9000 = true ∧ (damIn .auto).withinTolerance 3 9000 = false := by
  delta State.Executing State.HeldFromIssue
  decide +kernel

theorem witness_SetModeOffReleasesGate :
    let f := order [0x0103#16, 0#16]
    let s := underWay f (withSlot 6 ⟨.stop, 2984, .creep⟩ 43#8 0 .waiting (damIn .hold))
    s.Executing .setMode f ∧ readSetMode f = some (3, .off) ∧ s.mayOrder f.src = true ∧ s.sup.device = .run ∧
      (s.gate 3).motion = .idle := by
  delta State.Executing
  decide +kernel

/-- From IDLE in OFF, and on the way in FLOOD (5.6, step 14). -/
theorem witness_SetModeHoldStopsGate :
    ∀ t ∈ [dam, damMoving .flood 9000 .flood], let f := order [0x0103#16, 1#16]
      let s := underWay f t
      s.Executing .setMode f ∧ readSetMode f = some (3, .hold) ∧ s.mayOrder f.src = true ∧ s.sup.device = .run ∧
        recordValid (s.record 3) = true ∧ s.hoistsReady 3 = true ∧
        ((s.gate 3).motion = .idle ∨ ((s.gate 3).inFlight = true ∧ (s.gate 3).mode ≠ .off)) := by
  delta State.Executing
  decide +kernel

/-- The last place of the queue, on the way; and a drive that is not STILL. -/
theorem witness_MoveOrderQueued :
    let e : Entry := ⟨.order 12#8 6#8, .absolute, 3076, none⟩
    let full := (damMoving .manual 3150 (.order 12#8 5#8)).onGate 3 (fun x => { x with queue := [e, e, e] })
    let running := (damIn .manual).onHoist 6 (fun x => { x with drive := .running })
    let f := order [0x0203#16, 3150#16]
    ∀ t ∈ [full, running], let s := underWay f t
      s.Executing .moveTo f ∧ readMove .absolute f = some ⟨3, .absolute, 3150, none, false⟩ ∧
        s.mayOrder f.src = true ∧ s.sup.device = .run ∧ s.sup.holdLine = false ∧ (s.gate 3).mode = .manual ∧
        (s.gate 3).queue.length < 4 ∧ ((s.gate 3).motion ≠ .idle ∨ s.bothStill 3 = false) := by
  delta State.Executing
  decide +kernel

/-- MOVE-TO the upper end of the window, and MOVE-BY with PREEMPT to the lower end. -/
theorem witness_MoveOrderStartsMove :
    ∀ p ∈ [(order [0x0203#16, 9000#16], Form.absolute, (9000 : Int), false),
        (order [0x0303#16, 0xF525#16, 0x8000#16], Form.relative, (-2779 : Int), true)],
      let f := p.1
      let s := underWay f (damIn .manual)
      let target := if p.2.1 = .absolute then p.2.2.1 else (s.gate 3).standing + p.2.2.1
      s.Executing (if p.2.1 = .absolute then .moveTo else .moveBy) f ∧
        readMove p.2.1 f = some ⟨3, p.2.1, p.2.2.1, none, p.2.2.2⟩ ∧ s.mayOrder f.src = true ∧ s.sup.device = .run ∧
        s.sup.holdLine = false ∧ (s.gate 3).mode = .manual ∧ (s.gate 3).motion = .idle ∧ (s.gate 3).queue = [] ∧
        (s.gate 3).closurePending = false ∧ s.bothStill 3 = true ∧ s.inWindow 3 target = true ∧
        s.withinTolerance 3 target = false := by
  delta State.Executing
  decide +kernel

/-- A target at the tolerance's end; one past the window, without PREEMPT and with it. -/
theorem witness_MoveOrderEndsAtIssue :
    ∀ p ∈ [(order [0x0203#16, 2989#16], (2989 : Int), false), (order [0x0203#16, 9001#16], 9001, false),
        (order [0x0203#16, 199#16, 0x8000#16], 199, true)],
      let f := p.1
      let s := underWay f (damAt .manual 2979)
      s.Executing .moveTo f ∧ readMove .absolute f = some ⟨3, .absolute, p.2.1, none, p.2.2⟩ ∧
        s.mayOrder f.src = true ∧ s.sup.device = .run ∧ s.sup.holdLine = false ∧ (s.gate 3).mode = .manual ∧
        (s.gate 3).motion = .idle ∧ (s.gate 3).queue = [] ∧ (s.gate 3).closurePending = false ∧
        s.bothStill 3 = true ∧ s.inWindow 3 p.2.1 = decide (p.2.1 = 2989) ∧ s.withinTolerance 3 2989 = true ∧
        s.NoticeRoom := by
  delta State.Executing State.NoticeRoom
  decide +kernel

/-- MOVE-BY from the in-flight target, 3150, to the lower end of the window, 200, and MOVE-TO it. -/
theorem witness_PreemptingMoveRetargets :
    let t := damMoving .manual 3150 (.order 12#8 5#8)
    ∀ p ∈ [(order [0x0203#16, 200#16, 0x8003#16], Form.absolute, (200 : Int)),
        (order [0x0303#16, 0xF47A#16, 0x8003#16], Form.relative, (-2950 : Int))],
      let f := p.1
      let s := underWay f t
      s.Executing (if p.2.1 = .absolute then .moveTo else .moveBy) f ∧
        readMove p.2.1 f = some ⟨3, p.2.1, p.2.2, some .fast, true⟩ ∧ s.mayOrder f.src = true ∧ s.sup.device = .run ∧
        s.sup.holdLine = false ∧ (s.gate 3).mode = .manual ∧ (s.gate 3).inFlight = true ∧
        (s.gate 3).context = some ⟨3150, .normal, .order 12#8 5#8, true⟩ ∧
        s.inWindow 3 (if p.2.1 = .absolute then p.2.2 else 3150 + p.2.2) = true := by
  delta State.Executing
  decide +kernel

/-- STOP of gate 7, the last, and of all, naming 15. -/
theorem witness_StopOrderStopsGates :
    ∀ f ∈ [order [0x0407#16], order [0x040F#16]],
      let s := underWay f (damMoving .manual 3150 (.order 12#8 5#8))
      s.Executing .stop f ∧ s.mayOrder f.src = true ∧ s.sup.device = .run ∧ (orderGate f = 15 ∨ orderGate f = 7) := by
  delta State.Executing
  decide +kernel

theorem witness_CancelEmptiesQueue :
    let f := order [0x0503#16]
    let s := underWay f (damMoving .manual 3150 (.order 12#8 5#8))
    s.Executing .cancel f ∧ orderGate f = (3 : GateNo).val ∧ s.mayOrder f.src = true ∧ s.sup.device = .run := by
  delta State.Executing
  decide +kernel

/-- The rows of the Control Record's end, where the next table begins, and of a gap; a run that passes the last
address of a table, read and written. -/
theorem witness_RowsAddressedAndStored :
    tableOfAddress 15 = some (.control, 15) ∧ tableOfAddress 16 = some (.access, 0) ∧ tableOfAddress 30 = none ∧
    tableOfAddress 895 = some (.rows 3, 63) ∧ tableOfAddress 896 = none ∧
    tableOfAddress (field ((manage [0x101E#16, 0#16]).word 0) 0 12) = none ∧
    readReadRows (manage [0x200F#16, 2#16]) = some ⟨.control, 15, 2, false⟩ ∧
    dam.mayRead 12#8 .control = true ∧ Table.capacity .control < 15 + 2 ∧
    readWriteRows (manage [0x100F#16, 0#16, 0#16]) = some ⟨.control, 15, [0#16, 0#16]⟩ ∧
    dam.mayWrite 12#8 .control = true ∧ dam.sup.device = .run ∧ 15 < 16 := by decide +kernel

/-- A write to each kind of table is read as one; rows 11 and 12 of the Access Record reach past the last that may be
written; a Hoist Map write over hoist 7 with gate 3 in AUTO, and a write to the record of a moving gate, are barred. -/
theorem witness_WriteDecidedByTable :
    (∀ f ∈ [manage [0x101B#16, 3#16, 0#16], manage [0x100D#16, 121#16], manage [0x111D#16, 4#16], manage [0x1127#16, 254#16],
        manage [0x118F#16, 7#16], manage [0x11A2#16, 60000#16], manage [0x11E9#16, 1801#16], manage [0x1230#16, 2#16],
        manage [0x12BF#16, 12001#16]],
      let s := underWay f (damIn .auto)
      s.Executing .writeRows f ∧ (readWriteRows f).any (fun o => s.mayWrite f.src o.table) = true ∧
        s.sup.device = .run) ∧
    readWriteRows (manage [0x101B#16, 3#16, 0#16]) = some ⟨.access, 11, [3#16, 0#16]⟩ ∧
    (⟨.access, 11, [3#16, 0#16]⟩ : WriteRows).limit = 12 ∧
    (damIn .auto).WriteBarred ⟨.hoistMap, 7, [0#16]⟩ ∧ ¬(damIn .auto).WriteBarred ⟨.hoistMap, 8, [0#16]⟩ ∧
    (damMoving .auto 2670 .auto).WriteBarred ⟨.gate 3, 9, [600#16]⟩ ∧ ¬(damIn .auto).WriteBarred ⟨.gate 3, 9, [600#16]⟩ := by
  delta State.Executing State.WriteBarred
  decide +kernel

/-- Values at the ends of their ranges, and one past them. -/
theorem witness_WriteDecidedByValues :
    (dam.ValuesTaken ⟨.control, 13, [120#16]⟩ ∧ ¬dam.ValuesTaken ⟨.control, 13, [121#16]⟩) ∧
    (dam.ValuesTaken ⟨.access, 5, [1#16, 3#16]⟩ ∧ ¬dam.ValuesTaken ⟨.access, 5, [2#16]⟩) ∧
    (dam.ValuesTaken ⟨.hoistMap, 8, [254#16]⟩ ∧ ¬dam.ValuesTaken ⟨.hoistMap, 8, [37#16]⟩) ∧
    dam.ValuesTaken ⟨.pass, 95, [65535#16]⟩ ∧
    (dam.ValuesTaken ⟨.thresholds, 17, [15#16, 60000#16]⟩ ∧ ¬dam.ValuesTaken ⟨.thresholds, 18, [60001#16]⟩) ∧
    ((damIn .auto).ValuesTaken ⟨.gate 3, 9, [1800#16]⟩ ∧ ¬(damIn .auto).ValuesTaken ⟨.gate 3, 9, [1801#16]⟩) ∧
    (dam.ValuesTaken ⟨.header 1, 1, [12000#16, 255#16]⟩ ∧ ¬dam.ValuesTaken ⟨.header 1, 0, [2#16]⟩) ∧
    (dam.ValuesTaken ⟨.rows 0, 63, [12000#16]⟩ ∧ ¬dam.ValuesTaken ⟨.rows 0, 63, [12001#16]⟩) := by
  delta State.ValuesTaken State.ControlTaken RecordTaken WriteRows.Each HeaderRowTaken State.AddressTaken
  refine ⟨⟨?_, ?_⟩, ⟨?_, ?_⟩, ⟨?_, ?_⟩, ?_, ⟨?_, ?_⟩, ⟨?_, ?_⟩, ⟨?_, ?_⟩, ?_, ?_⟩ <;> dsimp only <;> decide +kernel

/-- The sole ENGINEER, at address 12, may be joined by another and not demoted. -/
theorem witness_WriteDecidedByClasses :
    dam.ValuesTaken ⟨.stations, 253, [3#16]⟩ ∧ ¬dam.ValuesTaken ⟨.stations, 253, [4#16]⟩ ∧
      ¬State.reset.ValuesTaken ⟨.stations, 11, [2#16]⟩ := by
  delta State.ValuesTaken
  dsimp only
  decide +kernel

/-- One write to each kind of table, each to the last row that may be written. -/
theorem witness_WriteRowsStoresRows :
    ∀ f ∈ [manage [0x101B#16, 3#16], manage [0x111D#16, 1#16], manage [0x118F#16, 7#16],
        manage [0x11A2#16, 60000#16], manage [0x11E9#16, 1800#16], manage [0x1235#16, 500#16],
        manage [0x12BF#16, 12000#16]],
      let s := underWay f dam
      s.Executing .writeRows f ∧ (readWriteRows f).any (fun o =>
        s.mayWrite f.src o.table && decide (writeCheck o s = .done) && decide (o.table ≠ .control) &&
          decide (o.table ≠ .hoistMap)) = true ∧ s.sup.device = .run := by
  delta State.Executing
  decide +kernel

/-- A write that unbinds D2, and one that remaps hoist 15. -/
theorem witness_WriteRowsRebinds :
    ∀ p ∈ [(manage [0x1004#16, 0#16], Table.control), (manage [0x112F#16, 0#16], Table.hoistMap)],
      let f := p.1
      let s := underWay f dam
      s.Executing .writeRows f ∧ (readWriteRows f).any (fun o =>
        s.mayWrite f.src o.table && decide (writeCheck o s = .done) && decide (o.table = p.2)) = true ∧
        s.sup.device = .run := by
  delta State.Executing
  decide +kernel

/-- A write whose last row is row 9, on an IDLE gate; one whose last row is row 10; one at a moving gate; and a
move time limit of 9 s, one below its range. -/
theorem witness_GateRecordWriteChecked :
    let o := fun (start : Nat) => (⟨.gate 3, start, [600#16]⟩ : WriteRows)
    (writeCheck (o 9) (damIn .auto) = .done ∧ 9 + 1 ≤ 10 ∧ ((damIn .auto).gate 3).motion = .idle) ∧
    (10 < (o 10).start + (o 10).values.length ∧ 0 < (o 10).values.length) ∧
    ((damMoving .auto 2670 .auto).gate 3).mode ≠ .off ∧
    ((damMoving .auto 2670 .auto).gate 3).inFlight = true ∧
    recordInRange (storeRows ((damIn .auto).record 3) 9 [9#16]) = false := by decide +kernel

/-- READ-ROWS of the last 14 rows of schedule 3, BEYOND its length, of the pending image, of 14 rows past the capacity of
the Access Record; and READ-STATE of each section. -/
theorem witness_ReadsAnswerAndChangeNothing :
    (let f := manage [0x2372#16, 14#16]
     let s := underWay f dam
     s.Executing .readRows f ∧ readReadRows f = some ⟨.rows 3, 50, 14, false⟩ ∧ s.mayRead f.src (.rows 3) = true ∧
       50 + 14 ≤ Table.capacity (.rows 3) ∧ s.lengthOf (.rows 3) false < 50 + 14) ∧
    (∀ p ∈ [(manage [0x2372#16, 0x800E#16], (⟨.rows 3, 50, 14, true⟩ : ReadRows)),
        (manage [0x2011#16, 14#16], ⟨.access, 1, 14, false⟩)],
      let s := underWay p.1 dam
      s.Executing .readRows p.1 ∧ readReadRows p.1 = some p.2 ∧ s.mayRead 12#8 p.2.table = true) ∧
    ∀ p ∈ [(manage [0x5000#16], StateSection.device), (manage [0x5107#16], .gate 7),
        (manage [0x5203#16], .saveRecord 3), (manage [0x5300#16], .levels), (manage [0x5403#16], .threshold .load),
        (manage [0x551F#16], .pass 31), (manage [0x5520#16], .pass 32)],
      let f := p.1
      let s := underWay f dam
      s.Executing .readState f ∧ readReadState f = some p.2 := by
  delta State.Executing
  decide +kernel

/-- The dam with index 63 forced and a full queue and full slots at gate 3. -/
theorem witness_SectionWords :
    let e : Entry := ⟨.order 12#8 6#8, .absolute, 3076, none⟩
    let s := (withSlot 6 ⟨.move, 12000, .fast⟩ 255#8 255 .sent (damMoving .manual 3150 (.order 12#8 5#8))).onGate 3
      (fun x => { x with queue := [e, e, e, e] })
    ({ dam with forcedIndex := some 63 } : State).capacityRule ∧ (s.gate 3).queue.length ≤ 4 ∧
    (∀ h, (s.hoist h).slot.all (fun sl => decide (sl.tries ≤ 255)) = true ∧
      (s.hoist h).lastPosted.all (fun sp => decide (0 ≤ sp.target ∧ sp.target < 16384)) = true) ∧
    dam.capacityRule ∧ 31 < 32 ∧ dam.store.passActive.length ≤ 32 := by
  delta State.capacityRule
  decide +kernel

/-- SET-LENGTH of the Pass Table to 32 and of a schedule to 64, the highest, and to 2, the lowest; ACTIVATE of the
Pass Table and of a schedule. -/
theorem witness_PendingImagesSetAndActivated :
    (∀ f ∈ [manage [0x3004#16, 32#16], manage [0x3010#16, 64#16], manage [0x3017#16, 2#16]],
      let s := underWay f dam
      s.Executing .setLength f ∧ (readSetLength f).any (fun q =>
        s.mayWrite f.src q.1 && decide (lengthCheck q.2.1 q.2.2 = .done)) = true ∧ s.sup.device = .run) ∧
    ∀ f ∈ [manage [0x4004#16], manage [0x4010#16]],
      let s := underWay f (dam.onStore (fun t => { t with passPending := examplePass }))
      s.Executing .activate f ∧ (namedImage f).any (fun q =>
        s.mayWrite f.src q.1 && decide (activateCheck q.2 s = .done)) = true ∧ s.sup.device = .run := by
  delta State.Executing
  decide +kernel

/-- Each group, the last gate and the last class among them. -/
theorem witness_ClearFlagsClearsGroup :
    ∀ p ∈ [(manage [0x6000#16], FlagGroup.device), (manage [0x6001#16], .levels), (manage [0x6002#16], .pass),
        (manage [0x6017#16], .gate 7), (manage [0x6020#16], .threshold .levelU),
        (manage [0x6021#16], .threshold .levelD), (manage [0x6022#16], .threshold .head),
        (manage [0x6023#16], .threshold .load)],
      let f := p.1
      let s := underWay f dam
      s.Executing .clearFlags f ∧ readClearFlags f = some p.2 ∧ s.mayOrder f.src = true ∧ s.sup.device ≠ .drain := by
  delta State.Executing
  decide +kernel

theorem witness_ClearGateReturnsToHold :
    let f := manage [0x7003#16]
    let s := underWay f (damFaulted .faulted none)
    s.Executing .clearGate f ∧ namedGate f = some 3 ∧ s.mayOrder f.src = true ∧ s.sup.device = .run ∧
      (s.gate 3).motion = .faulted := by
  delta State.Executing
  decide +kernel

/-- The saved target at the window's upper end. -/
theorem witness_ResumeGateReissuesMove :
    let f := manage [0x8003#16]
    let s := underWay f ((damFaulted .faulted none).onGate 3 (fun x => { x with save := { x.save with target := 9000 } }))
    s.Executing .resumeGate f ∧ namedGate f = some 3 ∧ s.mayOrder f.src = true ∧ s.sup.device = .run ∧
      (s.gate 3).motion = .faulted ∧ (s.gate 3).mode ≠ .off ∧ (s.gate 3).save.resumed = false ∧
      (s.gate 3).save.recoverable = .yes ∧ s.bothStill 3 = true ∧ s.sup.holdLine = false ∧
      (∀ h, gateOf h = 3 → (s.hoist h).monitor.outcomes.ha = false ∧ (s.hoist h).monitor.outcomes.la = false) ∧
      lowerLimit (s.record 3) ≤ (s.gate 3).save.target ∧ (s.gate 3).save.target ≤ upperLimit (s.record 3) := by
  delta State.Executing
  decide +kernel

/-- The highest index, 63; and the release. -/
theorem witness_ForcedIndexSet :
    (let f := manage [0x9000#16, 63#16]
     let s := underWay f dam
     s.classOf f.src = .engineer ∧ s.sup.device = .run ∧ s.Executing .forceIndex f ∧ 2 ≤ f.payload.length ∧
       (f.word 1).toNat ≤ 63) ∧
    (let f := manage [0xA000#16]
     let s := underWay f dam
     s.classOf f.src = .engineer ∧ s.sup.device = .run ∧ s.Executing .releaseIndex f) := by
  delta State.Executing
  decide +kernel

end Sys2Proof.Tests
end

section
/-!
PROOFS. Frames laid out by the part read back as themselves, its own pass its own check, and a checked frame that
carries the own address as its source is stripped (R2, R5, R6, R8).
-/

namespace Sys2Proof.Machine

/-! ### The two words before a payload (11.1) -/

theorem pack_addresses_toNat (d s : Byte) : (pack [(d.toNat, 8), (s.toNat, 0)]).toNat = d.toNat * 256 + s.toNat := by
  have hd : d.toNat < 256 := d.isLt
  have hs : s.toNat < 256 := s.isLt
  simp only [pack, List.foldl_cons, List.foldl_nil, BitVec.toNat_ofNat]
  omega

theorem pack_header_toNat (k : BitVec 4) (n : Nat) (t : Byte) (hn : n ≤ 15) :
    (pack [(k.toNat, 12), (n, 8), (t.toNat, 0)]).toNat = k.toNat * 4096 + n * 256 + t.toNat := by
  have hk : k.toNat < 16 := k.isLt
  have ht : t.toNat < 256 := t.isLt
  simp only [pack, List.foldl_cons, List.foldl_nil, BitVec.toNat_ofNat]
  omega

@[simp] theorem field_dest (d s : Byte) : field (pack [(d.toNat, 8), (s.toNat, 0)]) 8 8 = d.toNat := by
  have hd : d.toNat < 256 := d.isLt
  have hs : s.toNat < 256 := s.isLt
  rw [field, pack_addresses_toNat]
  omega

@[simp] theorem field_src (d s : Byte) : field (pack [(d.toNat, 8), (s.toNat, 0)]) 0 8 = s.toNat := by
  have hs : s.toNat < 256 := s.isLt
  rw [field, pack_addresses_toNat]
  omega

theorem field_kind (k : BitVec 4) (n : Nat) (t : Byte) (hn : n ≤ 15) :
    field (pack [(k.toNat, 12), (n, 8), (t.toNat, 0)]) 12 4 = k.toNat := by
  have hk : k.toNat < 16 := k.isLt
  have ht : t.toNat < 256 := t.isLt
  rw [field, pack_header_toNat k n t hn]
  omega

theorem field_length (k : BitVec 4) (n : Nat) (t : Byte) (hn : n ≤ 15) :
    field (pack [(k.toNat, 12), (n, 8), (t.toNat, 0)]) 8 4 = n := by
  have ht : t.toNat < 256 := t.isLt
  rw [field, pack_header_toNat k n t hn]
  omega

theorem field_tag (k : BitVec 4) (n : Nat) (t : Byte) (hn : n ≤ 15) :
    field (pack [(k.toNat, 12), (n, 8), (t.toNat, 0)]) 0 8 = t.toNat := by
  have ht : t.toNat < 256 := t.isLt
  rw [field, pack_header_toNat k n t hn]
  omega

/-! ### Frames on the ring -/

/-- A payload length fits its field of 4 bits up to 15 words. -/
theorem parseFrame_words (f : Frame) (hf : f.payload.length ≤ 15) : parseFrame f.words 0 = some f := by
  simp [parseFrame, Frame.words, Frame.body, field_kind, field_length, field_tag, hf]

theorem checkedFrame_words (f : Frame) (hf : f.payload.length ≤ 15) (hc : checkWord f.body = f.check) :
    checkedFrame f.words 0 = some f := by
  simp [checkedFrame, parseFrame_words f hf, hc]

@[simp] theorem sealFrame_src (own : Byte) (o : OwnFrame) : (sealFrame own o).src = own := rfl

/-- The body leaves the check word out, so that sealing does not disturb what the check is formed over (R2). -/
theorem sealFrame_check (own : Byte) (o : OwnFrame) :
    checkWord (sealFrame own o).body = (sealFrame own o).check := by
  simp only [sealFrame, Frame.body]

theorem checkedFrame_sealFrame (own : Byte) (o : OwnFrame) (ho : o.payload.length ≤ 15) :
    checkedFrame (sealFrame own o).words 0 = some (sealFrame own o) :=
  checkedFrame_words _ ho (sealFrame_check own o)

/-! ### The arrival of a frame -/

theorem exec_frameArrival (ws : List Word) (n : Nat) (s : State) :
    exec (.frameArrival ws n) s = .next (settle (frameArrives ws n s)) := rfl

theorem frameArrives_of_checked {ws : List Word} {n : Nat} {f : Frame} (s : State)
    (hf : checkedFrame ws n = some f) : frameArrives ws n s = classify f s := by
  simp [frameArrives, hf]

/-- The own address as source is looked at before the destination (R8 to R12). -/
theorem classify_of_own (f : Frame) (s : State) (h : f.src = s.ring.own) : classify f s = s := by
  simp [classify, h]

theorem exec_frameArrival_of_own {ws : List Word} {n : Nat} {f : Frame} {s : State}
    (hf : checkedFrame ws n = some f) (hsrc : f.src = s.ring.own) (hs : s.Settled) :
    exec (.frameArrival ws n) s = .next s := by
  rw [exec_frameArrival, frameArrives_of_checked s hf, classify_of_own f s hsrc, settle_of_settled s hs]

/-- Settles O14: the classifier strips the frame before anything else looks at it, and the end of a command finds
nothing to do in a settled state; a frame the part has sealed comes back through its own check. -/
theorem ownFrameStripped : Obligations.OwnFrameStripped :=
  ⟨fun _ _ _ _ hf hsrc hs => exec_frameArrival_of_own hf hsrc hs,
   fun o s ho hs => exec_frameArrival_of_own (checkedFrame_sealFrame s.ring.own o ho) (sealFrame_src s.ring.own o) hs⟩

end Sys2Proof.Machine
end

section
/-!
PROOFS. A frame the part has placed stays placed through all traffic, so that a reply given in an execution stands at
its end (R180, R187); and CANCEL empties the gate's queue alone (R107).
-/

namespace Sys2Proof.Machine

/-! ### Placed frames stay placed -/

/-- Every own frame placed in `s` is placed in `t`: it waits still, or RING-OUT has taken it. -/
def KeepsPlaced (s t : State) : Prop :=
  ∀ e f, offeredReport [e] = some f → s.Placed e f → t.Placed e f

theorem KeepsPlaced.refl (s : State) : KeepsPlaced s s := fun _ _ _ h => h

theorem KeepsPlaced.trans {s t u : State} (h : KeepsPlaced s t) (k : KeepsPlaced t u) : KeepsPlaced s u :=
  fun e f he hp => k e f he (h e f he hp)

theorem KeepsPlaced.replied {s t : State} (h : KeepsPlaced s t) {f : Frame} {a : Answer} (hr : s.Replied f a) :
    t.Replied f a :=
  h _ _ rfl hr

theorem ne_reserved_of_offered {e : ReportEntry} {f : OwnFrame} (he : offeredReport [e] = some f) : e ≠ .reserved := by
  rintro rfl
  cases he

theorem offeredReport_cons (e : ReportEntry) (r : List ReportEntry) : offeredReport (e :: r) = offeredReport [e] := by
  cases e <;> rfl

/-- With RING-OUT untouched, only the report FIFO has to be looked at. -/
theorem KeepsPlaced.of_report {s t : State} (hring : t.ring = s.ring)
    (hreport : ∀ e ∈ s.req.report, e ≠ .reserved → e ∈ t.req.report) : KeepsPlaced s t := by
  intro e f he hp
  rcases hp with hwait | hout
  · exact .inl (hreport e hwait (ne_reserved_of_offered he))
  · exact .inr (by rw [hring]; exact hout)

/-! ### The arbiter -/

/-- An entry that waits is granted RING-OUT or waits on (R18). -/
theorem grantOwn_placed {s : State} {e : ReportEntry} {f : OwnFrame} (he : offeredReport [e] = some f)
    (h : e ∈ s.req.report) : (grantOwn s).Placed e f := by
  unfold grantOwn
  split
  · split <;> exact .inl h
  · split
    next own hown =>
      cases hr : s.req.report with
      | nil => simp [hr] at h
      | cons head rest =>
        rw [hr, offeredReport_cons] at hown
        rw [hr, List.mem_cons] at h
        rcases h with rfl | hrest
        · have hf : own = f := Option.some.inj (hown.symm.trans he)
          exact .inr (by simp [hf])
        · exact .inl (by simpa [hr] using hrest)
    next => exact .inl h

theorem grantTransit_report (n : Nat) (s : State) : (grantTransit n s).req.report = s.req.report := by
  unfold grantTransit
  split <;> rfl

theorem grant_placed {s : State} {e : ReportEntry} {f : OwnFrame} (he : offeredReport [e] = some f)
    (h : e ∈ s.req.report) : (grant s).Placed e f := by
  have htransit (n : Nat) : (grantTransit n s).Placed e f := .inl (by rwa [grantTransit_report])
  unfold grant
  split
  · split
    · exact grantOwn_placed he h
    · exact .inl h
  · split
    · exact htransit _
    · split
      · exact htransit _
      · split
        · exact htransit _
        · exact grantOwn_placed he h

/-- The arbiter chooses only while RING-OUT is IDLE, when no frame is placed there (R16). -/
theorem arbitrate_keepsPlaced (s : State) : KeepsPlaced s (arbitrate s) := by
  intro e f he hp
  by_cases hidle : s.ring.out = .idle
  · have hwait : e ∈ s.req.report := hp.resolve_right (by simp [hidle])
    simpa [arbitrate, hidle] using grant_placed he hwait
  · rwa [arbitrate_of_sending s hidle]

theorem settleRotation_keepsPlaced (s : State) : KeepsPlaced s (settleRotation s) := by
  unfold settleRotation
  split
  · exact .refl s
  · exact fun _ _ _ hp => hp

/-! ### The reservation (R180) -/

theorem mem_fillReservation {e : ReportEntry} (f : OwnFrame) {r : List ReportEntry} (h : e ∈ r) (he : e ≠ .reserved) :
    e ∈ fillReservation f r := by
  induction r with
  | nil => exact h
  | cons x rest ih => cases x <;> grind [fillReservation]

theorem reply_mem_fillReservation (f : OwnFrame) {r : List ReportEntry} (h : .reserved ∈ r) :
    .reply f ∈ fillReservation f r := by
  induction r with
  | nil => cases h
  | cons x rest ih => cases x <;> simp_all [fillReservation]

theorem mem_dropReservation {e : ReportEntry} {r : List ReportEntry} (h : e ∈ r) (he : e ≠ .reserved) :
    e ∈ dropReservation r := by
  induction r with
  | nil => exact h
  | cons x rest ih => cases x <;> grind [dropReservation]

theorem placeReply_keepsPlaced (f : Frame) (a : Answer) (s : State) : KeepsPlaced s (placeReply f a s) := by
  refine KeepsPlaced.trans ?_ (arbitrate_keepsPlaced _)
  exact .of_report rfl fun _ h he => mem_fillReservation _ h he

/-- A reply with an entry reserved for it is placed (R180, R187). -/
theorem placeReply_replied (f : Frame) (a : Answer) {s : State} (h : .reserved ∈ s.req.report) :
    (placeReply f a s).Replied f a :=
  (arbitrate_keepsPlaced _).replied (.inl (reply_mem_fillReservation _ h))

theorem releaseReservation_keepsPlaced (s : State) : KeepsPlaced s (releaseReservation s) := by
  refine KeepsPlaced.trans ?_ ((settleRotation_keepsPlaced _).trans (arbitrate_keepsPlaced _))
  exact .of_report rfl fun _ h he => mem_dropReservation h he

/-! ### The end of an execution and the chance for the next -/

theorem startExecution_keepsPlaced (s : State) : KeepsPlaced s (startExecution s) := by
  unfold startExecution
  split
  · exact .of_report rfl fun _ h _ => List.mem_append_left _ h
  · exact .refl s

theorem endExecution_keepsPlaced (s : State) : KeepsPlaced s (endExecution s) := .of_report rfl fun _ h _ => h

theorem answerUnlisted_keepsPlaced (f : Frame) (s : State) : KeepsPlaced s (answerUnlisted f s) := by
  unfold answerUnlisted
  refine KeepsPlaced.trans ?_ (endExecution_keepsPlaced _)
  split
  · exact releaseReservation_keepsPlaced s
  · exact placeReply_keepsPlaced f _ s

theorem nextExecution_keepsPlaced (n : Nat) (s : State) : KeepsPlaced s (nextExecution n s) := by
  induction n generalizing s with
  | zero => exact .refl s
  | succ n ih =>
    unfold nextExecution
    split
    · split
      · split
        · exact startExecution_keepsPlaced s
        · exact ((startExecution_keepsPlaced s).trans (answerUnlisted_keepsPlaced _ _)).trans (ih _)
      · exact .refl s
    · exact .refl s

theorem updateFaultLine_keepsPlaced (s : State) : KeepsPlaced s (updateFaultLine s) := .of_report rfl fun _ h _ => h

theorem settle_keepsPlaced (s : State) : KeepsPlaced s (settle s) :=
  (nextExecution_keepsPlaced _ s).trans (updateFaultLine_keepsPlaced _)

theorem onGate_keepsPlaced (s : State) (g : GateNo) (φ : Gate → Gate) : KeepsPlaced s (s.onGate g φ) :=
  .of_report rfl fun _ h _ => h

/-! ### A request that is answered DONE (R180) -/

section serveDone

variable {r : RequestName} {f : Frame} {s : State} {answer : Frame → State → Answer} {effect : Frame → State → State}
  (hx : s.Executing r f) (ha : answer f s = refuse .done)

include hx ha

/-- The reply is placed, the effect carried out, and the execution over. -/
theorem serve_of_done :
    serve r answer effect s = settle (endExecution (effect f (placeReply f (refuse .done) s))) := by
  obtain ⟨hexec, hname, _, hheard⟩ := hx
  simp [serve, State.executes, hexec, hname, hheard, ha, refuse]

/-- The reply stands at the end when the effect disturbs no placed frame. -/
theorem serve_replied_of_done (hkeeps : ∀ u, KeepsPlaced u (effect f u)) :
    (serve r answer effect s).Replied f (refuse .done) := by
  rw [serve_of_done hx ha]
  obtain ⟨_, _, hreserved, _⟩ := hx
  exact (((hkeeps _).trans (endExecution_keepsPlaced _)).trans (settle_keepsPlaced _)).replied
    (placeReply_replied f _ hreserved)

/-- Around its effect an execution only moves traffic: an effect that respects traffic may be read off the state in
which the execution was begun. -/
theorem serve_traffic_of_done (heffect : ∀ u, OnlyTraffic s u → OnlyTraffic (effect f s) (effect f u)) :
    OnlyTraffic (effect f s) (serve r answer effect s) := by
  rw [serve_of_done hx ha]
  exact ((heffect _ (placeReply_traffic f _ s)).trans (endExecution_traffic _)).trans (settle_traffic _)

end serveDone

/-- In RUN a well-formed order of a permitted source is decided by its own checks (R180). -/
theorem decideOrder_of_run {f : Frame} {s : State} (own : Result) (hright : s.mayOrder f.src = true)
    (hrun : s.sup.device = .run) : decideOrder f s false own = refuse own := by
  simp [decideOrder, decideRequest, hright, hrun]

/-! ### CANCEL (R107) -/

@[simp] theorem gateOfNat_val (g : GateNo) : gateOfNat g.val = some g := by
  simp [gateOfNat]

/-- The same change to one gate keeps two states apart by traffic alone. -/
theorem OnlyTraffic.onGate {s t : State} (h : OnlyTraffic s t) (g : GateNo) (φ : Gate → Gate) :
    OnlyTraffic (s.onGate g φ) (t.onGate g φ) :=
  { h with gates := by simp [State.onGate, h.gates, h.gate] }

theorem effectCancel_of_gate {f : Frame} {g : GateNo} (hg : orderGate f = g.val) (s : State) :
    effectCancel f s = s.onGate g (fun x => { x with queue := [] }) := by
  simp [effectCancel, hg]

theorem answerCancel_of_run {f : Frame} {s : State} {g : GateNo} (hg : orderGate f = g.val)
    (hright : s.mayOrder f.src = true) (hrun : s.sup.device = .run) : answerCancel f s = refuse .done := by
  simp [answerCancel, hg, decideOrder_of_run _ hright hrun]

theorem exec_cancel (s : State) : exec .cancel s = .next (serve .cancel answerCancel effectCancel s) := rfl

/-- Settles O50: CANCEL has no check of its own, and its effect is one change to one gate, which respects traffic and
disturbs no placed frame. -/
theorem cancelEmptiesQueue : Obligations.CancelEmptiesQueue := by
  intro f s g hx hg hright hrun
  have hdone : answerCancel f s = refuse .done := answerCancel_of_run hg hright hrun
  refine ⟨_, exec_cancel s, ?_, ?_⟩
  · apply serve_replied_of_done hx hdone
    intro u
    rw [effectCancel_of_gate hg]
    exact onGate_keepsPlaced u g _
  · rw [← effectCancel_of_gate hg]
    apply serve_traffic_of_done hx hdone
    intro u hu
    rw [effectCancel_of_gate hg, effectCancel_of_gate hg]
    exact hu.onGate g _

end Sys2Proof.Machine
end

section
/-!
PROOFS. Traffic in detail: what a grant of RING-OUT does to the slot it serves, that a posted setpoint and a placed frame
stay where they are, and that a busy RING-OUT is left alone (R16 to R18, R133).
-/

namespace Sys2Proof.Machine

/-! ### A slot that is granted RING-OUT -/

/-- `y` is the hoist `x`, or `x` with the frame of its slot granted RING-OUT (R133). -/
def Hoist.GrantedFrom (x y : Hoist) : Prop :=
  y = x ∨ ∃ sl, x.slot = some sl ∧ y = { x with slot := some { sl with phase := .sending } }

theorem Hoist.GrantedFrom.refl (x : Hoist) : x.GrantedFrom x := .inl rfl

theorem Hoist.GrantedFrom.trans {x y z : Hoist} (h : x.GrantedFrom y) (k : y.GrantedFrom z) : x.GrantedFrom z := by
  rcases h with rfl | ⟨sl, hsl, rfl⟩
  · exact k
  · rcases k with rfl | ⟨sl', hsl', rfl⟩
    · exact .inr ⟨sl, hsl, rfl⟩
    · obtain rfl : _ = sl' := Option.some.inj hsl'
      exact .inr ⟨sl, hsl, rfl⟩

theorem Hoist.GrantedFrom.exceptPhase {x y : Hoist} (h : x.GrantedFrom y) : y.exceptPhase = x.exceptPhase := by
  rcases h with rfl | ⟨sl, hsl, rfl⟩
  · rfl
  · simp [Hoist.exceptPhase, hsl]

theorem Hoist.GrantedFrom.slot_some {x y : Hoist} (h : x.GrantedFrom y) {sl : Slot} (hsl : x.slot = some sl) :
    ∃ p, (p = sl.phase ∨ p = .sending) ∧ y.slot = some { sl with phase := p } := by
  rcases h with rfl | ⟨sl', hsl', rfl⟩
  · exact ⟨sl.phase, .inl rfl, hsl⟩
  · obtain rfl : sl = sl' := Option.some.inj (hsl.symm.trans hsl')
    exact ⟨.sending, .inr rfl, rfl⟩

/-! ### Traffic -/

/-- Between `s` and `t` there was traffic alone: slots are granted at most, a waiting post is sent or waits on, placed
frames stay placed, and a busy RING-OUT goes on. -/
structure Flow (s t : State) : Prop where
  traffic : OnlyTraffic s t
  hoists : ∀ h, (s.hoist h).GrantedFrom (t.hoist h)
  outside : ∀ h, h ∉ s.post.queue → t.hoist h = s.hoist h
  queue : ∀ h, h ∈ t.post.queue → h ∈ s.post.queue
  posting : ∀ h sl, h ∈ s.post.queue → (s.hoist h).slot = some sl →
    h ∈ t.post.queue ∨ ∃ x, t.ring.out = .post h x ∧ x.tag = sl.tag
  placed : KeepsPlaced s t
  busy : s.ring.out ≠ .idle → t.ring = { s.ring with consecutive := t.ring.consecutive }

theorem out_of_busy {s t : State} (h : t.ring = { s.ring with consecutive := t.ring.consecutive }) :
    t.ring.out = s.ring.out := by
  rw [h]

theorem busy_trans {s t u : State} (h : s.ring.out ≠ .idle → t.ring = { s.ring with consecutive := t.ring.consecutive })
    (k : t.ring.out ≠ .idle → u.ring = { t.ring with consecutive := u.ring.consecutive }) (hs : s.ring.out ≠ .idle) :
    u.ring = { s.ring with consecutive := u.ring.consecutive } := by
  have ht := h hs
  rw [k (by rwa [out_of_busy ht]), ht]

/-- With hoists, post queue and RING-OUT untouched, only the report FIFO has to be looked at. -/
theorem Flow.of_report {s t : State} (htraffic : OnlyTraffic s t) (hhoists : t.hoists = s.hoists) (hpost : t.post = s.post)
    (hring : t.ring = s.ring) (hreport : ∀ e ∈ s.req.report, e ≠ .reserved → e ∈ t.req.report) : Flow s t where
  traffic := htraffic
  hoists := fun h => .inl (by simp [State.hoist, hhoists])
  outside := fun h _ => by simp [State.hoist, hhoists]
  queue := fun h hq => by rwa [hpost] at hq
  posting := fun h sl hq _ => .inl (by rwa [hpost])
  placed := .of_report hring hreport
  busy := fun _ => by rw [hring]

theorem Flow.refl (s : State) : Flow s s := .of_report (.refl s) rfl rfl rfl fun _ h _ => h

theorem Flow.trans {s t u : State} (h : Flow s t) (k : Flow t u) : Flow s u where
  traffic := h.traffic.trans k.traffic
  hoists := fun x => (h.hoists x).trans (k.hoists x)
  outside := fun x hx => (k.outside x (fun hq => hx (h.queue x hq))).trans (h.outside x hx)
  queue := fun x hx => h.queue x (k.queue x hx)
  posting := by
    intro x sl hq hsl
    rcases h.posting x sl hq hsl with hq' | ⟨f, hout, htag⟩
    · obtain ⟨p, _, hsl'⟩ := (h.hoists x).slot_some hsl
      exact k.posting x { sl with phase := p } hq' hsl'
    · right
      refine ⟨f, ?_, htag⟩
      rw [out_of_busy (k.busy (by simp [hout])), hout]
  placed := h.placed.trans k.placed
  busy := busy_trans h.busy k.busy

/-- A posted setpoint stays posted (R131, R133). -/
theorem posted_of_granted {s t : State} {h : HoistNo} {sp : Setpoint} (hx : (s.hoist h).GrantedFrom (t.hoist h))
    (hd : t.driveOf h = s.driveOf h) (hp : s.Posted h sp) : t.Posted h sp := by
  obtain ⟨⟨tag, phase, htag, hphase, hslot⟩, hlast⟩ := hp
  obtain ⟨p, hp, hslot'⟩ := hx.slot_some hslot
  refine ⟨⟨tag, p, htag, ?_, by rw [hslot', hd]⟩, ?_⟩
  · rcases hp with rfl | rfl
    · exact hphase
    · exact .inr rfl
  · rw [Hoist.lastPosted_of_exceptPhase hx.exceptPhase, hlast]

theorem Flow.posted {s t : State} (h : Flow s t) {k : HoistNo} {sp : Setpoint} (hp : s.Posted k sp) : t.Posted k sp :=
  posted_of_granted (h.hoists k) (h.traffic.driveOf k) hp

theorem Flow.replied {s t : State} (h : Flow s t) {f : Frame} {a : Answer} (hr : s.Replied f a) : t.Replied f a :=
  h.placed.replied hr

theorem Flow.gate {s t : State} (h : Flow s t) (g : GateNo) : t.gate g = s.gate g := h.traffic.gate g

theorem Flow.sup {s t : State} (h : Flow s t) : t.sup = s.sup := h.traffic.sup

/-! ### The arbiter -/

theorem grantTransit_flow (n : Nat) {s : State} (hidle : s.ring.out = .idle) : Flow s (grantTransit n s) where
  traffic := grantTransit_traffic n s
  hoists := fun h => .inl (by unfold grantTransit; split <;> rfl)
  outside := fun h _ => by unfold grantTransit; split <;> rfl
  queue := fun h hq => by unfold grantTransit at hq; split at hq <;> exact hq
  posting := fun h sl hq _ => .inl (by unfold grantTransit; split <;> exact hq)
  placed := fun e f _ hp => .inl (by rw [grantTransit_report]; exact hp.resolve_right (by simp [hidle]))
  busy := fun h => absurd hidle h

theorem grantOwn_placed_of_idle {s : State} (hidle : s.ring.out = .idle) : KeepsPlaced s (grantOwn s) :=
  fun _ _ he hp => grantOwn_placed he (hp.resolve_right (by simp [hidle]))

/-- The head of the post queue is granted when its slot is occupied, and otherwise dropped; without one, the head of the
report FIFO (R18). -/
theorem grantOwn_flow {s : State} (hidle : s.ring.out = .idle) : Flow s (grantOwn s) where
  traffic := grantOwn_traffic s
  placed := grantOwn_placed_of_idle hidle
  busy := fun h => absurd hidle h
  hoists := by
    intro h
    unfold grantOwn
    split
    next k rest hq =>
      split
      next sl hsl =>
        by_cases hk : h = k
        · subst hk; exact .inr ⟨sl, hsl, by simp⟩
        · exact .inl (by simp [State.hoist_onHoist_ne, hk])
      next => exact .inl rfl
    next => split <;> exact .inl rfl
  outside := by
    intro h hn
    unfold grantOwn
    split
    next k rest hq =>
      have hk : h ≠ k := fun e => hn (by simp [hq, e])
      split
      · simp [State.hoist_onHoist_ne, hk]
      · rfl
    next => split <;> rfl
  queue := by
    intro h hm
    unfold grantOwn at hm
    split at hm
    next k rest hq =>
      rw [hq]
      split at hm <;> exact List.mem_cons_of_mem k hm
    next => split at hm <;> exact hm
  posting := by
    intro h sl hm hsl
    unfold grantOwn
    split
    next k rest hq =>
      rw [hq, List.mem_cons] at hm
      rcases hm with rfl | hrest
      · right
        simp only [hsl]
        exact ⟨_, rfl, rfl⟩
      · left
        split <;> exact hrest
    next hq => simp [hq] at hm

theorem zeroRotation_flow (s : State) : Flow s (s.onRing (fun r => { r with consecutive := 0 })) where
  traffic := onRing_traffic s _ rfl rfl rfl rfl
  hoists := fun _ => .inl rfl
  outside := fun _ _ => rfl
  queue := fun _ h => h
  posting := fun _ _ h _ => .inl h
  placed := fun _ _ _ h => h
  busy := fun _ => rfl

theorem grant_flow {s : State} (hidle : s.ring.out = .idle) : Flow s (grant s) := by
  unfold grant
  split
  · split
    · exact grantOwn_flow hidle
    · exact zeroRotation_flow s
  · split
    · exact grantTransit_flow _ hidle
    · split
      · exact grantTransit_flow _ hidle
      · split
        · exact grantTransit_flow _ hidle
        · exact grantOwn_flow hidle

theorem arbitrate_flow (s : State) : Flow s (arbitrate s) := by
  by_cases hidle : s.ring.out = .idle
  · simpa [arbitrate, hidle] using grant_flow hidle
  · rw [arbitrate_of_sending s hidle]; exact .refl s

theorem settleRotation_flow (s : State) : Flow s (settleRotation s) := by
  unfold settleRotation
  split
  · exact .refl s
  · exact zeroRotation_flow s

/-! ### Requests and the end of a command -/

/-- A change of the request unit that keeps every placed frame. -/
theorem onReq_flow (s : State) (φ : RequestUnit → RequestUnit) (hlost : (φ s.req).requestLost = s.req.requestLost)
    (hnotice : (φ s.req).noticeLost = s.req.noticeLost)
    (hreport : ∀ e ∈ s.req.report, e ≠ .reserved → e ∈ (φ s.req).report) : Flow s (s.onReq φ) :=
  .of_report (onReq_traffic s φ hlost hnotice) rfl rfl rfl hreport

theorem placeReply_flow (f : Frame) (a : Answer) (s : State) : Flow s (placeReply f a s) :=
  (onReq_flow s _ rfl rfl fun _ h he => mem_fillReservation _ h he).trans (arbitrate_flow _)

theorem releaseReservation_flow (s : State) : Flow s (releaseReservation s) :=
  (onReq_flow s _ rfl rfl fun _ h he => mem_dropReservation h he).trans
    ((settleRotation_flow _).trans (arbitrate_flow _))

theorem startExecution_flow (s : State) : Flow s (startExecution s) := by
  unfold startExecution
  split
  · exact onReq_flow s _ rfl rfl fun _ h _ => List.mem_append_left _ h
  · exact .refl s

theorem endExecution_flow (s : State) : Flow s (endExecution s) := onReq_flow s _ rfl rfl fun _ h _ => h

theorem answerUnlisted_flow (f : Frame) (s : State) : Flow s (answerUnlisted f s) := by
  unfold answerUnlisted
  refine Flow.trans ?_ (endExecution_flow _)
  split
  · exact releaseReservation_flow s
  · exact placeReply_flow f _ s

theorem nextExecution_flow (n : Nat) (s : State) : Flow s (nextExecution n s) := by
  induction n generalizing s with
  | zero => exact .refl s
  | succ n ih =>
    unfold nextExecution
    split
    · split
      · split
        · exact startExecution_flow s
        · exact ((startExecution_flow s).trans (answerUnlisted_flow _ _)).trans (ih _)
      · exact .refl s
    · exact .refl s

theorem updateFaultLine_flow (s : State) : Flow s (updateFaultLine s) :=
  .of_report (updateFaultLine_traffic s) rfl rfl rfl fun _ h _ => h

/-- What every command ends with is traffic (R154, R180). -/
theorem settle_flow (s : State) : Flow s (settle s) := (nextExecution_flow _ s).trans (updateFaultLine_flow _)

end Sys2Proof.Machine
end

section
/-!
PROOFS. The sequencer's operations in normal form: one change of the gate, then posts, then timers (R110, R115, R160).
-/

namespace Sys2Proof.Machine

/-! ### Gate changes commute with posts -/

theorem State.onGate_onGate (s : State) (g : GateNo) (φ ψ : Gate → Gate) :
    (s.onGate g φ).onGate g ψ = s.onGate g (fun x => ψ (φ x)) := by
  simp [State.onGate, State.gate, Vector.set_set]

theorem State.onGate_congr {s : State} {g : GateNo} {φ ψ : Gate → Gate} (h : φ (s.gate g) = ψ (s.gate g)) :
    s.onGate g φ = s.onGate g ψ := by
  simp [State.onGate, h]

theorem State.onGate_self {s : State} {g : GateNo} {φ : Gate → Gate} (h : φ (s.gate g) = s.gate g) :
    s.onGate g φ = s := by
  unfold State.onGate
  rw [h]
  simp [State.gate]

theorem State.onHoist_onHoist (s : State) (h : HoistNo) (φ ψ : Hoist → Hoist) :
    (s.onHoist h φ).onHoist h ψ = s.onHoist h (fun x => ψ (φ x)) := by
  simp [State.onHoist, State.hoist, Vector.set_set]

theorem arbitrate_onGate (s : State) (g : GateNo) (φ : Gate → Gate) :
    arbitrate (s.onGate g φ) = (arbitrate s).onGate g φ := by
  have howns : grantOwn (s.onGate g φ) = (grantOwn s).onGate g φ := by
    unfold grantOwn
    simp only [State.onGate_post, State.onGate_req, State.onGate_hoist]
    split
    · split <;> rfl
    · split <;> rfl
  have htransit (n : Nat) : grantTransit n (s.onGate g φ) = (grantTransit n s).onGate g φ := by
    unfold grantTransit
    simp only [State.onGate_ring]
    split <;> rfl
  have hwaiting : (s.onGate g φ).ownWaiting = s.ownWaiting := rfl
  have hgrant : grant (s.onGate g φ) = (grant s).onGate g φ := by
    unfold grant
    simp only [State.onGate_ring, State.onGate_store, howns, htransit, hwaiting]
    split_ifs <;> rfl
  unfold arbitrate
  rw [hgrant]
  simp only [State.onGate_ring]
  cases s.ring.out <;> rfl

/-- The slot of hoist `h` as a post leaves it (R131, R132). -/
def occupySlot (h : HoistNo) (sp : Setpoint) (tag : Byte) (s : State) : State :=
  s.onHoist h (fun x => { x with slot := some ⟨sp, s.driveOf h, tag, 0, .waiting, none⟩, lastPosted := some sp })

/-- A frame merged in its slot keeps its place in the post queue (R132). -/
theorem placePost_of_waiting {h : HoistNo} {s : State} (sp : Setpoint) (hp : (s.hoist h).phase = some .waiting) :
    placePost h sp s = arbitrate (occupySlot h sp (nextTag s.post.tagCounter) (takeTag s)) := by
  unfold placePost
  simp only [if_pos hp]
  rfl

/-- Any other joins the tail of the post queue (R131). -/
theorem placePost_of_not_waiting {h : HoistNo} {s : State} (sp : Setpoint) (hp : (s.hoist h).phase ≠ some .waiting) :
    placePost h sp s = arbitrate (occupySlot h sp (nextTag s.post.tagCounter)
      ((takeTag s).onPost (fun p => { p with queue := p.queue ++ [h] }))) := by
  unfold placePost
  simp only [if_neg hp]
  rfl

/-- A gate change that keeps the mode and a post may change places (R131). -/
theorem post_onGate (h : HoistNo) (sp : Setpoint) (s : State) (g : GateNo) (φ : Gate → Gate)
    (hmode : (φ (s.gate g)).mode = (s.gate g).mode) : post h sp (s.onGate g φ) = (post h sp s).onGate g φ := by
  have hg : ((s.onGate g φ).gate (gateOf h)).mode = (s.gate (gateOf h)).mode := by
    rw [State.gate_onGate]
    split
    next e => rw [e, hmode]
    next => rfl
  have hmay (c : Command) : (s.onGate g φ).mayPost h c = s.mayPost h c := by
    unfold State.mayPost
    rw [hg]
    rfl
  have hplace : placePost h sp (s.onGate g φ) = (placePost h sp s).onGate g φ := by
    by_cases hp : (s.hoist h).phase = some .waiting
    · rw [placePost_of_waiting sp hp, placePost_of_waiting (s := s.onGate g φ) sp hp, ← arbitrate_onGate]
      rfl
    · rw [placePost_of_not_waiting sp hp, placePost_of_not_waiting (s := s.onGate g φ) sp hp, ← arbitrate_onGate]
      rfl
  unfold post
  rw [hmay, hplace]
  split_ifs <;> rfl

theorem postStops_onGate (k : GateNo) (s : State) (g : GateNo) (φ : Gate → Gate)
    (hmode : (φ (s.gate g)).mode = (s.gate g).mode) : postStops k (s.onGate g φ) = (postStops k s).onGate g φ := by
  have hl : postStop (leftHoist k) (s.onGate g φ) = (postStop (leftHoist k) s).onGate g φ := by
    simp only [postStop, State.onGate_hoist, post_onGate _ _ _ _ _ hmode]
  unfold postStops
  rw [hl]
  simp only [postStop, State.onGate_hoist]
  rw [post_onGate]
  simpa [post_gate] using hmode

theorem postMoves_onGate (k : GateNo) (x : Int) (v : Speed) (s : State) (g : GateNo) (φ : Gate → Gate)
    (hmode : (φ (s.gate g)).mode = (s.gate g).mode) :
    postMoves k x v (s.onGate g φ) = (postMoves k x v s).onGate g φ := by
  unfold postMoves
  rw [post_onGate _ _ _ _ _ hmode, post_onGate]
  simpa [post_gate] using hmode

/-! ### The normal forms -/

/-- The gate stands MOVING with its timer running; MOVE is posted to both hoists; the settle timers start (R110). -/
theorem startMove_eq (g : GateNo) (c : MoveContext) (s : State) :
    startMove g c s =
      startSettle g (postMoves g c.target c.speed (s.onGate g (fun x => x.started c (moveTimeLimit (s.record g))))) := by
  have hrecord := ((onGate_surroundings s g (fun x => { x with motion := .moving, context := some c, trimHoist := none })).trans
    (postMoves_surroundings g c.target c.speed _)).record g
  unfold startMove
  simp only [hrecord]
  rw [← postMoves_onGate _ _ _ _ _ _ rfl, State.onGate_onGate]
  rfl

/-- The gate stands STOPPING with its timer running; STOP is posted to both hoists (R115). -/
theorem enterStopping_eq (g : GateNo) (s : State) :
    enterStopping g s = postStops g (s.onGate g (fun _ => s.stoppedGate g)) := by
  have hstore := ((onGate_surroundings s g (fun x => { x with motion := .stopping, moveTimer := none, trimHoist := none })).trans
    (postStops_surroundings g _)).store
  unfold enterStopping
  simp only [hstore]
  rw [← postStops_onGate _ _ _ _ rfl, State.onGate_onGate]
  rfl

theorem savedMove_eq (s : State) (g : GateNo) (c : Cause) : s.savedMove g c = (s.faultedGate g c).save := by
  have hcode : BitVec.ofNat 8 (2 ^ c.code) = 1#8 <<< c.code := by cases c <;> rfl
  unfold State.savedMove State.faultedGate
  dsimp only
  rw [hcode]
  cases (s.gate g).context <;> rfl

/-- The gate stands as the fault leaves it; STOP is posted to both hoists; the GATE-FAULT notice is offered (R160). -/
theorem faultStop_savedMove_eq (g : GateNo) (c : Cause) (b : Bool) (s : State) :
    faultStop g (s.savedMove g c) b s =
      notify (gateFaultPayload g (s.savedMove g c) b) (postStops g (s.onGate g (fun _ => s.faultedGate g c))) := by
  have hstore := ((onGate_surroundings s g (fun x =>
    { x with moveTimer := none, stopTimer := none, save := s.savedMove g c, context := none, trimHoist := none,
             motion := .faultStopping })).trans (postStops_surroundings g _)).store
  unfold faultStop
  simp only [hstore]
  rw [← postStops_onGate _ _ _ _ rfl, State.onGate_onGate]
  congr 2
  apply State.onGate_congr
  rw [savedMove_eq]
  rfl

theorem releaseResumed_eq (r : SaveRecord) :
    r.releaseResumed = { r with occupied := r.occupied && !r.resumed, resumed := false } := by
  rcases r with ⟨occupied, resumed, _⟩
  cases resumed <;> simp [SaveRecord.releaseResumed]

/-- The gate stands as the completion leaves it; the drain is tested and the originator told (R113). -/
theorem completeMove_eq (g : GateNo) (c : MoveContext) (s : State) :
    completeMove g c s =
      notifyArrived g c.target c.origin (testDrain (s.onGate g (fun x => x.completed c.target c.origin))) := by
  unfold completeMove Gate.completed
  simp only [releaseResumed_eq]

theorem issueMove_eq (g : GateNo) (c : MoveContext) (s : State) :
    issueMove g c s = if s.withinTolerance g c.target then completeMove g c s else startMove g c s := rfl

theorem contextFor_eq_capture (s : State) (g : GateNo) (x : Int) (v : Speed) (o : Origin) :
    s.capture g x v o = s.contextFor g x v o := by
  simp [State.capture, State.contextFor, State.gatePosition, State.leftOf, State.rightOf, Int.fdiv_eq_ediv]

end Sys2Proof.Machine
end

section
/-!
PROOFS. What the sequencers and the Hoist Interface can do, said once: every operation on gates and hoists is a run of the
elementary changes of `Work`, and a gate changes by the steps of `GateStep` alone. The rules of the part are proved against
these few cases.
-/

namespace Sys2Proof.Machine

/-! ### The elementary changes -/

/-- The gate is in no state that rule R87 gives to OFF. -/
def Gate.Engaged (x : Gate) : Prop := x.mode ≠ .off ∨ x.queue ≠ [] ∨ x.closurePending = true ∨ x.motion ≠ .idle

/-- The gates that gate `g` may become in one change. -/
inductive GateStep (s : State) (g : GateNo) : Gate → Prop
  /-- A move starts or is retargeted (R105, R110). -/
  | start (c : MoveContext) (q : List Entry) (b : Bool) (engaged : (s.gate g).Engaged)
      (ready : (s.gate g).inFlight = true ∨
        ((s.gate g).motion = .idle ∧ s.sup.device = .run ∧ s.sup.holdLine = false))
      (window : s.inWindow g c.target = true ∨ c.target = lowerLimit (s.record g))
      (queue : q.Sublist (s.gate g).queue) :
      GateStep s g { (s.gate g).started c (moveTimeLimit (s.record g)) with queue := q, closurePending := b }
  /-- A saved move is resumed (R168). -/
  | resume (c : MoveContext) (faulted : (s.gate g).motion = .faulted) (run : s.sup.device = .run)
      (free : s.sup.holdLine = false) (window : s.inWindow g c.target = true) :
      GateStep s g { (s.gate g).started c (moveTimeLimit (s.record g)) with
        save := { (s.gate g).save with resumed := true } }
  /-- A move is completed (R113). -/
  | complete (target : Int) (o : Origin) (q : List Entry) (b : Bool) (engaged : (s.gate g).Engaged)
      (ready : (s.gate g).inFlight = true ∨ (s.gate g).motion = .idle) (queue : q.Sublist (s.gate g).queue)
      (pending : b = true → (s.gate g).Engaged) :
      GateStep s g { (s.gate g).completed target o with queue := q, closurePending := b }
  /-- Queue entries go; flags, standing target and indicators change (R66, R75, R96, R106 to R108, R118). -/
  | mark (q : List Entry) (pending tide range blocked : Bool) (standing : Int) (queue : q.Sublist (s.gate g).queue)
      (hpending : pending = true → (s.gate g).Engaged)
      (htide : tide = true → (s.gate g).tideClosed = true ∨ (s.gate g).Engaged) :
      GateStep s g { s.gate g with queue := q, closurePending := pending, tideClosed := tide, rangeFlag := range,
                                   blockedNotice := blocked, standing := standing }
  /-- An automatic request joins the queue (R100, R117). -/
  | request (e : Entry)
      (mode : ((s.gate g).mode = .auto ∧ e.origin = .auto) ∨ ((s.gate g).mode = .flood ∧ e.origin = .flood)) :
      GateStep s g { s.gate g with closurePending := false, tideClosed := false,
                                   queue := joinAutomatic e (s.gate g).queue }
  /-- An order joins the queue (R103). -/
  | order (e : Entry) (src tag : Byte) (mode : (s.gate g).mode = .manual) (room : (s.gate g).queue.length < 4)
      (origin : e.origin = .order src tag) :
      GateStep s g { s.gate g with queue := (s.gate g).queue ++ [e] }
  /-- A move is stopped (R115). -/
  | stop (flight : (s.gate g).inFlight = true) : GateStep s g (s.stoppedGate g)
  /-- A stop ends (R116). -/
  | stopEnd (standing : Int) (stopping : (s.gate g).motion = .stopping) :
      GateStep s g { s.gate g with stopTimer := none, motion := .idle, context := none, standing := standing,
                                   save := (s.gate g).save.releaseResumed }
  /-- A fault (R160). -/
  | fault (c : Cause) (mode : (s.gate g).mode ≠ .off) (sound : (s.gate g).faulty = false) :
      GateStep s g (s.faultedGate g c)
  /-- A cause is added (R161). -/
  | cause (v : BitVec 8) (faulty : (s.gate g).faulty = true) :
      GateStep s g { s.gate g with save := { (s.gate g).save with causes := v } }
  /-- A fault stop ends (R163). -/
  | faultEnd (r : Recoverable) (stopping : (s.gate g).motion = .faultStopping) :
      GateStep s g { s.gate g with stopTimer := none, motion := .faulted,
                                   save := { (s.gate g).save with recoverable := r } }
  /-- TRIM is entered (R112). -/
  | trim (h : HoistNo) (moving : (s.gate g).motion = .moving) :
      GateStep s g { s.gate g with motion := .trim, trimHoist := some h }
  /-- TRIM is left (R112). -/
  | release (trim : (s.gate g).motion = .trim) : GateStep s g { s.gate g with motion := .moving, trimHoist := none }
  /-- A move timer of a gate not in motion is stopped. -/
  | moveTimer (rest : (s.gate g).mode = .off ∨ (s.gate g).inFlight = false) :
      GateStep s g { s.gate g with moveTimer := none }
  /-- The stop timer of a gate not in STOPPING is stopped. -/
  | stopTimer (rest : (s.gate g).mode = .off ∨ (s.gate g).motion ≠ .stopping) :
      GateStep s g { s.gate g with stopTimer := none }
  /-- OFF is entered (R91). -/
  | off (idle : (s.gate g).motion = .idle) :
      GateStep s g { s.gate g with mode := .off, queue := [], closurePending := false, tideClosed := false }
  /-- Another mode is entered (R92 to R95). -/
  | mode (m : Mode) (q : List Entry) (pending tide : Bool) (run : s.sup.device = .run)
      (valid : recordValid (s.record g) = true) (ready : s.hoistsReady g = true)
      (queue : (m = .hold ∧ q = []) ∨ (m = .manual ∧ q = (s.gate g).queue.filter (fun e => !e.automatic)) ∨
        (m = .auto ∧ q = (s.gate g).queue.filter (fun e => e.origin = .auto)) ∨
        (m = .flood ∧ q.length ≤ 1 ∧ ∀ e ∈ q, e.origin = .flood)) :
      GateStep s g { s.gate g with mode := m, queue := q, closurePending := pending, tideClosed := tide }
  /-- A faulted gate is cleared into HOLD (R166). -/
  | clear (standing : Int) (run : s.sup.device = .run) (mode : (s.gate g).mode ≠ .off)
      (faulted : (s.gate g).motion = .faulted) :
      GateStep s g { s.gate g with mode := .hold, motion := .idle, queue := [], closurePending := false,
                                   tideClosed := false, standing := standing,
                                   save := { (s.gate g).save with occupied := false, resumed := false } }

/-- The elementary changes of gates, hoists, posts and notices; gates of `G` and their hoists alone are concerned. -/
inductive Work (G : GateNo → Prop) : State → State → Prop
  | arbitrate (s : State) : Work G s (arbitrate s)
  | tag (s : State) : Work G s (takeTag s)
  | notice (s : State) (f : OwnFrame) (count : noticeCount s.req.report < 12) (room : s.req.report.length < 16) :
      Work G s (s.onReq (fun q => { q with report := q.report ++ [.notice f] }))
  | noticeLost (s : State) : Work G s (s.onReq (fun q => { q with noticeLost := true }))
  | order (s : State) (n : Nat) : Work G s (chooseOrder n s).2
  /-- A MOVE posted is the move in flight or the setpoint posted last (R110, R112, R138). -/
  | post (s : State) (h : HoistNo) (sp : Setpoint) (hG : G (gateOf h)) (may : s.mayPost h sp.command = true)
      (target : sp.command = .move →
        (∃ g c, (s.gate g).mode ≠ .off ∧ (s.gate g).context = some c ∧ sp.target = c.target) ∨
          (s.hoist h).lastPosted = some sp) :
      Work G s (placePost h sp s)
  | empty (s : State) (h : HoistNo) (hG : G (gateOf h)) : Work G s (emptySlot h s)
  | timers (s : State) (h : HoistNo) (φ : Hoist → Hoist) (hG : G (gateOf h))
      (hφ : ∀ x, φ x = { x with refreshTimer := (φ x).refreshTimer, settleTimer := (φ x).settleTimer }) :
      Work G s (s.onHoist h φ)
  | drain (s : State) : Work G s (testDrain s)
  | gate (s : State) (g : GateNo) (φ : Gate → Gate) (hG : G g) (hφ : GateStep s g (φ (s.gate g))) :
      Work G s (s.onGate g φ)

/-- A run of elementary changes. -/
def Works (G : GateNo → Prop) : State → State → Prop := Relation.ReflTransGen (Work G)

theorem Works.refl {G : GateNo → Prop} (s : State) : Works G s s := Relation.ReflTransGen.refl

theorem Works.of {G : GateNo → Prop} {s t : State} (h : Work G s t) : Works G s t := Relation.ReflTransGen.single h

theorem Works.trans {G : GateNo → Prop} {s t u : State} (h : Works G s t) (k : Works G t u) : Works G s u :=
  Relation.ReflTransGen.trans h k

/-- What every elementary change keeps, a run keeps. -/
theorem Works.keeps {G : GateNo → Prop} {P : State → Prop} (hP : ∀ s t, Work G s t → P s → P t) {s t : State}
    (h : Works G s t) (hs : P s) : P t := by
  induction h with
  | refl => exact hs
  | tail _ hstep ih => exact hP _ _ hstep ih

/-- A reflexive and transitive relation that holds of every elementary change holds of a run. -/
theorem Works.relates {G : GateNo → Prop} {R : State → State → Prop} (hrefl : ∀ s, R s s)
    (htrans : ∀ s t u, R s t → R t u → R s u) (hR : ∀ s t, Work G s t → R s t) {s t : State} (h : Works G s t) :
    R s t := by
  induction h with
  | refl => exact hrefl s
  | tail _ hstep ih => exact htrans _ _ _ ih (hR _ _ hstep)

theorem Work.mono {G H : GateNo → Prop} (hGH : ∀ g, G g → H g) {s t : State} (h : Work G s t) : Work H s t := by
  cases h with
  | arbitrate => exact .arbitrate s
  | tag => exact .tag s
  | notice f count room => exact .notice s f count room
  | noticeLost => exact .noticeLost s
  | order n => exact .order s n
  | post h sp hG may target => exact .post s h sp (hGH _ hG) may target
  | empty h hG => exact .empty s h (hGH _ hG)
  | timers h φ hG hφ => exact .timers s h φ (hGH _ hG) hφ
  | drain => exact .drain s
  | gate g φ hG hφ => exact .gate s g φ (hGH _ hG) hφ

theorem Works.mono {G H : GateNo → Prop} (hGH : ∀ g, G g → H g) {s t : State} (h : Works G s t) : Works H s t :=
  h.relates Works.refl (fun _ _ _ => Works.trans) fun _ _ hstep => .of (hstep.mono hGH)

/-- A fold of operations that are work is work. -/
theorem foldl_works {α : Type} {G : GateNo → Prop} (f : State → α → State) (xs : List α)
    (hf : ∀ s, ∀ a ∈ xs, Works G s (f s a)) (s : State) : Works G s (xs.foldl f s) := by
  induction xs generalizing s with
  | nil => exact .refl s
  | cons a xs ih =>
    exact (hf s a List.mem_cons_self).trans (ih (fun t b hb => hf t b (List.mem_cons_of_mem a hb)) _)

@[simp] theorem gateOf_leftHoist (g : GateNo) : gateOf (leftHoist g) = g := by
  apply Fin.ext
  simp [gateOf, leftHoist]

@[simp] theorem gateOf_rightHoist (g : GateNo) : gateOf (rightHoist g) = g := by
  apply Fin.ext
  simp only [gateOf, rightHoist]
  omega

section operations

variable {G : GateNo → Prop}

/-! ### Notices -/

theorem offerNotice_works (d : Byte) (p : List Word) (s : State) : Works G s (offerNotice d p s) := by
  unfold offerNotice
  dsimp only
  split
  · exact .refl s
  · split
    next hroom =>
      exact ((Works.of (.tag s)).trans (.of (.notice _ _ hroom.1 hroom.2))).trans (.of (.arbitrate _))
    next => exact (Works.of (.tag s)).trans (.of (.noticeLost _))

theorem notify_works (p : List Word) (s : State) : Works G s (notify p s) := offerNotice_works _ p s

theorem notifyArrived_works (g : GateNo) (x : Int) (o : Origin) (s : State) : Works G s (notifyArrived g x o s) := by
  unfold notifyArrived
  split
  · exact offerNotice_works _ _ s
  · exact .refl s

theorem notifyRange_works (g : GateNo) (x : Int) (o : Origin) (s : State) : Works G s (notifyRange g x o s) := by
  unfold notifyRange
  split
  · exact offerNotice_works _ _ s
  · exact .refl s

/-! ### Orders -/

theorem drawOrder_works {α : Type} (n : Nat) (xs : List α) (s : State) : Works G s (drawOrder n xs s).2 := by
  induction n generalizing xs s with
  | zero => exact .refl s
  | succ n ih =>
    unfold drawOrder
    dsimp only
    split
    · exact .refl s
    · split
      · exact .refl s
      · exact (Works.of (.order s _)).trans (ih _ _)

/-! ### Posts and timers -/

theorem mayPost_move_iff (s : State) (h : HoistNo) :
    s.mayPost h .move = true ↔ s.sup.device = .run ∧ (s.gate (gateOf h)).mode ≠ .off := by
  simp [State.mayPost]

theorem mayPost_stop (s : State) (h : HoistNo) : s.mayPost h .stop = true := by simp [State.mayPost]

theorem post_works {h : HoistNo} {sp : Setpoint} {s : State} (hG : G (gateOf h))
    (target : (s.gate (gateOf h)).mode ≠ .off → sp.command = .move →
      (∃ g c, (s.gate g).mode ≠ .off ∧ (s.gate g).context = some c ∧ sp.target = c.target) ∨
        (s.hoist h).lastPosted = some sp) : Works G s (post h sp s) := by
  unfold post
  split
  next may =>
    refine .of (.post s h sp hG may fun hmove => target ?_ hmove)
    exact ((mayPost_move_iff s h).mp (hmove ▸ may)).2
  next => exact .refl s

theorem postStop_works {h : HoistNo} (s : State) (hG : G (gateOf h)) : Works G s (postStop h s) :=
  post_works hG fun _ => nofun

theorem postStops_works {g : GateNo} (s : State) (hG : G g) : Works G s (postStops g s) :=
  (postStop_works s (by simpa)).trans (postStop_works _ (by simpa))

/-- The MOVE of the move in flight goes to both hoists (R110). -/
theorem postMoves_works {g : GateNo} {s : State} {c : MoveContext} (v : Speed) (hG : G g)
    (hc : (s.gate g).context = some c) : Works G s (postMoves g c.target v s) := by
  refine (post_works (by simpa) fun hmode _ => .inl ⟨g, c, ?_, hc, rfl⟩).trans
    (post_works (by simpa) fun hmode _ => .inl ⟨g, c, ?_, by rwa [post_gate], rfl⟩)
  · simpa using hmode
  · simpa using hmode

theorem restartRefresh_works {h : HoistNo} (s : State) (hG : G (gateOf h)) : Works G s (restartRefresh h s) :=
by
  unfold restartRefresh
  exact .of (.timers s h _ hG fun _ => rfl)

theorem startSettle_works {g : GateNo} (s : State) (hG : G g) : Works G s (startSettle g s) := by
  unfold startSettle
  refine (Works.of (.timers s (leftHoist g) _ ?_ fun _ => rfl)).trans (.of (.timers _ (rightHoist g) _ ?_ fun _ => rfl))
    <;> simpa

/-! ### Moves -/

/-- A gate change followed by the start of a move is one step of the gate, two posts and the settle timers. -/
theorem startMove_works {g : GateNo} {s : State} {c : MoveContext} (φ : Gate → Gate) (hG : G g)
    (hφ : GateStep s g ((φ (s.gate g)).started c (moveTimeLimit (s.record g)))) :
    Works G s (startMove g c (s.onGate g φ)) := by
  rw [startMove_eq, State.onGate_onGate]
  refine ((Works.of (.gate s g _ hG hφ)).trans (postMoves_works c.speed hG ?_)).trans (startSettle_works _ hG)
  simp [Gate.started]

theorem completeMove_works {g : GateNo} {s : State} {c : MoveContext} (φ : Gate → Gate) (hG : G g)
    (hφ : GateStep s g ((φ (s.gate g)).completed c.target c.origin)) :
    Works G s (completeMove g c (s.onGate g φ)) := by
  rw [completeMove_eq, State.onGate_onGate]
  exact ((Works.of (.gate s g _ hG hφ)).trans (.of (.drain _))).trans (notifyArrived_works _ _ _ _)

theorem issueMove_works {g : GateNo} {s : State} {c : MoveContext} (φ : Gate → Gate) (hG : G g)
    (hstart : GateStep s g ((φ (s.gate g)).started c (moveTimeLimit (s.record g))))
    (hcomplete : GateStep s g ((φ (s.gate g)).completed c.target c.origin)) :
    Works G s (issueMove g c (s.onGate g φ)) := by
  rw [issueMove_eq]
  split
  · exact completeMove_works φ hG hcomplete
  · exact startMove_works φ hG hstart

/-- What the conditions of issue say (R108). -/
theorem mayIssue_iff (s : State) (g : GateNo) :
    s.mayIssue g = true ↔
      (s.gate g).motion = .idle ∧ s.sup.device = .run ∧ s.sup.holdLine = false ∧ s.bothStill g = true := by
  simp [State.mayIssue, and_assoc]

theorem issueClosure_works {g : GateNo} {s : State} (hG : G g) (hmay : s.mayIssue g = true)
    (hpending : (s.gate g).closurePending = true) : Works G s (issueClosure g s) := by
  obtain ⟨hidle, hrun, hfree, _⟩ := (mayIssue_iff s g).mp hmay
  have hengaged : (s.gate g).Engaged := .inr (.inr (.inl hpending))
  refine (issueMove_works (fun x => { x with closurePending := false }) hG ?_ ?_).trans (notify_works _ _)
  · exact .start _ _ false hengaged (.inr ⟨hidle, hrun, hfree⟩) (.inr rfl) (List.Sublist.refl _)
  · exact .complete _ _ _ false hengaged (.inr hidle) (List.Sublist.refl _) nofun

theorem takeEntry_works {g : GateNo} {s : State} {e : Entry} {rest : List Entry} (hG : G g)
    (hmay : s.mayIssue g = true) (hqueue : (s.gate g).queue = e :: rest) : Works G s (takeEntry g e s) := by
  obtain ⟨hidle, hrun, hfree, _⟩ := (mayIssue_iff s g).mp hmay
  have hengaged : (s.gate g).Engaged := .inr (.inl (by simp [hqueue]))
  have htail : (s.gate g).queue.tail.Sublist (s.gate g).queue := List.tail_sublist _
  unfold takeEntry
  dsimp only
  split
  next hwindow =>
    refine issueMove_works (fun x => { x with queue := x.queue.tail }) hG ?_ ?_
    · exact .start _ _ _ hengaged (.inr ⟨hidle, hrun, hfree⟩) (.inl hwindow) htail
    · exact .complete _ _ _ _ hengaged (.inr hidle) htail fun _ => hengaged
  next =>
    rw [State.onGate_onGate]
    refine (Works.of (.gate s g _ hG ?_)).trans (notifyRange_works _ _ _ _)
    exact .mark _ _ _ _ _ _ htail (fun _ => hengaged) fun h => .inl h

theorem examineFor_works {g : GateNo} (n : Nat) (s : State) (hG : G g) : Works G s (examineFor n g s) := by
  induction n generalizing s with
  | zero => exact .refl s
  | succ n ih =>
    unfold examineFor
    split
    next hmay =>
      split
      next hpending => exact (issueClosure_works hG hmay hpending).trans (ih _)
      next =>
        split
        · exact .refl s
        next e rest hqueue =>
          split
          · exact .refl s
          · exact (takeEntry_works hG hmay hqueue).trans (ih _)
    next => exact .refl s

theorem examine_works {g : GateNo} (s : State) (hG : G g) : Works G s (examine g s) := examineFor_works _ s hG

/-! ### Stops -/

theorem enterStopping_works {g : GateNo} {s : State} (hG : G g) (hflight : (s.gate g).inFlight = true) :
    Works G s (enterStopping g s) := by
  rw [enterStopping_eq]
  exact (Works.of (.gate s g _ hG (.stop hflight))).trans (postStops_works _ hG)

theorem stopIfMoving_works {g : GateNo} (s : State) (hG : G g) : Works G s (stopIfMoving g s) := by
  unfold stopIfMoving
  split
  next h => exact enterStopping_works hG h
  next => exact .refl s

theorem endStop_works {g : GateNo} {s : State} (hG : G g) (hstopping : (s.gate g).motion = .stopping) :
    Works G s (endStop g s) :=
  ((Works.of (.gate s g _ hG (.stopEnd _ hstopping))).trans (.of (.drain _))).trans (examine_works _ hG)

/-! ### Faults without lockout -/

theorem faultStop_works {g : GateNo} {s : State} (c : Cause) (b : Bool) (hG : G g) (hmode : (s.gate g).mode ≠ .off)
    (hsound : (s.gate g).faulty = false) : Works G s (faultStop g (s.savedMove g c) b s) := by
  rw [faultStop_savedMove_eq]
  exact ((Works.of (.gate s g _ hG (.fault c hmode hsound))).trans (postStops_works _ hG)).trans (notify_works _ _)

theorem addCause_works {g : GateNo} {s : State} (c : Cause) (hG : G g) (hfaulty : (s.gate g).faulty = true) :
    Works G s (addCause g c s) :=
  .of (.gate s g _ hG (.cause _ hfaulty))

theorem endFaultStop_works {g : GateNo} {s : State} (hG : G g) (hstopping : (s.gate g).motion = .faultStopping) :
    Works G s (endFaultStop g s) :=
  (Works.of (.gate s g _ hG (.faultEnd _ hstopping))).trans (.of (.drain _))

/-! ### Trim -/

theorem gateOf_leadingHoist (s : State) (g : GateNo) (up : Bool) : gateOf (s.leadingHoist g up) = g := by
  unfold State.leadingHoist
  split <;> simp

theorem enterTrim_works {g : GateNo} {s : State} (c : MoveContext) (hG : G g) (hmoving : (s.gate g).motion = .moving) :
    Works G s (enterTrim g c s) :=
  (Works.of (.gate s g _ hG (.trim _ hmoving))).trans (postStop_works _ (by rwa [gateOf_leadingHoist]))

end operations

end Sys2Proof.Machine
end

section
/-!
PROOFS. What work at some gates leaves alone: the surroundings, every other gate and hoist, the monitors, placed frames
and a busy RING-OUT.
-/

namespace Sys2Proof.Machine

/-- Between `s` and `t` nothing has happened but work at gates of `G`, notices and traffic. -/
structure Within (G : GateNo → Prop) (s t : State) : Prop where
  surroundings : SameSurroundings s t
  gates : ∀ j, ¬G j → t.gate j = s.gate j
  hoists : ∀ h, ¬G (gateOf h) → (s.hoist h).GrantedFrom (t.hoist h)
  monitors : ∀ h, (t.hoist h).monitor = (s.hoist h).monitor
  up : t.monitor.up = s.monitor.up
  down : t.monitor.down = s.monitor.down
  head : t.monitor.head = s.monitor.head
  sup : t.sup = s.sup ∨ (s.sup.device = .drain ∧ t.sup = { s.sup with drainFulfilled := true, drainTimer := none })
  placed : KeepsPlaced s t
  busy : s.ring.out ≠ .idle → t.ring = { s.ring with consecutive := t.ring.consecutive }

theorem Flow.within {s t : State} (h : Flow s t) (G : GateNo → Prop) : Within G s t where
  surroundings := h.traffic.surroundings
  gates := fun j _ => h.gate j
  hoists := fun k _ => h.hoists k
  monitors := fun k => Hoist.monitor_of_exceptPhase (h.hoists k).exceptPhase
  up := h.traffic.up
  down := h.traffic.down
  head := h.traffic.head
  sup := .inl h.sup
  placed := h.placed
  busy := h.busy

theorem Within.refl (G : GateNo → Prop) (s : State) : Within G s s := (Flow.refl s).within G

theorem Within.trans {G : GateNo → Prop} {s t u : State} (h : Within G s t) (k : Within G t u) : Within G s u where
  surroundings := h.surroundings.trans k.surroundings
  gates := fun j hj => (k.gates j hj).trans (h.gates j hj)
  hoists := fun j hj => (h.hoists j hj).trans (k.hoists j hj)
  monitors := fun j => (k.monitors j).trans (h.monitors j)
  up := k.up.trans h.up
  down := k.down.trans h.down
  head := k.head.trans h.head
  sup := by
    rcases h.sup with e | ⟨hd, e⟩ <;> rcases k.sup with e' | ⟨hd', e'⟩
    · exact .inl (e'.trans e)
    · rw [e] at hd' e'
      exact .inr ⟨hd', e'⟩
    · exact .inr ⟨hd, e'.trans e⟩
    · exact .inr ⟨hd, by rw [e', e]⟩
  placed := h.placed.trans k.placed
  busy := busy_trans h.busy k.busy

section frames

variable {G : GateNo → Prop} {s t : State} (h : Within G s t)

include h

theorem Within.store : t.store = s.store := h.surroundings.store

theorem Within.record (g : GateNo) : t.record g = s.record g := h.surroundings.record g

theorem Within.device : t.sup.device = s.sup.device := by
  rcases h.sup with e | ⟨_, e⟩ <;> rw [e]

theorem Within.holdLine : t.sup.holdLine = s.sup.holdLine := h.surroundings.holdLine

theorem Within.lockoutLine : t.sup.lockoutLine = s.sup.lockoutLine := by
  rcases h.sup with e | ⟨_, e⟩ <;> rw [e]

theorem Within.sup_of_not_drain (hd : s.sup.device ≠ .drain) : t.sup = s.sup := h.sup.resolve_right fun e => hd e.1

theorem Within.exceptPhase (k : HoistNo) (hk : ¬G (gateOf k)) : (t.hoist k).exceptPhase = (s.hoist k).exceptPhase :=
  (h.hoists k hk).exceptPhase

end frames

/-- A change that moves no frame and touches no ring keeps placed frames and a busy RING-OUT. -/
theorem Within.of_quiet {G : GateNo → Prop} {s t : State} (surroundings : SameSurroundings s t)
    (gates : ∀ j, ¬G j → t.gate j = s.gate j) (hoists : ∀ h, ¬G (gateOf h) → t.hoist h = s.hoist h)
    (monitors : ∀ h, (t.hoist h).monitor = (s.hoist h).monitor) (monitor : t.monitor = s.monitor)
    (sup : t.sup = s.sup ∨ (s.sup.device = .drain ∧ t.sup = { s.sup with drainFulfilled := true, drainTimer := none }))
    (ring : t.ring = s.ring) (report : ∀ e ∈ s.req.report, e ≠ .reserved → e ∈ t.req.report) : Within G s t where
  surroundings := surroundings
  gates := gates
  hoists := fun h hh => .inl (hoists h hh)
  monitors := monitors
  up := by rw [monitor]
  down := by rw [monitor]
  head := by rw [monitor]
  sup := sup
  placed := .of_report ring report
  busy := fun _ => by rw [ring]

theorem onReq_within (G : GateNo → Prop) (s : State) (φ : RequestUnit → RequestUnit)
    (hlost : (φ s.req).requestLost = s.req.requestLost) (hreport : ∀ e ∈ s.req.report, e ≠ .reserved → e ∈ (φ s.req).report) :
    Within G s (s.onReq φ) :=
  .of_quiet (onReqNotice_notices s φ hlost).surroundings (fun _ _ => rfl) (fun _ _ => rfl) (fun _ => rfl) rfl (.inl rfl)
    rfl hreport

/-- A change of a hoist of the gates concerned that leaves its record and its monitor alone. -/
theorem onHoist_within {G : GateNo → Prop} (s : State) (h : HoistNo) (φ : Hoist → Hoist) (hG : G (gateOf h))
    (hφ : ∀ x, φ x = { x with slot := (φ x).slot, lastPosted := (φ x).lastPosted, refreshTimer := (φ x).refreshTimer,
                              settleTimer := (φ x).settleTimer }) : Within G s (s.onHoist h φ) := by
  refine .of_quiet (onHoist_surroundings s h φ ?_ ?_ ?_ ?_ ?_ ?_) (fun _ _ => rfl) (fun k hk => ?_) (fun k => ?_) rfl
    (.inl rfl) rfl fun _ h _ => h
  all_goals try (intro x; rw [hφ x])
  · exact State.hoist_onHoist_ne s h φ k fun e => hk (e ▸ hG)
  · rw [State.hoist_onHoist]
    split
    next e => rw [hφ, e]
    next => rfl

theorem onPost_within (G : GateNo → Prop) (s : State) (φ : PostUnit → PostUnit) : Within G s (s.onPost φ) :=
  .of_quiet (onPost_surroundings s φ) (fun _ _ => rfl) (fun _ _ => rfl) (fun _ => rfl) rfl (.inl rfl) rfl fun _ h _ => h

theorem onGate_within {G : GateNo → Prop} (s : State) (g : GateNo) (φ : Gate → Gate) (hG : G g) :
    Within G s (s.onGate g φ) :=
  .of_quiet (onGate_surroundings s g φ) (fun j hj => State.gate_onGate_ne s g φ j fun e => hj (e ▸ hG)) (fun _ _ => rfl)
    (fun _ => rfl) rfl (.inl rfl) rfl fun _ h _ => h

theorem occupySlot_within {G : GateNo → Prop} (s : State) (h : HoistNo) (sp : Setpoint) (tag : Byte) (hG : G (gateOf h)) :
    Within G s (occupySlot h sp tag s) := by
  unfold occupySlot
  exact onHoist_within s h _ hG fun _ => rfl

theorem placePost_within {G : GateNo → Prop} (s : State) (h : HoistNo) (sp : Setpoint) (hG : G (gateOf h)) :
    Within G s (placePost h sp s) := by
  by_cases hp : (s.hoist h).phase = some .waiting
  · rw [placePost_of_waiting sp hp]
    exact ((onPost_within G s _).trans (occupySlot_within _ h sp _ hG)).trans ((arbitrate_flow _).within G)
  · rw [placePost_of_not_waiting sp hp]
    exact (((onPost_within G s _).trans (onPost_within G _ _)).trans (occupySlot_within _ h sp _ hG)).trans
      ((arbitrate_flow _).within G)

theorem emptySlot_within {G : GateNo → Prop} (s : State) (h : HoistNo) (hG : G (gateOf h)) : Within G s (emptySlot h s) := by
  unfold emptySlot
  exact ((onHoist_within s h _ hG fun _ => rfl).trans (onPost_within G _ _)).trans ((settleRotation_flow _).within G)

theorem chooseOrder_within (G : GateNo → Prop) (n : Nat) (s : State) : Within G s (chooseOrder n s).2 := by
  refine .of_quiet (chooseOrder_surroundings n s) (fun j _ => chooseOrder_gate n s j) (fun h _ => ?_) (fun h => ?_) ?_
    (.inl (chooseOrder_sup n s)) ?_ (fun e he _ => ?_)
  all_goals unfold chooseOrder; split
  all_goals first | rfl | exact he

theorem testDrain_within (G : GateNo → Prop) (s : State) : Within G s (testDrain s) := by
  refine .of_quiet (testDrain_surroundings s) (fun _ _ => ?_) (fun _ _ => ?_) (fun _ => ?_) ?_ ?_ ?_ (fun e he _ => ?_)
  all_goals unfold testDrain; split
  all_goals first | rfl | exact he | exact .inl rfl | skip
  next h =>
    simp only [Bool.and_eq_true, decide_eq_true_eq] at h
    exact .inr ⟨h.1, rfl⟩

theorem Work.within {G : GateNo → Prop} {s t : State} (h : Work G s t) : Within G s t := by
  cases h with
  | arbitrate => exact (arbitrate_flow s).within G
  | tag => exact onPost_within G s _
  | notice f _ _ => exact onReq_within G s _ rfl fun e he _ => List.mem_append_left _ he
  | noticeLost => exact onReq_within G s _ rfl fun e he _ => he
  | order n => exact chooseOrder_within G n s
  | post h sp hG _ _ => exact placePost_within s h sp hG
  | empty h hG => exact emptySlot_within s h hG
  | timers h φ hG hφ => exact onHoist_within s h φ hG fun x => by rw [hφ x]
  | drain => exact testDrain_within G s
  | gate g φ hG _ => exact onGate_within s g φ hG

/-- Work at the gates of `G` leaves everything else alone. -/
theorem Works.within {G : GateNo → Prop} {s t : State} (h : Works G s t) : Within G s t :=
  h.relates (Within.refl G) (fun _ _ _ => Within.trans) fun _ _ => Work.within

end Sys2Proof.Machine
end

section
/-!
PROOFS. The evaluator's work at each gate, and the events by which data reach the part: faults with the lockout they may
demand, comparisons, and the statuses of hoists.
-/

namespace Sys2Proof.Machine

/-! ### The evaluator -/

section evaluator

variable {G : GateNo → Prop} {g : GateNo} (hG : G g)

include hG

theorem takeRequest_works {s : State} (e : Entry)
    (hmode : ((s.gate g).mode = .auto ∧ e.origin = .auto) ∨ ((s.gate g).mode = .flood ∧ e.origin = .flood)) :
    Works G s (takeRequest g e s) :=
  (Works.of (.gate s g _ hG (.request e hmode))).trans (examine_works _ hG)

theorem takeNoClosure_works (s : State) : Works G s (takeNoClosure g s) := by
  have hclear : Works G s (s.onGate g (fun x => { x with closurePending := false, tideClosed := false })) :=
    .of (.gate s g _ hG (.mark _ _ _ _ _ _ (List.Sublist.refl _) nofun nofun))
  unfold takeNoClosure
  dsimp only
  split
  · exact hclear.trans (examine_works _ hG)
  · exact hclear

theorem takeClosureHeld_works {s : State} (hengaged : (s.gate g).Engaged) : Works G s (takeClosureHeld g s) := by
  unfold takeClosureHeld
  split
  · exact .of (.gate s g _ hG (.mark _ _ _ _ _ _ (List.Sublist.refl _) (fun _ => hengaged) fun _ => .inr hengaged))
  · exact .refl s

theorem takeClosure_works {s : State} (hengaged : (s.gate g).Engaged) : Works G s (takeClosure g s) := by
  have hpending : Works G s (s.onGate g (fun y => { y with closurePending := true })) :=
    .of (.gate s g _ hG (.mark _ _ _ _ _ _ (List.Sublist.refl _) (fun _ => hengaged) fun h => .inl h))
  unfold takeClosure
  dsimp only
  split
  next hflight =>
    refine (startMove_works (fun y => { y with closurePending := false }) hG ?_).trans (notify_works _ _)
    exact .start _ _ false hengaged (.inl hflight) (.inr rfl) (List.Sublist.refl _)
  next =>
    split
    · exact hpending.trans (examine_works _ hG)
    · exact hpending
    · exact .refl s

theorem setBlocked_works (s : State) (b : Bool) : Works G s (setBlocked g b s) := by
  by_cases hp : (s.gate g).closurePending = true
  · exact .of (.gate s g _ hG (.mark _ _ _ _ _ _ (List.Sublist.refl _) (fun _ => .inr (.inr (.inl hp))) fun h => .inl h))
  · exact .of (.gate s g _ hG (.mark _ _ _ _ _ _ (List.Sublist.refl _) (fun h => absurd h hp) fun h => .inl h))

theorem evaluateFaulty_works {s : State} (u d : Int) (hengaged : (s.gate g).Engaged) :
    Works G s (evaluateFaulty g u d s) := by
  unfold evaluateFaulty
  dsimp only
  split
  · split
    · exact takeClosureHeld_works hG hengaged
    · exact ((takeClosureHeld_works hG hengaged).trans (notify_works _ _)).trans (setBlocked_works hG _ _)
  · exact (takeNoClosure_works hG s).trans (setBlocked_works hG _ _)

omit hG in
theorem takenUp_mode {s : State} (h : s.takenUp g = true) : (s.gate g).mode = .auto ∨ (s.gate g).mode = .flood := by
  simp only [State.takenUp, Bool.and_eq_true, Bool.or_eq_true, decide_eq_true_eq] at h
  exact h.1

theorem evaluateFull_works {s : State} (u d : Int)
    (hmode : (s.gate g).mode = .auto ∨ (s.gate g).mode = .flood) : Works G s (evaluateFull g u d s) := by
  have hmode' : ((setBlocked g false s).gate g).mode = (s.gate g).mode := by simp [setBlocked]
  have hengaged : ((setBlocked g false s).gate g).Engaged := .inl (by rw [hmode']; rcases hmode with h | h <;> simp [h])
  refine (setBlocked_works hG s false).trans ?_
  unfold evaluateFull
  dsimp only
  split
  · split
    · exact takeClosureHeld_works hG hengaged
    · exact takeClosure_works hG hengaged
  · split
    · exact takeNoClosure_works hG _
    · refine takeRequest_works hG _ ?_
      rw [hmode']
      rcases hmode with h | h <;> simp [automaticEntry, h]

theorem evaluateGate_works (u d : Int) (s : State) : Works G s (evaluateGate u d g s) := by
  unfold evaluateGate
  split
  next htaken =>
    have hmode := takenUp_mode htaken
    split
    · exact evaluateFaulty_works hG u d (.inl (by rcases hmode with h | h <;> simp [h]))
    · exact evaluateFull_works hG u d hmode
  next => exact setBlocked_works hG s false

end evaluator

theorem evaluate_works (u d : Int) (s : State) : Works (fun _ => True) s (evaluate u d s) := by
  unfold evaluate
  split
  · exact foldl_works _ _ (fun t g _ => evaluateGate_works trivial u d t) s
  · exact .refl s

/-! ### Lockout -/

theorem lockoutStops_works (s : State) : Works (fun _ => True) s (lockoutStops s) := by
  unfold lockoutStops
  refine foldl_works _ _ (fun t h _ => ?_) s
  split
  · exact postStop_works t trivial
  · exact .refl t

theorem takeLockout_works (k : EntryTaker) (s : State) : Works (fun _ => True) s (takeLockout k s) := by
  cases k with
  | sequencer g => exact stopIfMoving_works s trivial
  | hoistInterface => exact lockoutStops_works s

theorem handLockout_works (s : State) : Works (fun _ => True) s (handLockout s) := by
  unfold handLockout
  exact (drawOrder_works _ _ s).trans (foldl_works _ _ (fun t k _ => takeLockout_works k t) _)

/-- After the Supervisor's own change the entry into LOCKOUT is work (R170). -/
theorem enterLockout_works (c : LockoutCause) (g : GateNo) (s : State) :
    Works (fun _ => True)
      (s.onSup (fun x => { x with device := .lockout, lockoutCause := c, lockoutGate := some g, lockoutLine := true }))
      (enterLockout c g s) := by
  unfold enterLockout
  exact (notify_works _ _).trans (handLockout_works _)

/-! ### Events -/

/-- The ranges and states of the Level Unit (R40, R42, R43, R51). -/
def LevelUnit.Lawful (l : LevelUnit) : Prop :=
  ((∀ c, -8000 ≤ (l.channel c).value ∧ (l.channel c).value ≤ 12000) ∧
    (∀ n, -8000 ≤ (l.side n).level ∧ (l.side n).level ≤ 12000) ∧ -20000 ≤ l.head ∧ l.head ≤ 20000) ∧
  (∀ c, (l.channel c).ageTimer.isSome = decide ((l.channel c).state = .fresh)) ∧
  ∀ n, (l.side n).state = l.sideState n

theorem lawful_iff (s : State) : s.levels.Lawful ↔ s.levelRule ∧ s.sideRule := Iff.rfl

/-- What the data of a frame, or an expiry at a channel, can do to the part. -/
inductive Event : State → State → Prop
  | work {s t : State} (h : Work (fun _ => True) s t) : Event s t
  | lockout (s : State) (c : LockoutCause) (g : GateNo) (run : s.sup.device = .run) : Event s (enterLockout c g s)
  | status (s : State) (h : HoistNo) (d : StatusData) : Event s (applyStatus h d s)
  | load (s : State) (h : HoistNo) (q : Quantity) : Event s (s.onHoist h (fun x => { x with monitor := q }))
  | monitor (s : State) (φ : Monitor → Monitor) : Event s (s.onMonitor φ)
  | levels (s : State) (φ : LevelUnit → LevelUnit) (lawful : s.levels.Lawful → (φ s.levels).Lawful) :
      Event s (s.onLevels φ)

/-- A run of events. -/
def Events : State → State → Prop := Relation.ReflTransGen Event

theorem Events.refl (s : State) : Events s s := Relation.ReflTransGen.refl

theorem Events.of {s t : State} (h : Event s t) : Events s t := Relation.ReflTransGen.single h

theorem Events.trans {s t u : State} (h : Events s t) (k : Events t u) : Events s u := Relation.ReflTransGen.trans h k

theorem Events.relates {R : State → State → Prop} (hrefl : ∀ s, R s s) (htrans : ∀ s t u, R s t → R t u → R s u)
    (hR : ∀ s t, Event s t → R s t) {s t : State} (h : Events s t) : R s t := by
  induction h with
  | refl => exact hrefl s
  | tail _ hstep ih => exact htrans _ _ _ ih (hR _ _ hstep)

theorem Works.events {G : GateNo → Prop} {s t : State} (h : Works G s t) : Events s t :=
  h.relates Events.refl (fun _ _ _ => Events.trans) fun _ _ hstep => .of (.work (hstep.mono fun _ _ => trivial))

theorem foldl_events {α : Type} (f : State → α → State) (xs : List α) (hf : ∀ s, ∀ a ∈ xs, Events s (f s a)) (s : State) :
    Events s (xs.foldl f s) := by
  induction xs generalizing s with
  | nil => exact .refl s
  | cons a xs ih =>
    exact (hf s a List.mem_cons_self).trans (ih (fun t b hb => hf t b (List.mem_cons_of_mem a hb)) _)

/-! ### Faults -/

theorem demandLockout_events (c : LockoutCause) (g : GateNo) (s : State) : Events s (demandLockout c g s) := by
  unfold demandLockout
  split
  next hrun => exact .of (.lockout s c g hrun)
  next => exact .refl s

/-- Whether a fault of the gate demands a lockout (R162, R169). -/
def State.demandsLockout (s : State) (g : GateNo) : Bool := (s.gate g).resumedMove || !faultResponse s.store.control

/-- A cause that reaches a sound gate in service faults it, and demands a lockout or not (R160, R169). -/
theorem reachCause_of_sound {g : GateNo} {s : State} (c : Cause) (hmode : (s.gate g).mode ≠ .off)
    (hsound : (s.gate g).faulty = false) :
    reachCause g c s =
      if s.demandsLockout g then
        demandLockout (if (s.gate g).resumedMove then .recoveryFault else .responseOff) g
          (faultStop g (s.savedMove g c) true s)
      else faultStop g (s.savedMove g c) false s := by
  have h : reachCause g c s = takeFault g c (s.gate g).resumedMove s := by simp [reachCause, hmode, hsound]
  rw [h]
  unfold takeFault State.demandsLockout
  dsimp only
  cases hd : ((s.gate g).resumedMove || !faultResponse s.store.control) <;> simp

/-- A cause that reaches a faulty gate in service is added (R161). -/
theorem reachCause_of_faulty {g : GateNo} {s : State} (c : Cause) (hmode : (s.gate g).mode ≠ .off)
    (hfaulty : (s.gate g).faulty = true) : reachCause g c s = addCause g c s := by
  simp [reachCause, hmode, hfaulty]

theorem reachCause_events (g : GateNo) (c : Cause) (s : State) : Events s (reachCause g c s) := by
  by_cases hmode : (s.gate g).mode = .off
  · rw [reachCause_of_off g c s hmode]; exact .refl s
  · cases hfaulty : (s.gate g).faulty with
    | true =>
      rw [reachCause_of_faulty c hmode hfaulty]
      exact (addCause_works (G := fun _ => True) c trivial hfaulty).events
    | false =>
      rw [reachCause_of_sound c hmode hfaulty]
      have hstop (b : Bool) := (faultStop_works (G := fun _ => True) c b trivial hmode hfaulty).events
      split
      · exact (hstop true).trans (demandLockout_events _ _ _)
      · exact hstop false

/-- A fault that demands no lockout is work at its gate (R160). -/
theorem reachCause_works {g : GateNo} {s : State} (c : Cause)
    (hdemand : s.demandsLockout g = false ∨ (s.gate g).faulty = true ∨ s.sup.device ≠ .run) :
    Works (· = g) s (reachCause g c s) := by
  by_cases hmode : (s.gate g).mode = .off
  · rw [reachCause_of_off g c s hmode]; exact .refl s
  · cases hfaulty : (s.gate g).faulty with
    | true =>
      rw [reachCause_of_faulty c hmode hfaulty]
      exact addCause_works c rfl hfaulty
    | false =>
      rw [reachCause_of_sound c hmode hfaulty]
      split
      next hd =>
        have hrun : s.sup.device ≠ .run := by simpa [hd, hfaulty] using hdemand
        rw [demandLockout_of_not_run _ _ _ (by rwa [faultStop_sup])]
        exact faultStop_works c true rfl hmode hfaulty
      next => exact faultStop_works c false rfl hmode hfaulty

/-! ### A HOIST-STATUS -/

theorem releaseTrim_works {g : GateNo} {s : State} {c : MoveContext} (hmode : (s.gate g).mode ≠ .off)
    (htrim : (s.gate g).motion = .trim) (hc : (s.gate g).context = some c) :
    Works (fun _ => True) s (releaseTrim g c s) := by
  have hgate : Works (fun _ => True) s (s.onGate g (fun x => { x with motion := .moving, trimHoist := none })) :=
    .of (.gate s g _ trivial (.release htrim))
  unfold releaseTrim
  dsimp only
  split
  · refine hgate.trans (post_works trivial fun _ _ => .inl ⟨g, c, ?_, ?_, rfl⟩)
    · simpa using hmode
    · simpa using hc
  · exact hgate

theorem inFlight_iff (x : Gate) : x.inFlight = true ↔ x.motion = .moving ∨ x.motion = .trim := by
  simp [Gate.inFlight]

theorem faulty_iff (x : Gate) : x.faulty = true ↔ x.motion = .faultStopping ∨ x.motion = .faulted := by
  simp [Gate.faulty]

/-- A move in flight whose hoists stand where they should is completed, and the gate examined (R113). -/
theorem arrival_works {g : GateNo} {s : State} (c : MoveContext) (hflight : (s.gate g).inFlight = true) :
    Works (· = g) s (examine g (completeMove g c s)) := by
  have hengaged : (s.gate g).Engaged := .inr (.inr (.inr (by rcases (inFlight_iff _).mp hflight with h | h <;> simp [h])))
  have hcomplete := completeMove_works (G := (· = g)) (s := s) (c := c) id rfl
    (.complete _ _ _ _ hengaged (.inl hflight) (List.Sublist.refl _) fun _ => hengaged)
  rw [State.onGate_self rfl] at hcomplete
  exact hcomplete.trans (examine_works _ rfl)

theorem checkMove_events {g : GateNo} {s : State} {c : MoveContext} (hmode : (s.gate g).mode ≠ .off)
    (hflight : (s.gate g).inFlight = true) (hc : (s.gate g).context = some c) : Events s (checkMove g c s) := by
  unfold checkMove
  dsimp only
  split
  · exact reachCause_events _ _ s
  · split
    · exact (arrival_works c hflight).events
    · split
      next hmoving =>
        split
        · exact (enterTrim_works (G := fun _ => True) c trivial hmoving).events
        · exact .refl s
      next hmoving =>
        have htrim : (s.gate g).motion = .trim := ((inFlight_iff _).mp hflight).resolve_left hmoving
        split
        · exact (releaseTrim_works hmode htrim hc).events
        · exact .refl s

theorem checkMotion_events {g : GateNo} {s : State} (hmode : (s.gate g).mode ≠ .off) : Events s (checkMotion g s) := by
  unfold checkMotion
  split
  next h =>
    split
    next c hc => exact checkMove_events hmode ((inFlight_iff _).mpr (.inl h)) hc
    next => exact .refl s
  next h =>
    split
    next c hc => exact checkMove_events hmode ((inFlight_iff _).mpr (.inr h)) hc
    next => exact .refl s
  next h =>
    split
    · exact (endStop_works (G := fun _ => True) trivial h).events
    · exact .refl s
  · exact (examine_works (G := fun _ => True) s trivial).events
  next h =>
    split
    · exact (endFaultStop_works (G := fun _ => True) trivial h).events
    · exact .refl s
  · exact .refl s

theorem addCause_mode (g : GateNo) (c : Cause) (s : State) : ((addCause g c s).gate g).mode = (s.gate g).mode := by
  simp [addCause]

theorem sequencerStatus_events (h : HoistNo) (s : State) : Events s (sequencerStatus h s) := by
  unfold sequencerStatus
  dsimp only
  split
  · exact .refl s
  next hmode =>
    split
    · split
      next hfaulty =>
        refine (reachCause_events _ _ s).trans (checkMotion_events ?_)
        rwa [reachCause_of_faulty _ hmode hfaulty, addCause_mode]
      next => exact reachCause_events _ _ s
    · split
      · exact reachCause_events _ _ s
      · exact checkMotion_events hmode
    · exact checkMotion_events hmode

/-! ### Comparisons and the status as a whole -/

theorem notifyAlarm_works {G : GateNo → Prop} (c : ThresholdClass) (k q : Nat) (v : Int) (b a : Bool) (s : State) :
    Works G s (notifyAlarm c k q v b a s) := by
  unfold notifyAlarm
  split
  · exact notify_works _ s
  · exact .refl s

theorem notifyAlarms_works {G : GateNo → Prop} (c : ThresholdClass) (q : Nat) (v : Int) (b a : Quad) (s : State) :
    Works G s (notifyAlarms c q v b a s) :=
  (notifyAlarm_works _ _ _ _ _ _ s).trans (notifyAlarm_works _ _ _ _ _ _ _)

theorem compareUp_events (v : Int) (s : State) : Events s (compareUp v s) :=
  (Events.of (.monitor s _)).trans (notifyAlarms_works (G := fun _ => True) _ _ _ _ _ _).events

theorem compareDown_events (v : Int) (s : State) : Events s (compareDown v s) :=
  (Events.of (.monitor s _)).trans (notifyAlarms_works (G := fun _ => True) _ _ _ _ _ _).events

theorem compareHead_events (v : Int) (s : State) : Events s (compareHead v s) :=
  (Events.of (.monitor s _)).trans (notifyAlarms_works (G := fun _ => True) _ _ _ _ _ _).events

theorem compareLoad_events (h : HoistNo) (s : State) : Events s (compareLoad h s) :=
  (Events.of (.load s h _)).trans (notifyAlarms_works (G := fun _ => True) _ _ _ _ _ _).events

theorem deliverOverload_events (h : HoistNo) (s : State) : Events s (deliverOverload h s) := by
  unfold deliverOverload
  split
  · exact reachCause_events _ _ s
  · exact .refl s

theorem deliverSlack_events (h : HoistNo) (s : State) : Events s (deliverSlack h s) := by
  unfold deliverSlack
  split
  · exact reachCause_events _ _ s
  · exact .refl s

theorem handOnStatus_events (h : HoistNo) (place : Nat) (s : State) : Events s (handOnStatus h place s) := by
  have hc := compareLoad_events h
  have ho := deliverOverload_events h
  have hl := deliverSlack_events h
  have hs := sequencerStatus_events h
  unfold handOnStatus
  split
  · exact (((hs _).trans (hc _)).trans (ho _)).trans (hl _)
  · split
    · exact (((hc _).trans (hs _)).trans (ho _)).trans (hl _)
    · split
      · exact (((hc _).trans (ho _)).trans (hs _)).trans (hl _)
      · exact (((hc _).trans (ho _)).trans (hl _)).trans (hs _)

theorem matchAck_works {G : GateNo → Prop} {h : HoistNo} (tag : Byte) (s : State) (hG : G (gateOf h)) :
    Works G s (matchAck h tag s) := by
  unfold matchAck
  split
  · exact ((Works.of (.empty s h hG)).trans (restartRefresh_works _ hG)).trans (.of (.drain _))
  · exact .refl s

theorem chooseOrder_events (n : Nat) (s : State) : Events s (chooseOrder n s).2 := .of (.work (.order s n))

theorem takeStatus_events (h : HoistNo) (d : StatusData) (m : Bool) (s : State) : Events s (takeStatus h d m s) := by
  unfold takeStatus
  dsimp only
  refine (Events.of (.status s h d)).trans (Events.trans ?_ ((chooseOrder_events _ _).trans (handOnStatus_events _ _ _)))
  split
  · exact (matchAck_works (G := fun _ => True) _ _ trivial).events
  · exact .refl _

theorem receiveStatus_events (f : Frame) (m : Bool) (s : State) : Events s (receiveStatus f m s) := by
  unfold receiveStatus
  split
  · exact foldl_events _ _ (fun t h _ => takeStatus_events h _ m t) s
  · exact .refl s

end Sys2Proof.Machine
end

section
/-!
PROOFS. The Level Unit as functions of its own state: what samples, expiries and new bindings make of channels, sides and
head, and that all of it is lawful (R37 to R53).
-/

namespace Sys2Proof.Machine

/-! ### Reading one channel or side after a change -/

theorem channel_setChannel (l : LevelUnit) (c k : ChannelName) (x : Channel) :
    (l.setChannel c x).channel k = if k = c then x else l.channel k := by
  cases c <;> cases k <;> rfl

@[simp] theorem side_setChannel (l : LevelUnit) (c : ChannelName) (x : Channel) (n : SideName) :
    (l.setChannel c x).side n = l.side n := by
  cases c <;> cases n <;> rfl

@[simp] theorem head_setChannel (l : LevelUnit) (c : ChannelName) (x : Channel) : (l.setChannel c x).head = l.head := by
  cases c <;> rfl

theorem side_setSide (l : LevelUnit) (n k : SideName) (x : Side) :
    (l.setSide n x).side k = if k = n then x else l.side k := by
  cases n <;> cases k <;> rfl

@[simp] theorem channel_setSide (l : LevelUnit) (n : SideName) (x : Side) (c : ChannelName) :
    (l.setSide n x).channel c = l.channel c := by
  cases c <;> cases n <;> rfl

@[simp] theorem head_setSide (l : LevelUnit) (n : SideName) (x : Side) : (l.setSide n x).head = l.head := by
  cases n <;> rfl

/-- The first and the second channel of a side. -/
def SideName.first : SideName → ChannelName
  | .up => .u1 | .down => .d1

def SideName.second : SideName → ChannelName
  | .up => .u2 | .down => .d2

theorem pair_eq (l : LevelUnit) (n : SideName) : l.pair n = (l.channel n.first, l.channel n.second) := by
  cases n <;> rfl

theorem sideOf_eq_iff (c : ChannelName) (n : SideName) : sideOf c = n ↔ c = n.first ∨ c = n.second := by
  cases c <;> cases n <;> simp [sideOf, SideName.first, SideName.second]

theorem sideState_congr {l m : LevelUnit} {n : SideName} (hpair : m.pair n = l.pair n)
    (hformed : (m.side n).formed = (l.side n).formed) : m.sideState n = l.sideState n := by
  simp [LevelUnit.sideState, hpair, hformed]

theorem sideState_of_fresh {l : LevelUnit} {n : SideName} {c : ChannelName} (hc : sideOf c = n)
    (hfresh : (l.channel c).state = .fresh) : l.sideState n = .valid := by
  rw [LevelUnit.sideState, pair_eq]
  rcases (sideOf_eq_iff c n).mp hc with rfl | rfl <;> simp [hfresh]

theorem levels_ext {l m : LevelUnit} (hc : ∀ c, m.channel c = l.channel c) (hs : ∀ n, m.side n = l.side n)
    (hh : m.head = l.head) : m = l := by
  have h1 := hc .u1
  have h2 := hc .u2
  have h3 := hc .d1
  have h4 := hc .d2
  have h5 := hs .up
  have h6 := hs .down
  cases l
  cases m
  simp_all [LevelUnit.channel, LevelUnit.side]

/-! ### Several channels -/

/-- Each channel of a list changed. -/
def LevelUnit.mapChannels (φ : ChannelName → Channel → Channel) (cs : List ChannelName) (l : LevelUnit) : LevelUnit :=
  cs.foldl (fun acc c => acc.setChannel c (φ c (acc.channel c))) l

section mapChannels

variable (φ : ChannelName → Channel → Channel)

@[simp] theorem side_mapChannels (cs : List ChannelName) (l : LevelUnit) (n : SideName) :
    (l.mapChannels φ cs).side n = l.side n := by
  unfold LevelUnit.mapChannels
  induction cs generalizing l with
  | nil => rfl
  | cons c cs ih => rw [List.foldl_cons, ih, side_setChannel]

@[simp] theorem head_mapChannels (cs : List ChannelName) (l : LevelUnit) : (l.mapChannels φ cs).head = l.head := by
  unfold LevelUnit.mapChannels
  induction cs generalizing l with
  | nil => rfl
  | cons c cs ih => rw [List.foldl_cons, ih, head_setChannel]

theorem channel_mapChannels {cs : List ChannelName} (hcs : cs.Nodup) (l : LevelUnit) (k : ChannelName) :
    (l.mapChannels φ cs).channel k = if k ∈ cs then φ k (l.channel k) else l.channel k := by
  unfold LevelUnit.mapChannels
  induction cs generalizing l with
  | nil => simp
  | cons c cs ih =>
    obtain ⟨hc, hcs⟩ := List.nodup_cons.mp hcs
    rw [List.foldl_cons, ih hcs]
    by_cases hk : k = c
    · subst hk
      simp [hc, channel_setChannel]
    · simp [hk, channel_setChannel]

end mapChannels

theorem foldl_onChannel (φ : ChannelName → Channel → Channel) (cs : List ChannelName) (s : State) :
    cs.foldl (fun acc c => acc.onChannel c (φ c)) s = s.onLevels (LevelUnit.mapChannels φ cs) := by
  unfold LevelUnit.mapChannels
  induction cs generalizing s with
  | nil => rfl
  | cons c cs ih => rw [List.foldl_cons, ih]; rfl

theorem allChannels_nodup : allChannels.Nodup := by decide

theorem mem_allChannels (c : ChannelName) : c ∈ allChannels := by cases c <;> decide

theorem channelsAt_nodup (s : State) (a : Byte) : (s.channelsAt a).Nodup := allChannels_nodup.filter _

theorem mem_channelsAt (s : State) (a : Byte) (c : ChannelName) : c ∈ s.channelsAt a ↔ binding s.store.control c = a := by
  simp [State.channelsAt, mem_allChannels]

theorem reaches_iff (cs : List ChannelName) (n : SideName) : reaches cs n = true ↔ ∃ c ∈ cs, sideOf c = n := by
  simp [reaches]

/-! ### Sides recomputed -/

/-- The sides that the channels reach, recomputed (R43). -/
def LevelUnit.recomputedFor (cs : List ChannelName) (l : LevelUnit) : LevelUnit :=
  let l1 := if reaches cs .up then l.setSide .up { l.side .up with state := l.sideState .up } else l
  if reaches cs .down then l1.setSide .down { l1.side .down with state := l1.sideState .down } else l1

@[simp] theorem channel_recomputedFor (cs : List ChannelName) (l : LevelUnit) (c : ChannelName) :
    (l.recomputedFor cs).channel c = l.channel c := by
  unfold LevelUnit.recomputedFor
  dsimp only
  split <;> split <;> simp

@[simp] theorem head_recomputedFor (cs : List ChannelName) (l : LevelUnit) : (l.recomputedFor cs).head = l.head := by
  unfold LevelUnit.recomputedFor
  dsimp only
  split <;> split <;> simp

theorem pair_recomputedFor (cs : List ChannelName) (l : LevelUnit) (n : SideName) : (l.recomputedFor cs).pair n = l.pair n := by
  simp [pair_eq]

theorem side_recomputedFor (cs : List ChannelName) (l : LevelUnit) (n : SideName) :
    (l.recomputedFor cs).side n =
      if reaches cs n then { l.side n with state := l.sideState n } else l.side n := by
  have hdown (x : Side) : (l.setSide .up x).sideState .down = l.sideState .down := sideState_congr rfl rfl
  unfold LevelUnit.recomputedFor
  dsimp only
  cases n <;> split <;> split <;> simp [side_setSide, hdown]

theorem sideState_recomputedFor (cs : List ChannelName) (l : LevelUnit) (n : SideName) :
    (l.recomputedFor cs).sideState n = l.sideState n := by
  refine sideState_congr (pair_recomputedFor cs l n) ?_
  rw [side_recomputedFor]
  split <;> rfl

theorem recomputeSides_eq (cs : List ChannelName) (s : State) :
    recomputeSides cs s =
      notifySide .down s.levels.down.state (notifySide .up s.levels.up.state (s.onLevels (LevelUnit.recomputedFor cs))) := by
  unfold recomputeSides LevelUnit.recomputedFor
  cases reaches cs .up <;> cases reaches cs .down <;> rfl

/-- Changed channels, each within its range and with its timer right, and their sides recomputed, are lawful. -/
theorem lawful_recomputedFor {φ : ChannelName → Channel → Channel} {cs : List ChannelName} {l : LevelUnit} (hcs : cs.Nodup)
    (hvalue : ∀ c, -8000 ≤ (l.channel c).value ∧ (l.channel c).value ≤ 12000 →
      -8000 ≤ (φ c (l.channel c)).value ∧ (φ c (l.channel c)).value ≤ 12000)
    (htimer : ∀ c, (φ c (l.channel c)).ageTimer.isSome = decide ((φ c (l.channel c)).state = .fresh)) (hl : l.Lawful) :
    ((l.mapChannels φ cs).recomputedFor cs).Lawful := by
  obtain ⟨⟨hc, hs, hh⟩, ht, hst⟩ := hl
  refine ⟨⟨fun c => ?_, fun n => ?_, ?_⟩, fun c => ?_, fun n => ?_⟩
  · rw [channel_recomputedFor, channel_mapChannels φ hcs]
    split
    · exact hvalue c (hc c)
    · exact hc c
  · rw [side_recomputedFor]
    split <;> simpa using hs n
  · simpa using hh
  · rw [channel_recomputedFor, channel_mapChannels φ hcs]
    split
    · exact htimer c
    · exact ht c
  · rw [sideState_recomputedFor, side_recomputedFor]
    split
    · rfl
    next hreach =>
      have hkeep (c : ChannelName) (hn : sideOf c = n) : (l.mapChannels φ cs).channel c = l.channel c := by
        rw [channel_mapChannels φ hcs, if_neg]
        intro hmem
        exact hreach ((reaches_iff cs n).mpr ⟨c, hmem, hn⟩)
      rw [side_mapChannels, hst n]
      refine (sideState_congr ?_ (by rw [side_mapChannels])).symm
      rw [pair_eq, pair_eq, hkeep _ ((sideOf_eq_iff _ _).mpr (.inl rfl)), hkeep _ ((sideOf_eq_iff _ _).mpr (.inr rfl))]

theorem notifySide_works {G : GateNo → Prop} (n : SideName) (p : SideState) (s : State) : Works G s (notifySide n p s) := by
  unfold notifySide
  split
  · exact .refl s
  · exact notify_works _ s

/-- Channels changed lawfully and their sides recomputed are one event of the Level Unit, and notices. -/
theorem recomputeSides_events {φ : ChannelName → Channel → Channel} {cs : List ChannelName} (s : State)
    (hlawful : s.levels.Lawful → ((s.levels.mapChannels φ cs).recomputedFor cs).Lawful) :
    Events s (recomputeSides cs (s.onLevels (LevelUnit.mapChannels φ cs))) := by
  rw [recomputeSides_eq]
  refine (Events.of (.levels s (fun l => (l.mapChannels φ cs).recomputedFor cs) hlawful)).trans ?_
  exact ((notifySide_works (G := fun _ => True) _ _ _).trans (notifySide_works _ _ _)).events

/-! ### Samples -/

/-- A channel that a good sample refreshes (R40, R41). -/
def SampleData.channel (d : SampleData) (limit : Nat) : Channel :=
  ⟨.fresh, clamp (-8000) 12000 d.reading, !d.fineValid, clamp (-8000) 12000 d.reading ≠ d.reading, some limit⟩

theorem foldl_refreshChannel (d : SampleData) (cs : List ChannelName) (s : State) :
    cs.foldl (fun acc c => refreshChannel d c acc) s =
      s.onLevels (LevelUnit.mapChannels (fun c _ => d.channel (ageLimit s.store.control c)) cs) := by
  unfold LevelUnit.mapChannels
  induction cs generalizing s with
  | nil => rfl
  | cons c cs ih => rw [List.foldl_cons, ih]; rfl

theorem foldl_faultChannel (cs : List ChannelName) (s : State) :
    cs.foldl (fun acc c => faultChannel c acc) s =
      s.onLevels (LevelUnit.mapChannels (fun _ x => { x with state := .faulted, ageTimer := none }) cs) :=
  foldl_onChannel _ cs s

/-- A side with its working level formed (R46 to R49). -/
def LevelUnit.formSide (agree : Int) (n : SideName) (l : LevelUnit) : LevelUnit :=
  let w := workingLevel n (l.pair n).1 (l.pair n).2 agree (l.side n).level
  l.setSide n { l.side n with level := w.1, formed := true, disagree := w.2, updated := true }

/-- A side that a good sample reaches, as it leaves it: VALID, its level formed from the two channels (R43, R47). -/
def Side.sampled (x : Side) (n : SideName) (a b : Channel) (agree : Int) : Side :=
  { state := .valid, level := (workingLevel n a b agree x.level).1, formed := true
    disagree := (workingLevel n a b agree x.level).2, updated := true }

/-- One side after the channels: recomputed and its level formed, when the sample reaches it (R43, R46). -/
def LevelUnit.sampledSide (agree : Int) (cs : List ChannelName) (n : SideName) (l : LevelUnit) : LevelUnit :=
  if reaches cs n then LevelUnit.formSide agree n (l.setSide n { l.side n with state := l.sideState n }) else l

@[simp] theorem channel_sampledSide (agree : Int) (cs : List ChannelName) (n : SideName) (l : LevelUnit) (c : ChannelName) :
    (l.sampledSide agree cs n).channel c = l.channel c := by
  unfold LevelUnit.sampledSide LevelUnit.formSide
  split <;> simp

@[simp] theorem head_sampledSide (agree : Int) (cs : List ChannelName) (n : SideName) (l : LevelUnit) :
    (l.sampledSide agree cs n).head = l.head := by
  unfold LevelUnit.sampledSide LevelUnit.formSide
  split <;> simp

theorem pair_sampledSide (agree : Int) (cs : List ChannelName) (n k : SideName) (l : LevelUnit) :
    (l.sampledSide agree cs n).pair k = l.pair k := by
  simp [pair_eq]

theorem side_sampledSide_ne {n k : SideName} (hk : k ≠ n) (agree : Int) (cs : List ChannelName) (l : LevelUnit) :
    (l.sampledSide agree cs n).side k = l.side k := by
  unfold LevelUnit.sampledSide LevelUnit.formSide
  split <;> simp [side_setSide, hk]

theorem side_sampledSide (agree : Int) (cs : List ChannelName) (n : SideName) (l : LevelUnit)
    (hvalid : reaches cs n = true → l.sideState n = .valid) :
    (l.sampledSide agree cs n).side n =
      if reaches cs n then (l.side n).sampled n (l.pair n).1 (l.pair n).2 agree else l.side n := by
  unfold LevelUnit.sampledSide LevelUnit.formSide
  split
  next h => simp [side_setSide, hvalid h, Side.sampled, pair_eq]
  next => rfl

/-- The Level Unit as a good sample leaves it, before the head is formed (R46). -/
def LevelUnit.sampled (control : Vector Word 16) (d : SampleData) (cs : List ChannelName) (l : LevelUnit) : LevelUnit :=
  ((l.mapChannels (fun c _ => d.channel (ageLimit control c)) cs).sampledSide (agreeLimit control) cs .up).sampledSide
    (agreeLimit control) cs .down

section sampled

variable {control : Vector Word 16} {d : SampleData} {cs : List ChannelName} {l : LevelUnit}

theorem head_sampled : (l.sampled control d cs).head = l.head := by simp [LevelUnit.sampled]

variable (hcs : cs.Nodup)

include hcs

theorem channel_sampled (c : ChannelName) :
    (l.sampled control d cs).channel c = if c ∈ cs then d.channel (ageLimit control c) else l.channel c := by
  simp [LevelUnit.sampled, channel_mapChannels _ hcs]

/-- A side that the sample reaches has a FRESH channel (R43). -/
theorem sideState_of_reached {m : LevelUnit} (n : SideName)
    (hm : ∀ c, m.channel c = (l.mapChannels (fun c _ => d.channel (ageLimit control c)) cs).channel c)
    (hn : reaches cs n = true) : m.sideState n = .valid := by
  obtain ⟨c, hmem, hc⟩ := (reaches_iff cs n).mp hn
  apply sideState_of_fresh hc
  rw [hm, channel_mapChannels _ hcs, if_pos hmem]
  rfl

theorem side_sampled (n : SideName) :
    (l.sampled control d cs).side n =
      if reaches cs n then
        (l.side n).sampled n ((l.sampled control d cs).pair n).1 ((l.sampled control d cs).pair n).2 (agreeLimit control)
      else l.side n := by
  have hvalid (n : SideName) (m : LevelUnit) :=
    sideState_of_reached (control := control) (d := d) (l := l) (m := m) hcs n
  unfold LevelUnit.sampled
  cases n with
  | up =>
    rw [side_sampledSide_ne (by decide), side_sampledSide _ _ _ _ (hvalid _ _ fun _ => rfl), pair_sampledSide,
      pair_sampledSide, side_mapChannels]
  | down =>
    rw [side_sampledSide _ _ _ _ (hvalid _ _ (by simp)), side_sampledSide_ne (by decide), side_mapChannels,
      pair_sampledSide, pair_sampledSide, pair_sampledSide]

theorem sideState_sampled (n : SideName) (hn : reaches cs n = true) : (l.sampled control d cs).sideState n = .valid :=
  sideState_of_reached (control := control) (d := d) (l := l) hcs n (fun c => by simp [LevelUnit.sampled]) hn

end sampled

theorem clamp_mem {lo hi : Int} (h : lo ≤ hi) (x : Int) : lo ≤ clamp lo hi x ∧ clamp lo hi x ≤ hi := by
  unfold clamp
  split_ifs <;> omega

/-- A level formed of two channels within their ranges lies within the same range (R47). -/
theorem workingLevel_mem (n : SideName) {a b : Channel} {held : Int} (agree : Int) (ha : -8000 ≤ a.value ∧ a.value ≤ 12000)
    (hb : -8000 ≤ b.value ∧ b.value ≤ 12000) (hheld : -8000 ≤ held ∧ held ≤ 12000) :
    -8000 ≤ (workingLevel n a b agree held).1 ∧ (workingLevel n a b agree held).1 ≤ 12000 := by
  unfold workingLevel
  split
  · split
    · simp only [Int.fdiv_eq_ediv_of_nonneg _ (show (0 : Int) ≤ 2 by decide)]
      omega
    · cases n <;> dsimp only <;> omega
  · split
    · exact ha
    · split
      · exact hb
      · exact hheld

theorem lawful_sampled (control : Vector Word 16) (d : SampleData) {cs : List ChannelName} (hcs : cs.Nodup) {l : LevelUnit}
    (hl : l.Lawful) : (l.sampled control d cs).Lawful := by
  obtain ⟨⟨hc, hs, hh⟩, ht, hst⟩ := hl
  have hvalue (c : ChannelName) : -8000 ≤ ((l.sampled control d cs).channel c).value ∧
      ((l.sampled control d cs).channel c).value ≤ 12000 := by
    rw [channel_sampled hcs]
    split
    · exact clamp_mem (by decide) _
    · exact hc c
  refine ⟨⟨hvalue, fun n => ?_, by rwa [head_sampled]⟩, fun c => ?_, fun n => ?_⟩
  · rw [side_sampled hcs]
    split
    · rw [pair_eq]
      exact workingLevel_mem n _ (hvalue _) (hvalue _) (hs n)
    · exact hs n
  · rw [channel_sampled hcs]
    split
    · rfl
    · exact ht c
  · rw [side_sampled hcs]
    split
    next hn => exact (sideState_sampled hcs n hn).symm
    next hn =>
      have hkeep (c : ChannelName) (hc : sideOf c = n) : (l.sampled control d cs).channel c = l.channel c := by
        rw [channel_sampled hcs, if_neg]
        exact fun hmem => hn ((reaches_iff cs n).mpr ⟨c, hmem, hc⟩)
      rw [hst n]
      refine (sideState_congr ?_ (by rw [side_sampled hcs, if_neg hn])).symm
      rw [pair_eq, pair_eq, hkeep _ ((sideOf_eq_iff _ _).mpr (.inl rfl)), hkeep _ ((sideOf_eq_iff _ _).mpr (.inr rfl))]

/-- The head formed when both sides are VALID (R51). -/
def LevelUnit.withHead (l : LevelUnit) : LevelUnit :=
  if l.bothValid then { l with head := l.up.level - l.down.level } else l

theorem formHead_eq (s : State) : formHead s = s.onLevels LevelUnit.withHead := by
  unfold formHead LevelUnit.withHead
  split
  next h => simp [State.onLevels, h]
  next h => simp [State.onLevels, h]

@[simp] theorem channel_withHead (l : LevelUnit) (c : ChannelName) : l.withHead.channel c = l.channel c := by
  unfold LevelUnit.withHead
  split <;> cases c <;> rfl

@[simp] theorem side_withHead (l : LevelUnit) (n : SideName) : l.withHead.side n = l.side n := by
  unfold LevelUnit.withHead
  split <;> cases n <;> rfl

@[simp] theorem bothValid_withHead (l : LevelUnit) : l.withHead.bothValid = l.bothValid := by
  unfold LevelUnit.withHead
  split <;> rfl

theorem lawful_withHead {l : LevelUnit} (hl : l.Lawful) : l.withHead.Lawful := by
  obtain ⟨⟨hc, hs, hh⟩, ht, hst⟩ := hl
  refine ⟨⟨fun c => by simpa using hc c, fun n => by simpa using hs n, ?_⟩, fun c => by simpa using ht c, fun n => ?_⟩
  · have hu := hs .up
    have hd := hs .down
    simp only [LevelUnit.side] at hu hd
    unfold LevelUnit.withHead
    split
    · dsimp only
      omega
    · exact hh
  · rw [side_withHead, hst n]
    exact (sideState_congr (by simp [pair_eq]) (by simp)).symm

/-- A good sample is one change of the Level Unit, the SIDE-STATE notices, the head, and the hand-on (R46). -/
theorem goodSample_eq (d : SampleData) (cs : List ChannelName) (s : State) :
    goodSample d cs s =
      handOnFormation (reaches cs .up) (reaches cs .down)
        (formHead (notifySide .down s.levels.down.state (notifySide .up s.levels.up.state
          (s.onLevels (LevelUnit.sampled s.store.control d cs))))) := by
  unfold goodSample LevelUnit.sampled LevelUnit.sampledSide
  rw [foldl_refreshChannel]
  cases reaches cs .up <;> cases reaches cs .down <;> rfl

theorem handToMonitor_events (up down : Bool) (s : State) : Events s (handToMonitor up down s) := by
  unfold handToMonitor
  dsimp only
  have hup : Events s (if up then compareUp s.levels.up.level s else s) := by
    split
    · exact compareUp_events _ _
    · exact .refl s
  generalize (if up then compareUp s.levels.up.level s else s) = t at hup
  have hdown : Events t (if down then compareDown s.levels.down.level t else t) := by
    split
    · exact compareDown_events _ _
    · exact .refl t
  generalize (if down then compareDown s.levels.down.level t else t) = u at hdown
  refine (hup.trans hdown).trans ?_
  split
  · exact compareHead_events _ _
  · exact .refl u

theorem handToEvaluator_works (s : State) : Works (fun _ => True) s (handToEvaluator s) := by
  unfold handToEvaluator
  split
  · exact evaluate_works _ _ s
  · exact .refl s

theorem handOnFormation_events (up down : Bool) (s : State) : Events s (handOnFormation up down s) := by
  unfold handOnFormation
  dsimp only
  refine (chooseOrder_events 2 s).trans ?_
  split
  · exact (handToMonitor_events _ _ _).trans (handToEvaluator_works _).events
  · exact (handToEvaluator_works _).events.trans (handToMonitor_events _ _ _)

theorem goodSample_events (d : SampleData) {cs : List ChannelName} (hcs : cs.Nodup) (s : State) :
    Events s (goodSample d cs s) := by
  rw [goodSample_eq]
  refine (Events.of (.levels s _ (lawful_sampled s.store.control d hcs))).trans ?_
  refine (notifySide_works (G := fun _ => True) .up s.levels.up.state _).events.trans
    ((notifySide_works (G := fun _ => True) .down s.levels.down.state _).events.trans ?_)
  rw [formHead_eq]
  exact (Events.of (.levels _ _ lawful_withHead)).trans (handOnFormation_events _ _ _)

theorem faultSample_events {cs : List ChannelName} (hcs : cs.Nodup) (s : State) : Events s (faultSample cs s) := by
  unfold faultSample
  rw [foldl_faultChannel]
  exact recomputeSides_events s (lawful_recomputedFor hcs (fun _ h => h) fun _ => rfl)

theorem receiveSample_events (f : Frame) (s : State) : Events s (receiveSample f s) := by
  unfold receiveSample
  split
  · split
    · exact faultSample_events (channelsAt_nodup s _) s
    · exact goodSample_events _ (channelsAt_nodup s _) s
  · exact .refl s

theorem consumeData_events (f : Frame) (s : State) : Events s (consumeData f s) := by
  unfold consumeData
  split
  · split
    · exact receiveSample_events f s
    · exact .refl s
  · split
    · exact receiveStatus_events f true s
    · exact .refl s

theorem snoop_events (f : Frame) (s : State) : Events s (snoop f s) := by
  unfold snoop
  split
  · exact .refl s
  · split
    · exact receiveStatus_events f false s
    · split
      · exact receiveSample_events f s
      · exact .refl s

end Sys2Proof.Machine
end

section
/-!
PROOFS. What the orders and requests do: those at gates are runs of elementary changes, the others are the deeds of
`Deed`. Every command is a run of deeds, settled at its end or not (R180).
-/

namespace Sys2Proof.Machine

/-! ### Orders at gates -/

theorem silenceHoists_works {G : GateNo → Prop} {g : GateNo} (s : State) (hG : G g) : Works G s (silenceHoists g s) := by
  have hl : G (gateOf (leftHoist g)) := by simpa
  have hr : G (gateOf (rightHoist g)) := by simpa
  unfold silenceHoists
  refine (((Works.of (.empty s _ hl)).trans (.of (.empty _ _ hr))).trans (.of (.timers _ _ _ hl ?_))).trans
    (.of (.timers _ _ _ hr ?_))
  · exact fun _ => rfl
  · exact fun _ => rfl

/-- Any change of the standing target, and any loss of the queue, is a mark. -/
theorem remark_works {G : GateNo → Prop} {g : GateNo} {s : State} (φ : Gate → Gate) (hG : G g)
    (hφ : φ (s.gate g) = { s.gate g with queue := (φ (s.gate g)).queue, standing := (φ (s.gate g)).standing })
    (hq : (φ (s.gate g)).queue.Sublist (s.gate g).queue) : Works G s (s.onGate g φ) := by
  refine .of (.gate s g _ hG ?_)
  rw [hφ]
  exact .mark _ _ _ _ _ _ hq (fun h => .inr (.inr (.inl h))) fun h => .inl h

theorem leaveOff_works {G : GateNo → Prop} {g : GateNo} (m : Mode) (s : State) (hG : G g) : Works G s (leaveOff g m s) := by
  unfold leaveOff
  split
  · exact remark_works _ hG rfl (List.Sublist.refl _)
  · exact .refl s

theorem leaveOff_eq (g : GateNo) (m : Mode) (s : State) :
    leaveOff g m s = s.onGate g (fun x =>
      { x with standing := if x.mode = .off ∧ m ≠ .off then s.gatePosition g else x.standing }) := by
  unfold leaveOff
  split
  next h => exact State.onGate_congr (by simp [h])
  next h => exact (State.onGate_self (by simp only [if_neg h])).symm

/-- What the checks of R89 establish. -/
theorem setModeResult_done {g : GateNo} {m : Mode} {s : State} (h : setModeResult g m s = .done) :
    ((s.gate g).motion = .idle ∨ (s.gate g).inFlight = true) ∧
      ((m = .off ∧ (s.gate g).motion = .idle) ∨
        (m ≠ .off ∧ recordValid (s.record g) = true ∧ s.hoistsReady g = true)) := by
  unfold setModeResult at h
  dsimp only at h
  split at h
  · cases h
  next hbusy =>
    have hmotion : (s.gate g).motion = .idle ∨ (s.gate g).inFlight = true := by
      rw [inFlight_iff]
      cases hm : (s.gate g).motion <;> simp_all
    refine ⟨hmotion, ?_⟩
    split at h
    next hoff =>
      split at h
      next hidle => exact .inl ⟨hoff, hidle⟩
      next => cases h
    next hoff =>
      split at h
      · cases h
      next hvalid => exact .inr ⟨hoff, by simpa using hvalid⟩

theorem enterMode_works {G : GateNo → Prop} {g : GateNo} {m : Mode} {s : State} (hG : G g) (hrun : s.sup.device = .run)
    (h : setModeResult g m s = .done) : Works G s (enterMode g m s) := by
  obtain ⟨hmotion, hchecks⟩ := setModeResult_done h
  unfold enterMode
  dsimp only
  refine (leaveOff_works m s hG).trans ?_
  rw [leaveOff_eq]
  generalize hs1 : s.onGate g (fun x =>
      { x with standing := if x.mode = .off ∧ m ≠ .off then s.gatePosition g else x.standing }) = s1
  have hmotion1 : (s1.gate g).motion = (s.gate g).motion := by subst hs1; simp
  have hflight1 : (s1.gate g).inFlight = (s.gate g).inFlight := by simp only [Gate.inFlight, hmotion1]
  replace hrun : s1.sup.device = .run := by subst hs1; exact hrun
  replace hchecks : (m = .off ∧ (s1.gate g).motion = .idle) ∨
      (m ≠ .off ∧ recordValid (s1.record g) = true ∧ s1.hoistsReady g = true) := by
    rw [hmotion1]
    subst hs1
    exact hchecks
  have hservice (hne : m ≠ .off) : recordValid (s1.record g) = true ∧ s1.hoistsReady g = true :=
    (hchecks.resolve_left fun h => hne h.1).2
  cases m with
  | off =>
    obtain ⟨_, hidle⟩ | ⟨hne, _⟩ := hchecks
    · exact (Works.of (.gate s1 g _ hG (.off hidle))).trans (silenceHoists_works _ hG)
    · exact absurd rfl hne
  | hold =>
    obtain ⟨hvalid, hready⟩ := hservice nofun
    dsimp only
    unfold enterHold
    dsimp only
    have henter : Works G s1 (s1.onGate g (fun x =>
        { x with mode := .hold, queue := [], closurePending := false, tideClosed := false })) :=
      .of (.gate s1 g _ hG (.mode .hold [] false false hrun hvalid hready (.inl ⟨rfl, rfl⟩)))
    refine henter.trans ?_
    split
    next hf => exact enterStopping_works hG (by simpa [Gate.inFlight] using hf)
    next => exact (remark_works _ hG rfl (List.Sublist.refl _)).trans (postStops_works _ hG)
  | manual =>
    obtain ⟨hvalid, hready⟩ := hservice nofun
    dsimp only
    unfold enterManual
    exact (Works.of (.gate s1 g _ hG (.mode .manual _ false false hrun hvalid hready (.inr (.inl ⟨rfl, rfl⟩))))).trans (examine_works _ hG)
  | auto =>
    obtain ⟨hvalid, hready⟩ := hservice nofun
    dsimp only
    unfold enterAuto
    exact .of (.gate s1 g _ hG (.mode .auto _ _ _ hrun hvalid hready (.inr (.inr (.inl ⟨rfl, rfl⟩)))))
  | flood =>
    obtain ⟨hvalid, hready⟩ := hservice nofun
    dsimp only
    unfold enterFlood
    refine (Works.of (.gate s1 g _ hG (.mode .flood _ _ _ hrun hvalid hready (.inr (.inr (.inr ⟨rfl, ?_⟩)))))).trans (examine_works _ hG)
    split <;> simp

theorem effectMove_works {G : GateNo → Prop} {o : MoveOrder} {s : State} (src tag : Byte) (hG : G o.gate)
    (hrun : s.sup.device = .run) (h : moveResult o s = .done) : Works G s (effectMove o src tag s) := by
  unfold moveResult at h
  split at h
  · cases h
  next hfree =>
  split at h
  · cases h
  next hmode =>
  have hmode : (s.gate o.gate).mode = .manual := by simpa using hmode
  have hengaged : (s.gate o.gate).Engaged := .inl (by simp [hmode])
  unfold effectMove
  dsimp only
  split
  next hpre =>
    rw [if_pos hpre] at h
    unfold preemptResult at h
    dsimp only at h
    split at h
    next hready =>
      split at h
      next hwindow =>
        split
        next hflight =>
          have hstart := startMove_works (s := s) id hG
            (.start (s.capture o.gate (o.target (s.gate o.gate)) (s.resolveSpeed o.gate o.speed) (.order src tag)) _ _
              hengaged (.inl hflight) (.inl hwindow) (List.Sublist.refl _))
          rwa [State.onGate_self rfl] at hstart
        next hflight =>
          have hidle : (s.gate o.gate).motion = .idle := by
            simp only [hflight, Bool.false_or, Bool.and_eq_true, decide_eq_true_eq] at hready
            exact hready.1
          have hissue := issueMove_works (s := s) id hG
            (.start (s.capture o.gate (o.target (s.gate o.gate)) (s.resolveSpeed o.gate o.speed) (.order src tag)) _ _
              hengaged (.inr ⟨hidle, hrun, by simpa using hfree⟩) (.inl hwindow) (List.Sublist.refl _))
            (.complete _ _ _ _ hengaged (.inr hidle) (List.Sublist.refl _) fun _ => hengaged)
          rw [State.onGate_self rfl] at hissue
          exact hissue.trans (examine_works _ hG)
      next => cases h
    next => cases h
  next hpre =>
    rw [if_neg hpre] at h
    split at h
    next hroom =>
      refine (Works.of (.gate s _ _ hG ?_)).trans (examine_works _ hG)
      exact .order _ src tag hmode hroom rfl
    next => cases h

theorem stopGate_works {G : GateNo → Prop} {g : GateNo} (s : State) (hG : G g) : Works G s (stopGate g s) := by
  have hempty : Works G s (s.onGate g (fun x => { x with queue := [] })) :=
    remark_works _ hG rfl (List.nil_sublist _)
  unfold stopGate
  dsimp only
  refine hempty.trans ?_
  split
  next hf => exact enterStopping_works hG (by simpa [Gate.inFlight] using hf)
  next =>
    split
    · exact postStops_works _ hG
    · exact .refl _

theorem clearGateResult_done {x : Gate} (h : clearGateResult x = .done) : x.motion = .faulted := by
  unfold clearGateResult at h
  split at h
  next e => exact e
  all_goals cases h

/-- A gate that is cleared stands IDLE in HOLD at its position, and STOP is posted to both hoists (R92, R166). -/
theorem clearGate_eq (g : GateNo) (s : State) :
    clearGate g s = postStops g (s.onGate g (fun x =>
      { x with mode := .hold, motion := .idle, queue := [], closurePending := false, tideClosed := false
               standing := s.gatePosition g, save := { x.save with occupied := false, resumed := false } })) := by
  unfold clearGate enterHold
  simp only [State.gate_onGate_self, Gate.inFlight, State.onGate_onGate]
  rfl

theorem clearGate_works {G : GateNo → Prop} {g : GateNo} {s : State} (hG : G g) (hrun : s.sup.device = .run)
    (hmode : (s.gate g).mode ≠ .off) (h : clearGateResult (s.gate g) = .done) : Works G s (clearGate g s) := by
  rw [clearGate_eq]
  exact (Works.of (.gate s g _ hG (.clear _ hrun hmode (clearGateResult_done h)))).trans (postStops_works _ hG)

theorem resumeGate_works {G : GateNo → Prop} {g : GateNo} {s : State} (hG : G g) (hrun : s.sup.device = .run)
    (h : resumeResult g s = .done) : Works G s (resumeGate g s) := by
  unfold resumeResult at h
  dsimp only at h
  split at h
  · cases h
  next hfaulted =>
  split at h
  · cases h
  next =>
  split at h
  · cases h
  next hstanding =>
  split at h
  next hwindow =>
    have hfree : s.sup.holdLine = false := by
      simp only [State.standing, Bool.or_eq_true, not_or] at hstanding
      simpa using hstanding.2
    unfold resumeGate
    dsimp only
    have hf : (s.gate g).motion = .faulted := by
      by_contra hne
      exact hfaulted (.inl hne)
    exact startMove_works (φ := fun x => { x with save := { x.save with resumed := true } }) hG
      (.resume _ hf hrun hfree hwindow)
  next => cases h

end Sys2Proof.Machine
end

section
/-!
PROOFS. Every command as a run of deeds: what follows of the checks of a request still holds where its effect is carried
out, and each command is a run of the deeds of `Deed`, settled at its end or not (R180).
-/

namespace Sys2Proof.Machine

/-! ### The checks read nothing that traffic moves -/

section checks

variable {s t : State} (h : OnlyTraffic s t)

include h

theorem OnlyTraffic.inWindow (g : GateNo) (x : Int) : t.inWindow g x = s.inWindow g x := by
  simp [State.inWindow, h.record]

theorem OnlyTraffic.withinTolerance (g : GateNo) (x : Int) : t.withinTolerance g x = s.withinTolerance g x := by
  unfold State.withinTolerance State.leftOf State.rightOf
  rw [h.record, h.surroundings.position, h.surroundings.position]

theorem OnlyTraffic.hoistsReady (g : GateNo) : t.hoistsReady g = s.hoistsReady g := by
  simp [State.hoistsReady, h.driveOf, State.leftOf, State.rightOf, h.surroundings.valid]

theorem OnlyTraffic.scheduleOf (g : GateNo) : t.scheduleOf g = s.scheduleOf g := by
  simp [State.scheduleOf, State.schedule, State.record, h.store]

theorem OnlyTraffic.monitorOf (k : HoistNo) : (t.hoist k).monitor = (s.hoist k).monitor :=
  Hoist.monitor_of_exceptPhase (h.hoists k)

theorem OnlyTraffic.setModeResult (g : GateNo) (m : Mode) : setModeResult g m t = setModeResult g m s := by
  simp only [Machine.setModeResult, h.gate, h.record, h.hoistsReady, h.scheduleOf]

theorem OnlyTraffic.moveResult (o : MoveOrder) : moveResult o t = moveResult o s := by
  simp only [Machine.moveResult, preemptResult, h.gate, h.sup, h.inWindow, h.surroundings.bothStill]

theorem OnlyTraffic.resumeResult (g : GateNo) : resumeResult g t = resumeResult g s := by
  have hstanding : t.standing g = s.standing g := by
    simp only [State.standing, State.leftOf, State.rightOf, h.sup, h.surroundings.bothStill, h.monitorOf]
  unfold Machine.resumeResult
  dsimp only
  rw [h.gate, h.inWindow, hstanding]

theorem OnlyTraffic.writeCheck (o : WriteRows) : writeCheck o t = writeCheck o s := by
  have hoff : t.hoistsOff o = s.hoistsOff o := by
    unfold State.hoistsOff
    simp only [h.gate]
  unfold Machine.writeCheck
  rw [h.own, h.store, hoff]
  simp only [h.gate, h.record]

theorem OnlyTraffic.activateCheck (i : ImageName) : activateCheck i t = activateCheck i s := by
  unfold Machine.activateCheck State.schedule
  rw [h.store]

end checks

/-! ### Deeds -/

/-- The changes that commands are made of, besides those of `Event`. -/
inductive Deed : State → State → Prop
  | event {s t : State} (h : Event s t) : Deed s t
  | checkError (s : State) : Deed s (countCheckError s)
  | intake (s : State) (f : Frame) : Deed s (admitRequest f s)
  | hit (s : State) (e : Nat) : Deed s (countHit e s)
  | policed (s : State) : Deed s (setPolicedDrop s)
  | join (s : State) (f : Frame) : Deed s (joinTransit f s)
  /-- The retry flags of a hoist are set (R135, R136). -/
  | retry (s : State) (h : HoistNo) (b : Bool) :
      Deed s (s.onHoist h (fun x => { x with retry := true, exhausted := x.exhausted || b }))
  /-- A frame sent rejoins the post queue (R135). -/
  | rejoin (s : State) (h : HoistNo) (sl : Slot) (n : Nat) (slot : (s.hoist h).slot = some sl) (sent : sl.phase = .sent)
      (tries : n ≤ 255) : Deed s (rejoin h { sl with tries := n } s)
  | write (s : State) (o : WriteRows) (run : s.sup.device = .run) (check : writeCheck o s = .done) :
      Deed s (writeTable o s)
  | length (s : State) (i : ImageName) (n : Nat) (check : lengthCheck i n = .done) : Deed s (setLength i n s)
  | activate (s : State) (i : ImageName) (check : activateCheck i s = .done) : Deed s (activateImage i s)
  | clear (s : State) (k : FlagGroup) : Deed s (clearGroup k s)
  | forced (s : State) (v : Option Nat) : Deed s { s with forcedIndex := v }
  | holdAssert (s : State) (negated : s.sup.holdLine = false) : Deed s (holdAsserted s)
  | holdRelease (s : State) (asserted : s.sup.holdLine = true) :
      Deed s (s.onSup (fun x => { x with holdLine := false }))
  | drainEntry (s : State) (device : s.sup.device ≠ .drain) : Deed s (enterDrain s)
  | drainEnd (s : State) (yes : Bool) (device : s.sup.device = .drain) : Deed s (completeDrain yes s)

def Deeds : State → State → Prop := Relation.ReflTransGen Deed

theorem Deeds.refl (s : State) : Deeds s s := Relation.ReflTransGen.refl

theorem Deeds.of {s t : State} (h : Deed s t) : Deeds s t := Relation.ReflTransGen.single h

theorem Deeds.trans {s t u : State} (h : Deeds s t) (k : Deeds t u) : Deeds s u := Relation.ReflTransGen.trans h k

theorem Deeds.relates {R : State → State → Prop} (hrefl : ∀ s, R s s) (htrans : ∀ s t u, R s t → R t u → R s u)
    (hR : ∀ s t, Deed s t → R s t) {s t : State} (h : Deeds s t) : R s t := by
  induction h with
  | refl => exact hrefl s
  | tail _ hstep ih => exact htrans _ _ _ ih (hR _ _ hstep)

/-- What every deed keeps, a run of deeds keeps. -/
theorem Deeds.keeps {P : State → Prop} (hP : ∀ s t, Deed s t → P s → P t) {s t : State} (h : Deeds s t) (hs : P s) :
    P t :=
  h.relates (R := fun s t => P s → P t) (fun _ => id) (fun _ _ _ h k => k ∘ h) hP hs

theorem Events.deeds {s t : State} (h : Events s t) : Deeds s t :=
  h.relates Deeds.refl (fun _ _ _ => Deeds.trans) fun _ _ hstep => .of (.event hstep)

theorem Works.deeds {G : GateNo → Prop} {s t : State} (h : Works G s t) : Deeds s t := h.events.deeds

/-! ### Frames -/

theorem police_deeds (f : Frame) (s : State) : Deeds s (police f s).2 := by
  unfold police
  split
  · split
    · exact .refl s
    · dsimp only
      split_ifs
      · exact .refl s
      · exact .refl s
      · exact .of (.policed s)
    · exact .of (.policed s)
  · exact .refl s

theorem snoopAndForward_deeds (f : Frame) (s : State) : Deeds s (snoopAndForward f s) := by
  unfold snoopAndForward
  dsimp only
  refine (chooseOrder_events 2 s).deeds.trans ?_
  split
  · exact (snoop_events f _).deeds.trans (.of (.join _ f))
  · exact (Deeds.of (.join _ f)).trans (snoop_events f _).deeds

theorem actOnEntry_deeds (a : Option PassAction) (f : Frame) (s : State) : Deeds s (actOnEntry a f s) := by
  unfold actOnEntry
  split
  · exact .of (.join s f)
  · exact snoopAndForward_deeds f s
  · exact .refl s
  · dsimp only
    split
    · exact (police_deeds f s).trans (.of (.join _ f))
    · exact police_deeds f s
  · exact .refl s

theorem judge_deeds (f : Frame) (s : State) : Deeds s (judge f s) := by
  unfold judge
  split
  · exact (Deeds.of (.hit s _)).trans (actOnEntry_deeds _ _ _)
  · split
    · exact .refl s
    · exact .of (.join s f)

theorem dispatch_deeds (f : Frame) (s : State) : Deeds s (dispatch f s) := by
  unfold dispatch
  split
  · split
    · exact .refl s
    · exact .of (.intake s f)
  · exact (consumeData_events f s).deeds

theorem classify_deeds (f : Frame) (s : State) : Deeds s (classify f s) := by
  unfold classify
  split
  · exact .refl s
  · split
    · exact dispatch_deeds f s
    · split
      · exact (consumeData_events f s).deeds.trans (judge_deeds f _)
      · exact judge_deeds f s

theorem frameArrives_deeds (ws : List Word) (n : Nat) (s : State) : Deeds s (frameArrives ws n s) := by
  unfold frameArrives
  split
  · exact classify_deeds _ s
  · exact .of (.checkError s)

/-! ### Lines, the drain and timers -/

theorem holdAsserted_deeds (s : State) : Deeds s (holdAsserted s) := by
  cases h : s.sup.holdLine with
  | true => simpa [holdAsserted, h] using Deeds.refl s
  | false => exact .of (.holdAssert s h)

theorem examineIdleGates_works (s : State) : Works (fun _ => True) s (examineIdleGates s) := by
  unfold examineIdleGates
  exact (drawOrder_works _ _ s).trans (foldl_works _ _ (fun t g _ => examine_works t trivial) _)

theorem stopMovingGates_works (s : State) : Works (fun _ => True) s (stopMovingGates s) := by
  unfold stopMovingGates
  exact (drawOrder_works _ _ s).trans (foldl_works _ _ (fun t g _ => stopIfMoving_works t trivial) _)

/-- After the Supervisor's own change the entry into DRAIN is work (R172). -/
theorem enterDrain_works (s : State) :
    Works (fun _ => True)
      (s.onSup (fun x => { x with device := .drain, lockoutLine := false,
                                  drainTimer := some (drainLimit s.store.control), drainFulfilled := false }))
      (enterDrain s) :=
  (stopMovingGates_works _).trans (.of (.drain _))

theorem holdReleased_deeds (s : State) : Deeds s (holdReleased s) := by
  unfold holdReleased
  split
  next h => exact (Deeds.of (.holdRelease s h)).trans (examineIdleGates_works _).deeds
  next => exact .refl s

theorem drainCompletes_deeds (s : State) : Deeds s (drainCompletes s) := by
  unfold drainCompletes
  split
  next h => exact .of (.drainEnd s true (by simp at h; exact h.1))
  next => exact .refl s

theorem drainExpires_deeds (s : State) : Deeds s (drainExpires s) := by
  unfold drainExpires
  split
  next h => exact .of (.drainEnd s false (by simp at h; exact h.1))
  next => exact .refl s

/-- A channel's expiry changes the Level Unit lawfully (R42, R43). -/
theorem ageExpires_deeds (c : ChannelName) (s : State) : Deeds s (ageExpires c s) := by
  unfold ageExpires
  split
  · exact .refl s
  · exact (recomputeSides_events (φ := fun _ x => { x with state := .aged, ageTimer := none }) (cs := [c]) s
      (lawful_recomputedFor (List.nodup_singleton c) (fun _ h => h) fun _ => rfl)).deeds

/-- What is left of a fault of a gate whose timers were stopped before it (R160). -/
theorem reachCause_onGate_timers {g : GateNo} {s : State} (c : Cause) (φ : Gate → Gate) (a b : Option Nat)
    (hφ : φ (s.gate g) = { s.gate g with moveTimer := a, stopTimer := b }) (hmode : (s.gate g).mode ≠ .off)
    (hsound : (s.gate g).faulty = false) : reachCause g c (s.onGate g φ) = reachCause g c s := by
  have hfaulted : (s.onGate g φ).faultedGate g c = s.faultedGate g c := by
    simp only [State.faultedGate, State.gate_onGate_self, hφ]
    rfl
  have hstop (b : Bool) : faultStop g ((s.onGate g φ).savedMove g c) b (s.onGate g φ) =
      faultStop g (s.savedMove g c) b s := by
    rw [faultStop_savedMove_eq, faultStop_savedMove_eq, savedMove_eq, savedMove_eq, State.onGate_onGate, hfaulted]
  have hdemand : (s.onGate g φ).demandsLockout g = s.demandsLockout g := by
    simp only [State.demandsLockout, State.gate_onGate_self, hφ]
    rfl
  rw [reachCause_of_sound c hmode hsound, reachCause_of_sound c, hdemand, hstop, hstop]
  · simp only [State.gate_onGate_self, hφ]
    rfl
  · simpa only [State.gate_onGate_self, hφ] using hmode
  · simpa only [State.gate_onGate_self, hφ, Gate.faulty] using hsound

theorem moveTimerExpires_events (g : GateNo) (s : State) : Events s (moveTimerExpires g s) := by
  have hstop (hrest : (s.gate g).mode = .off ∨ (s.gate g).inFlight = false) :
      Events s (s.onGate g (fun x => { x with moveTimer := none })) :=
    .of (.work (.gate s g _ trivial (.moveTimer hrest)))
  unfold moveTimerExpires
  dsimp only
  split
  · exact .refl s
  · split
    next hflight =>
      by_cases hmode : (s.gate g).mode = .off
      · rw [reachCause_of_off _ _ _ (by simpa using hmode)]
        exact hstop (.inl hmode)
      · have hsound : (s.gate g).faulty = false := by
          rcases (inFlight_iff _).mp hflight with e | e <;> simp [Gate.faulty, e]
        rw [reachCause_onGate_timers _ _ none _ rfl hmode hsound]
        exact reachCause_events _ _ s
    next hflight => exact hstop (.inr (by simpa using hflight))

theorem stopTimerExpires_events (g : GateNo) (s : State) : Events s (stopTimerExpires g s) := by
  have hstop (hrest : (s.gate g).mode = .off ∨ (s.gate g).motion ≠ .stopping) :
      Events s (s.onGate g (fun x => { x with stopTimer := none })) :=
    .of (.work (.gate s g _ trivial (.stopTimer hrest)))
  unfold stopTimerExpires
  dsimp only
  split
  · exact .refl s
  · split
    next hstopping =>
      by_cases hmode : (s.gate g).mode = .off
      · rw [reachCause_of_off _ _ _ (by simpa using hmode)]
        exact hstop (.inl hmode)
      · rw [reachCause_onGate_timers _ _ _ none rfl hmode (by simp [Gate.faulty, hstopping])]
        exact reachCause_events _ _ s
    next hstopping =>
      exact ((hstop (.inr (by simp [hstopping]))).trans (reachCause_events _ _ _)).trans (demandLockout_events _ _ _)
    next hstopping _ => exact hstop (.inr hstopping)

theorem refreshExpires_works (h : HoistNo) (s : State) : Works (fun _ => True) s (refreshExpires h s) := by
  unfold refreshExpires
  dsimp only
  split
  · exact .refl s
  · have hrestart : Works (fun _ => True) s (restartRefresh h s) := restartRefresh_works s trivial
    split
    next sp hsp =>
      split
      · refine hrestart.trans (post_works trivial fun _ _ => .inr ?_)
        simpa [restartRefresh] using hsp
      · exact hrestart
    next => exact hrestart

/-- A frame that rejoins hides what its slot held (R135). -/
theorem rejoin_congr {h : HoistNo} {sl : Slot} {s : State} {φ ψ : Hoist → Hoist}
    (hφ : ∀ x p, { φ x with slot := p } = { ψ x with slot := p }) :
    rejoin h sl (s.onHoist h φ) = rejoin h sl (s.onHoist h ψ) := by
  unfold rejoin
  simp only [State.onHoist_onHoist, hφ]

/-- So does the emptying of a slot (R134). -/
theorem emptySlot_congr {h : HoistNo} {s : State} {φ ψ : Hoist → Hoist}
    (hφ : ∀ x p, { φ x with slot := p } = { ψ x with slot := p }) :
    emptySlot h (s.onHoist h φ) = emptySlot h (s.onHoist h ψ) := by
  unfold emptySlot
  simp only [State.onHoist_onHoist, hφ]

/-- What an expiry of an acknowledgement timer does, with the flags set in one change of the hoist (R135, R136). -/
theorem ackExpires_of_sent {h : HoistNo} {s : State} {sl : Slot} (hsl : (s.hoist h).slot = some sl)
    (hsent : sl.phase = .sent) (htimer : sl.ackTimer.isSome = true) :
    ackExpires h s =
      let again := fun (b : Bool) => rejoin h { sl with tries := min 255 (sl.tries + 1) }
        (s.onHoist h (fun x => { x with retry := true, exhausted := x.exhausted || b }))
      let emptied := emptySlot h (s.onHoist h (fun x => { x with retry := true, exhausted := x.exhausted || false }))
      if min 255 (sl.tries + 1) ≤ retryLimit s.store.control then again false
      else if abandonAction s.store.control then
        if s.sup.device = .drain then testDrain emptied else reachCause (gateOf h) .driveSilent emptied
      else again true := by
  unfold ackExpires exhaust
  simp only [hsl, hsent, htimer, and_self, if_true, State.onHoist_store, State.onHoist_sup, State.onHoist_onHoist]
  rw [emptySlot_congr (ψ := fun x => { x with retry := true, exhausted := x.exhausted || false }) fun x p => by simp]
  congr 1
  · exact rejoin_congr fun x p => by simp
  · congr 1
    exact rejoin_congr fun x p => by simp

theorem ackExpires_of_not_sent {h : HoistNo} {s : State}
    (hnot : ∀ sl, (s.hoist h).slot = some sl → ¬(sl.phase = .sent ∧ sl.ackTimer.isSome = true)) :
    ackExpires h s = s := by
  unfold ackExpires
  split
  next sl hsl => exact if_neg (hnot sl hsl)
  next => rfl

theorem ackExpires_deeds (h : HoistNo) (s : State) : Deeds s (ackExpires h s) := by
  by_cases hrun : ∃ sl, (s.hoist h).slot = some sl ∧ sl.phase = .sent ∧ sl.ackTimer.isSome = true
  · obtain ⟨sl, hsl, hsent, htimer⟩ := hrun
    have hagain (b : Bool) : Deeds s (rejoin h { sl with tries := min 255 (sl.tries + 1) }
        (s.onHoist h (fun y => { y with retry := true, exhausted := y.exhausted || b }))) :=
      (Deeds.of (.retry s h b)).trans (.of (.rejoin _ h sl _ (by simpa using hsl) hsent (Nat.min_le_left _ _)))
    have hempty := (Deeds.of (.retry s h false)).trans (.of (.event (.work (.empty _ h trivial))))
    rw [ackExpires_of_sent hsl hsent htimer]
    dsimp only
    split
    · exact hagain false
    · split
      · split
        · exact hempty.trans (.of (.event (.work (.drain _))))
        · exact hempty.trans (reachCause_events _ _ _).deeds
      · exact hagain true
  · rw [ackExpires_of_not_sent fun sl hsl hs => hrun ⟨sl, hsl, hs⟩]
    exact .refl s

end Sys2Proof.Machine
end

section
/-!
PROOFS. What a command comes to: a run of deeds, after a reply or without one, settled at its end or not; the end of a
transmission; or a reset.
-/

namespace Sys2Proof.Machine

/-- What a command does to the part. -/
inductive Run : State → State → Prop
  | unsettled {s t : State} (h : Deeds s t) : Run s t
  | settled {s u : State} (h : Deeds s u) : Run s (settle u)
  | replied {s u : State} (f : Frame) (a : Answer) (executing : s.req.executing = some f)
      (h : Deeds (placeReply f a s) u) : Run s (settle (endExecution u))
  /-- A gate in OFF is cleared, which no rule of the part lets stand FAULTED (R87). -/
  | revived {s : State} (f : Frame) (a : Answer) (g : GateNo) (executing : s.req.executing = some f)
      (run : s.sup.device = .run) (off : (s.gate g).mode = .off) (faulted : (s.gate g).motion = .faulted) :
      Run s (settle (endExecution (clearGate g (placeReply f a s))))
  | discarded (s : State) (f : Frame) (executing : s.req.executing = some f) :
      Run s (settle (endExecution (releaseReservation s)))
  | sent (s : State) : Run s (settle (transmissionCompletes s))
  | reset (s : State) (saddr caddr : Byte) (hold : Bool) : Run s (hardReset saddr caddr hold s)

/-! ### Requests -/

theorem executes_some {s : State} {r : RequestName} {f : Frame} (h : s.executes r = some f) : s.req.executing = some f := by
  unfold State.executes at h
  split at h
  next k hk =>
    split at h
    · obtain rfl := Option.some.inj h
      exact hk
    · cases h
  next => cases h

/-- The ways an execution may go: nothing under way, a discard, a refusal, or a DONE with its effect (R180). -/
theorem serve_cases (r : RequestName) (answer : Frame → State → Answer) (effect : Frame → State → State) (s : State) :
    serve r answer effect s = s ∨ ∃ f, s.req.executing = some f ∧
      (serve r answer effect s = settle (endExecution (releaseReservation s)) ∨
        serve r answer effect s = settle (endExecution (placeReply f (answer f s) s)) ∨
        ((answer f s).result = .done ∧
          serve r answer effect s = settle (endExecution (effect f (placeReply f (answer f s) s))))) := by
  unfold serve
  split
  · exact .inl rfl
  next f hf =>
    refine .inr ⟨f, executes_some hf, ?_⟩
    split
    · exact .inl rfl
    · dsimp only
      split
      next hdone => exact .inr (.inr ⟨hdone, rfl⟩)
      next => exact .inr (.inl rfl)

/-- An execution is a run when its effect is a run of deeds wherever its answer is DONE. -/
theorem serve_run {r : RequestName} {answer : Frame → State → Answer} {effect : Frame → State → State} {s : State}
    (heffect : ∀ f u, (answer f s).result = .done → OnlyTraffic s u → Deeds u (effect f u)) :
    Run s (serve r answer effect s) := by
  rcases serve_cases r answer effect s with h | ⟨f, hexec, h | h | ⟨hdone, h⟩⟩ <;> rw [h]
  · exact .unsettled (.refl s)
  · exact .discarded s f hexec
  · exact .replied f _ hexec (.refl _)
  · exact .replied f _ hexec (heffect f _ hdone (placeReply_traffic f _ s))

theorem refuse_result (r : Result) : (refuse r).result = r := rfl

/-- A DONE has passed every check; outside RUN it was given only where the request is taken there (R180). -/
theorem decideRequest_done {s : State} {m p l d : Bool} {own : Answer} (h : (decideRequest s m p l d own).result = .done) :
    m = false ∧ p = true ∧ own.result = .done ∧
      (s.sup.device = .run ∨ (s.sup.device = .lockout ∧ l = true) ∨ (s.sup.device = .drain ∧ d = true)) := by
  unfold decideRequest at h
  split at h
  · cases h
  next hm =>
  split at h
  · cases h
  next hp =>
  refine ⟨by simpa using hm, by simpa using hp, ?_⟩
  split at h
  next hrun => exact ⟨h, .inl hrun⟩
  next hlock =>
    split at h
    next hl => exact ⟨h, .inr (.inl ⟨hlock, hl⟩)⟩
    next => cases h
  next hdrain =>
    split at h
    next hd => exact ⟨h, .inr (.inr ⟨hdrain, hd⟩)⟩
    next => cases h

theorem decideRequest_done_run {s : State} {m p : Bool} {own : Answer}
    (h : (decideRequest s m p false false own).result = .done) : s.sup.device = .run ∧ own.result = .done := by
  obtain ⟨_, _, hown, hrun | ⟨_, hl⟩ | ⟨_, hd⟩⟩ := decideRequest_done h
  · exact ⟨hrun, hown⟩
  · cases hl
  · cases hd

theorem setMode_run (s : State) : Run s (serve .setMode answerSetMode effectSetMode s) := by
  refine serve_run fun f u hdone hu => ?_
  unfold effectSetMode
  split
  next g m hread =>
    simp only [answerSetMode, hread, decideOrder] at hdone
    obtain ⟨hrun, hown⟩ := decideRequest_done_run hdone
    exact (enterMode_works (G := fun _ => True) trivial (by rw [hu.sup, hrun])
      (by rw [hu.setModeResult]; exact hown)).deeds
  next => exact .refl u

theorem move_run (r : RequestName) (form : Form) (s : State) :
    Run s (serve r (answerMove form) (effectMoveOrder form) s) := by
  refine serve_run fun f u hdone hu => ?_
  unfold effectMoveOrder
  split
  next o hread =>
    simp only [answerMove, hread, decideOrder] at hdone
    obtain ⟨hrun, hown⟩ := decideRequest_done_run hdone
    exact (effectMove_works (G := fun _ => True) _ _ trivial (by rw [hu.sup, hrun])
      (by rw [hu.moveResult]; exact hown)).deeds
  next => exact .refl u

theorem effectStop_works (f : Frame) (s : State) : Works (fun _ => True) s (effectStop f s) := by
  unfold effectStop
  split
  · exact foldl_works _ _ (fun t g _ => stopGate_works t trivial) s
  · exact .refl s

theorem effectCancel_works (f : Frame) (s : State) : Works (fun _ => True) s (effectCancel f s) := by
  unfold effectCancel
  split
  · exact remark_works _ trivial rfl (List.nil_sublist _)
  · exact .refl s

theorem writeRows_run (s : State) : Run s (serve .writeRows answerWriteRows effectWriteRows s) := by
  refine serve_run fun f u hdone hu => ?_
  unfold effectWriteRows
  split
  next o hread =>
    simp only [answerWriteRows, hread] at hdone
    obtain ⟨hrun, hown⟩ := decideRequest_done_run hdone
    exact .of (.write u o (by rw [hu.sup, hrun]) (by rw [hu.writeCheck]; exact hown))
  next => exact .refl u

theorem setLength_run (s : State) : Run s (serve .setLength answerSetLength effectSetLength s) := by
  refine serve_run fun f u hdone hu => ?_
  unfold effectSetLength
  split
  next t i n hread =>
    simp only [answerSetLength, hread] at hdone
    exact .of (.length u i n (decideRequest_done_run hdone).2)
  next => exact .refl u

theorem activate_run (s : State) : Run s (serve .activate answerActivate effectActivate s) := by
  refine serve_run fun f u hdone hu => ?_
  unfold effectActivate
  split
  next t i hread =>
    simp only [answerActivate, hread] at hdone
    exact .of (.activate u i (by rw [hu.activateCheck]; exact (decideRequest_done_run hdone).2))
  next => exact .refl u

theorem effectClearFlags_deeds (f : Frame) (s : State) : Deeds s (effectClearFlags f s) := by
  unfold effectClearFlags
  split
  · exact .of (.clear s _)
  · exact .refl s

theorem clearGate_run (s : State) : Run s (serve .clearGate answerClearGate effectClearGate s) := by
  rcases serve_cases .clearGate answerClearGate effectClearGate s with h | ⟨f, hexec, h | h | ⟨hdone, h⟩⟩ <;> rw [h]
  · exact .unsettled (.refl s)
  · exact .discarded s f hexec
  · exact .replied f _ hexec (.refl _)
  · have hu := placeReply_traffic f (answerClearGate f s) s
    unfold effectClearGate
    split
    next g hread =>
      simp only [answerClearGate, hread] at hdone
      obtain ⟨hrun, hown⟩ := decideRequest_done_run hdone
      by_cases hmode : (s.gate g).mode = .off
      · exact .revived f _ g hexec hrun hmode (clearGateResult_done hown)
      · refine .replied f _ hexec (clearGate_works (G := fun _ => True) trivial ?_ ?_ ?_).deeds
        · rw [hu.sup, hrun]
        · rwa [hu.gate]
        · rw [hu.gate]
          exact hown
    next => exact .replied f _ hexec (.refl _)

theorem resumeGate_run (s : State) : Run s (serve .resumeGate answerResumeGate effectResumeGate s) := by
  refine serve_run fun f u hdone hu => ?_
  unfold effectResumeGate
  split
  next g hread =>
    simp only [answerResumeGate, hread] at hdone
    obtain ⟨hrun, hown⟩ := decideRequest_done_run hdone
    exact (resumeGate_works (G := fun _ => True) trivial (by rw [hu.sup, hrun]) (by rw [hu.resumeResult]; exact hown)).deeds
  next => exact .refl u

theorem softReset_run (s : State) : Run s (serve .softReset answerSoftReset effectSoftReset s) := by
  refine serve_run fun f u hdone hu => .of (.drainEntry u ?_)
  obtain ⟨_, _, _, h | ⟨h, _⟩ | ⟨_, h⟩⟩ := decideRequest_done hdone
  · rw [hu.sup, h]; nofun
  · rw [hu.sup, h]; nofun
  · cases h

/-- What every command comes to. -/
theorem exec_runs (i : Instr) (s : State) : ∃ t, exec i s = .next t ∧ Run s t := by
  cases i with
  | frameArrival ws n => exact ⟨_, rfl, .settled (frameArrives_deeds ws n s)⟩
  | transmissionComplete => exact ⟨_, rfl, .sent s⟩
  | hardReset saddr caddr hold => exact ⟨_, rfl, .reset s saddr caddr hold⟩
  | holdLineAsserted => exact ⟨_, rfl, .settled (holdAsserted_deeds s)⟩
  | holdLineReleased => exact ⟨_, rfl, .settled (holdReleased_deeds s)⟩
  | ageTimerExpiry c => exact ⟨_, rfl, .settled (ageExpires_deeds c s)⟩
  | ackTimerExpiry k => exact ⟨_, rfl, .settled (ackExpires_deeds k s)⟩
  | refreshTimerExpiry k => exact ⟨_, rfl, .settled (refreshExpires_works k s).deeds⟩
  | moveTimerExpiry g => exact ⟨_, rfl, .settled (moveTimerExpires_events g s).deeds⟩
  | stopTimerExpiry g => exact ⟨_, rfl, .settled (stopTimerExpires_events g s).deeds⟩
  | settleTimerExpiry k => exact ⟨_, rfl, .unsettled (.of (.event (.work (.timers s k _ trivial fun _ => rfl))))⟩
  | drainTimerExpiry => exact ⟨_, rfl, .settled (drainExpires_deeds s)⟩
  | drainCompletion => exact ⟨_, rfl, .settled (drainCompletes_deeds s)⟩
  | setMode => exact ⟨_, rfl, setMode_run s⟩
  | moveTo => exact ⟨_, rfl, move_run .moveTo .absolute s⟩
  | moveBy => exact ⟨_, rfl, move_run .moveBy .relative s⟩
  | stop => exact ⟨_, rfl, serve_run (fun f u _ _ => (effectStop_works f u).deeds)⟩
  | cancel => exact ⟨_, rfl, serve_run (fun f u _ _ => (effectCancel_works f u).deeds)⟩
  | writeRows => exact ⟨_, rfl, writeRows_run s⟩
  | readRows => exact ⟨_, rfl, serve_run (fun _ u _ _ => .refl u)⟩
  | setLength => exact ⟨_, rfl, setLength_run s⟩
  | activate => exact ⟨_, rfl, activate_run s⟩
  | readState => exact ⟨_, rfl, serve_run (fun _ u _ _ => .refl u)⟩
  | clearFlags => exact ⟨_, rfl, serve_run (fun f u _ _ => effectClearFlags_deeds f u)⟩
  | clearGate => exact ⟨_, rfl, clearGate_run s⟩
  | resumeGate => exact ⟨_, rfl, resumeGate_run s⟩
  | forceIndex => exact ⟨_, rfl, serve_run (fun _ u _ _ => .of (.forced u _))⟩
  | releaseIndex => exact ⟨_, rfl, serve_run (fun _ u _ _ => .of (.forced u _))⟩
  | softReset => exact ⟨_, rfl, softReset_run s⟩
  | startMarkBeforeEndMark => exact ⟨_, rfl, .unsettled (.of (.checkError s))⟩

theorem exec_run {i : Instr} {s t : State} (h : exec i s = .next t) : Run s t := by
  obtain ⟨u, hu, hrun⟩ := exec_runs i s
  rwa [← Host.Outcome.next.inj (hu.symm.trans h)]

/-! ### Steps -/

/-- What every command keeps, every step keeps, when the queue of commands is nothing to it. -/
theorem step_keeps {P : State → Prop} (hpending : ∀ s p, P s → P { s with pending := p })
    (hrun : ∀ s t, Run s t → P s → P t) {s t : State} (h : step s = .next t) (hs : P s) : P t := by
  unfold step at h
  split at h
  · obtain rfl := Host.Outcome.next.inj h
    exact hs
  · exact hrun _ _ (exec_run h) (hpending _ _ hs)

end Sys2Proof.Machine
end

section
/-!
PROOFS. Every command in single changes: the rules that hold of the parts of the state one by one are proved against the
cases of `Change`.
-/

namespace Sys2Proof.Machine

/-- The hoists and the post queue as a drain's completion leaves them (R175). -/
def State.silenced (s : State) : State :=
  { s with hoists := s.hoists.map Hoist.drained, post := { s.post with queue := [] } }

/-- The single changes that commands are made of. -/
inductive Change : State → State → Prop
  | grantTransit (s : State) (n : Nat) (count : n ≤ 3) : Change s (grantTransit n s)
  | grantOwn (s : State) : Change s (grantOwn s)
  | rotation (s : State) : Change s (s.onRing (fun r => { r with consecutive := 0 }))
  | idle (s : State) : Change s (ringOutIdle s)
  | reply (s : State) (f : OwnFrame) : Change s (s.onReq (fun q => { q with report := fillReservation f q.report }))
  | drop (s : State) : Change s (s.onReq (fun q => { q with report := dropReservation q.report }))
  | start (s : State) (may : s.mayExecute = true) : Change s (startExecution s)
  | finish (s : State) : Change s (endExecution s)
  | tag (s : State) : Change s (takeTag s)
  | notice (s : State) (f : OwnFrame) (count : noticeCount s.req.report < 12) (room : s.req.report.length < 16) :
      Change s (s.onReq (fun q => { q with report := q.report ++ [.notice f] }))
  | lost (s : State) (a b : Bool) : Change s (s.onReq (fun q => { q with requestLost := a, noticeLost := b }))
  | intake (s : State) (f : Frame) (room : s.req.intake.length < 4) :
      Change s (s.onReq (fun q => { q with intake := q.intake ++ [f] }))
  | order (s : State) (n : Nat) : Change s (chooseOrder n s).2
  | checkError (s : State) : Change s (countCheckError s)
  | loss (s : State) : Change s (s.onRing (fun r => { r with transitLosses := bump r.transitLosses }))
  | transit (s : State) (f : Frame) (room : s.ring.transit.length < 8) :
      Change s (s.onRing (fun r => { r with transit := r.transit ++ [f] }))
  | pass (s : State) (φ : PassFilter → PassFilter) (length : (φ s.pass).hits.length = s.pass.hits.length)
      (hits : ∀ n ∈ (φ s.pass).hits, n ∈ s.pass.hits ∨ n ≤ 65535) : Change s (s.onPass φ)
  /-- A MOVE posted is the move in flight or the setpoint posted last (R110, R112, R138). -/
  | occupyMerged (s : State) (h : HoistNo) (sp : Setpoint) (tag : Byte) (waiting : (s.hoist h).phase = some .waiting)
      (htag : tag ≠ 0#8) (may : s.mayPost h sp.command = true)
      (target : sp.command = .move →
        (∃ g c, (s.gate g).mode ≠ .off ∧ (s.gate g).context = some c ∧ sp.target = c.target) ∨
          (s.hoist h).lastPosted = some sp) : Change s (occupySlot h sp tag s)
  | occupyJoined (s : State) (h : HoistNo) (sp : Setpoint) (tag : Byte) (waiting : (s.hoist h).phase ≠ some .waiting)
      (htag : tag ≠ 0#8) (may : s.mayPost h sp.command = true)
      (target : sp.command = .move →
        (∃ g c, (s.gate g).mode ≠ .off ∧ (s.gate g).context = some c ∧ sp.target = c.target) ∨
          (s.hoist h).lastPosted = some sp) :
      Change s (occupySlot h sp tag (s.onPost (fun p => { p with queue := p.queue ++ [h] })))
  | empty (s : State) (h : HoistNo) :
      Change s ((s.onHoist h (fun x => { x with slot := none })).onPost
        (fun p => { p with queue := p.queue.filter (fun k => k ≠ h) }))
  | rejoin (s : State) (h : HoistNo) (sl : Slot) (n : Nat) (slot : (s.hoist h).slot = some sl) (sent : sl.phase = .sent)
      (tries : n ≤ 255) :
      Change s ((s.onHoist h (fun x =>
          { x with slot := some { sl with tries := n, phase := .waiting, ackTimer := none } })).onPost
        (fun p => { p with queue := p.queue ++ [h] }))
  | sent (s : State) (h : HoistNo) (sl : Slot) (slot : (s.hoist h).slot = some sl) (sending : sl.phase = .sending) :
      Change s (s.onHoist h (fun x =>
        { x with slot := some { sl with phase := .sent, ackTimer := some (ackTimeout s.store.control) } }))
  | hoist (s : State) (h : HoistNo) (φ : Hoist → Hoist)
      (hφ : ∀ x, φ x = { x with refreshTimer := (φ x).refreshTimer, settleTimer := (φ x).settleTimer,
                                retry := (φ x).retry, exhausted := (φ x).exhausted, monitor := (φ x).monitor }) :
      Change s (s.onHoist h φ)
  | status (s : State) (h : HoistNo) (d : StatusData) : Change s (applyStatus h d s)
  | silence (s : State) : Change s s.silenced
  | gate (s : State) (g : GateNo) (φ : Gate → Gate) (hφ : GateStep s g (φ (s.gate g))) : Change s (s.onGate g φ)
  | revive (s : State) (g : GateNo) (φ : Gate → Gate) (off : (s.gate g).mode = .off)
      (faulted : (s.gate g).motion = .faulted) : Change s (s.onGate g φ)
  | drainedGate (s : State) (g : GateNo) (p : Int) : Change s (s.onGate g (Gate.drained p))
  | levels (s : State) (φ : LevelUnit → LevelUnit) (lawful : s.levels.Lawful → (φ s.levels).Lawful) :
      Change s (s.onLevels φ)
  | monitor (s : State) (φ : Monitor → Monitor) : Change s (s.onMonitor φ)
  | forced (s : State) (v : Option Nat) : Change s { s with forcedIndex := v }
  | sup (s : State) (φ : Supervisor → Supervisor)
      (line : s.lockoutRule → (φ s.sup).lockoutLine = decide ((φ s.sup).device = .lockout)) : Change s (s.onSup φ)
  | control (s : State) (v : Vector Word 16) : Change s (s.onStore (fun t => { t with control := v }))
  | write (s : State) (o : WriteRows) (table : o.table ≠ .control) (check : writeCheck o s = .done) :
      Change s (writeTable o s)
  | length (s : State) (i : ImageName) (n : Nat) (check : lengthCheck i n = .done) : Change s (setLength i n s)
  | activate (s : State) (i : ImageName) (check : activateCheck i s = .done) : Change s (activateImage i s)

def Changes : State → State → Prop := Relation.ReflTransGen Change

theorem Changes.refl (s : State) : Changes s s := Relation.ReflTransGen.refl

theorem Changes.of {s t : State} (h : Change s t) : Changes s t := Relation.ReflTransGen.single h

theorem Changes.trans {s t u : State} (h : Changes s t) (k : Changes t u) : Changes s u :=
  Relation.ReflTransGen.trans h k

theorem Changes.keeps {P : State → Prop} (hP : ∀ s t, Change s t → P s → P t) {s t : State} (h : Changes s t)
    (hs : P s) : P t := by
  induction h with
  | refl => exact hs
  | tail _ hstep ih => exact hP _ _ hstep ih

theorem foldl_changes {α : Type} (f : State → α → State) (xs : List α) (hf : ∀ s, ∀ a ∈ xs, Changes s (f s a))
    (s : State) : Changes s (xs.foldl f s) := by
  induction xs generalizing s with
  | nil => exact .refl s
  | cons a xs ih =>
    exact (hf s a List.mem_cons_self).trans (ih (fun t b hb => hf t b (List.mem_cons_of_mem a hb)) _)

/-! ### Traffic -/

theorem rotation_le (t : Vector Word 16) : rotation t ≤ 3 := by
  unfold rotation field
  omega

theorem arbitrate_changes (s : State) : Changes s (arbitrate s) := by
  unfold arbitrate grant
  split
  · have hle := rotation_le s.store.control
    split_ifs
    · exact .of (.grantOwn s)
    · exact .of (.rotation s)
    · exact .of (.grantTransit s 0 (by omega))
    · exact .of (.grantTransit s 0 (by omega))
    · exact .of (.grantTransit s _ (by omega))
    · exact .of (.grantOwn s)
  · exact .refl s

theorem settleRotation_changes (s : State) : Changes s (settleRotation s) := by
  unfold settleRotation
  split
  · exact .refl s
  · exact .of (.rotation s)

theorem placeReply_changes (f : Frame) (a : Answer) (s : State) : Changes s (placeReply f a s) :=
  (Changes.of (.reply s _)).trans (arbitrate_changes _)

theorem releaseReservation_changes (s : State) : Changes s (releaseReservation s) :=
  ((Changes.of (.drop s)).trans (settleRotation_changes _)).trans (arbitrate_changes _)

theorem answerUnlisted_changes (f : Frame) (s : State) : Changes s (answerUnlisted f s) := by
  unfold answerUnlisted
  refine Changes.trans ?_ (.of (.finish _))
  split
  · exact releaseReservation_changes s
  · exact placeReply_changes _ _ s

theorem nextExecution_changes (n : Nat) (s : State) : Changes s (nextExecution n s) := by
  induction n generalizing s with
  | zero => exact .refl s
  | succ n ih =>
    unfold nextExecution
    split
    next may =>
      split
      · split
        · exact .of (.start s may)
        · exact ((Changes.of (.start s may)).trans (answerUnlisted_changes _ _)).trans (ih _)
      · exact .refl s
    next => exact .refl s

theorem settle_changes (s : State) : Changes s (settle s) := by
  unfold settle updateFaultLine
  exact (nextExecution_changes _ s).trans (.of (.monitor _ _))

theorem finished_changes (s : State) : Changes s (settle (endExecution s)) :=
  (Changes.of (.finish s)).trans (settle_changes _)

/-! ### Work and events -/

theorem nextTag_ne_zero (t : Byte) : nextTag t ≠ 0#8 := by
  unfold nextTag
  split
  · decide
  next h => bv_omega

theorem testDrain_changes (s : State) : Changes s (testDrain s) := by
  unfold testDrain
  split
  · exact .of (.sup s _ id)
  · exact .refl s

theorem Work.changes {G : GateNo → Prop} {s t : State} (h : Work G s t) : Changes s t := by
  cases h with
  | arbitrate => exact arbitrate_changes s
  | tag => exact .of (.tag s)
  | notice f hcount hroom => exact .of (.notice s f hcount hroom)
  | noticeLost => exact .of (.lost s s.req.requestLost true)
  | order n => exact .of (.order s n)
  | post h sp _ may target =>
    by_cases hp : (s.hoist h).phase = some .waiting
    · rw [placePost_of_waiting sp hp]
      refine ((Changes.of (.tag s)).trans (.of (.occupyMerged _ h sp _ hp (nextTag_ne_zero _) may target))).trans
        (arbitrate_changes _)
    · rw [placePost_of_not_waiting sp hp]
      refine ((Changes.of (.tag s)).trans (.of (.occupyJoined _ h sp _ hp (nextTag_ne_zero _) may target))).trans
        (arbitrate_changes _)
  | empty h => exact (Changes.of (.empty s h)).trans (settleRotation_changes _)
  | timers h φ _ hφ => exact .of (.hoist s h φ fun x => by rw [hφ x])
  | drain => exact testDrain_changes s
  | gate g φ _ hφ => exact .of (.gate s g φ hφ)

theorem Works.changes {G : GateNo → Prop} {s t : State} (h : Works G s t) : Changes s t :=
  h.relates Changes.refl (fun _ _ _ => Changes.trans) fun _ _ => Work.changes

theorem Event.changes {s t : State} (h : Event s t) : Changes s t := by
  cases h with
  | work h => exact h.changes
  | lockout c g run => exact (Changes.of (.sup s _ fun _ => rfl)).trans (enterLockout_works c g s).changes
  | status h d => exact .of (.status s h d)
  | load h q => exact .of (.hoist s h _ fun _ => rfl)
  | monitor φ => exact .of (.monitor s φ)
  | levels φ hφ => exact .of (.levels s φ hφ)

theorem Events.changes {s t : State} (h : Events s t) : Changes s t :=
  h.relates Changes.refl (fun _ _ _ => Changes.trans) fun _ _ => Event.changes

/-! ### Frames -/

theorem admitRequest_changes (f : Frame) (s : State) : Changes s (admitRequest f s) := by
  unfold admitRequest
  split_ifs with _ hroom
  · exact .refl s
  · exact .of (.intake s f hroom)
  · exact .of (.lost s true s.req.noticeLost)

theorem joinTransit_changes (f : Frame) (s : State) : Changes s (joinTransit f s) := by
  unfold joinTransit
  split
  next hroom => exact (Changes.of (.transit s f hroom)).trans (arbitrate_changes _)
  next => exact .of (.loss s)

theorem bump_le {n : Nat} : bump n ≤ 65535 := by
  unfold bump
  split <;> omega

theorem countHit_changes (e : Nat) (s : State) : Changes s (countHit e s) := by
  unfold countHit
  refine .of (.pass s _ (by simp) fun n hn => ?_)
  rcases List.mem_or_eq_of_mem_set hn with h | rfl
  · exact .inl h
  · exact .inr bump_le

/-! ### Tables and flags -/

theorem foldl_rebindChannel (cs : List ChannelName) (s : State) :
    cs.foldl (fun acc c => rebindChannel c acc) s = s.onLevels (LevelUnit.mapChannels (fun _ _ => Channel.reset) cs) :=
  foldl_onChannel (fun _ _ => Channel.reset) cs s

theorem rebindChannels_events {cs : List ChannelName} (hcs : cs.Nodup) (s : State) : Events s (rebindChannels cs s) := by
  unfold rebindChannels
  rw [foldl_rebindChannel]
  exact recomputeSides_events s
    (lawful_recomputedFor hcs (fun _ _ => by simp [Channel.reset]) fun _ => rfl)

theorem changedBindings_nodup (a b : Vector Word 16) : (changedBindings a b).Nodup := by
  unfold changedBindings
  exact List.Nodup.filter _ (by decide)

theorem writeTable_control {o : WriteRows} (s : State) (h : o.table = .control) : writeTable o s = writeControl o s := by
  simp [writeTable, h]

/-- After the rows are stored a write of the Control Record is an event of the Level Unit (R53). -/
theorem writeControl_events (o : WriteRows) (s : State) :
    Events (s.onStore (fun t => { t with control := storeRows s.store.control o.start o.values })) (writeControl o s) :=
  rebindChannels_events (changedBindings_nodup _ _) _

theorem writeTable_changes {o : WriteRows} {s : State} (check : writeCheck o s = .done) : Changes s (writeTable o s) := by
  by_cases htable : o.table = .control
  · rw [writeTable_control s htable]
    exact (Changes.of (.control s _)).trans (writeControl_events o s).changes
  · exact .of (.write s o htable check)

/-- Flags of the sides say nothing about their states (R44, R48, R49). -/
theorem lawful_sideFlags {l : LevelUnit} (hl : l.Lawful) (a b c d : Bool) :
    LevelUnit.Lawful { l with up := { l.up with updated := a, disagree := b },
                              down := { l.down with updated := c, disagree := d } } := by
  obtain ⟨⟨hc, hs, hh⟩, ht, hst⟩ := hl
  refine ⟨⟨hc, fun n => ?_, hh⟩, ht, fun n => ?_⟩
  · cases n
    · exact hs .up
    · exact hs .down
  · cases n
    · exact hst .up
    · exact hst .down

theorem clearGroup_changes (k : FlagGroup) (s : State) : Changes s (clearGroup k s) := by
  unfold clearGroup
  split
  · exact .of (.lost s false false)
  · exact .of (.levels s _ fun hl => lawful_sideFlags hl false s.levels.up.disagree false s.levels.down.disagree)
  · exact .of (.pass s _ rfl fun n hn => .inl hn)
  · refine ((Changes.of (.gate s _ _ ?_)).trans (.of (.hoist _ _ _ fun _ => rfl))).trans (.of (.hoist _ _ _ fun _ => rfl))
    exact .mark _ _ _ _ _ _ (List.Sublist.refl _) (fun h => .inr (.inr (.inl h))) fun h => .inl h
  · exact .of (.monitor s _)
  · exact .of (.monitor s _)
  · exact .of (.monitor s _)
  · exact foldl_changes _ _ (fun t h _ => .of (.hoist t h _ fun _ => rfl)) s

/-! ### The drain -/

theorem foldl_onHoist (φ : Hoist → Hoist) (hs : List HoistNo) (hnodup : hs.Nodup) (s : State) :
    hs.foldl (fun acc h => acc.onHoist h φ) s =
      { s with hoists := Vector.ofFn (fun i => if i ∈ hs then φ (s.hoist i) else s.hoist i) } := by
  induction hs generalizing s with
  | nil =>
    have hsame : Vector.ofFn (fun i => s.hoist i) = s.hoists := by
      ext i hi
      simp [State.hoist]
    simp only [List.foldl_nil, List.not_mem_nil, if_false, hsame]
  | cons k hs ih =>
    obtain ⟨hk, hnodup⟩ := List.nodup_cons.mp hnodup
    rw [List.foldl_cons, ih hnodup]
    congr 1
    apply congrArg
    funext i
    by_cases hik : i = k
    · subst hik
      simp [hk]
    · simp [hik, State.hoist_onHoist_ne]

theorem allHoists_nodup : allHoists.Nodup := by decide

theorem mem_allHoists (h : HoistNo) : h ∈ allHoists := by
  revert h
  decide

theorem allGates_nodup : allGates.Nodup := by decide

theorem mem_allGates (g : GateNo) : g ∈ allGates := by
  revert g
  decide

theorem drainHoists_eq (s : State) : drainHoists s = { s with hoists := s.hoists.map Hoist.drained } := by
  unfold drainHoists
  rw [foldl_onHoist _ _ allHoists_nodup]
  congr 1
  ext i hi
  simp [mem_allHoists, State.hoist]

/-- The gates as a drain's completion leaves them (R175). -/
theorem drainGates_eq (s : State) :
    drainGates s = { s with gates := Vector.ofFn (fun g => Gate.drained (s.gatePosition g) (s.gate g)) } := by
  have hfold (gs : List GateNo) (hnodup : gs.Nodup) (s : State) :
      gs.foldl (fun acc g => acc.onGate g (Gate.drained (acc.gatePosition g))) s =
        { s with gates := Vector.ofFn (fun g =>
            if g ∈ gs then Gate.drained (s.gatePosition g) (s.gate g) else s.gate g) } := by
    induction gs generalizing s with
    | nil =>
      have hsame : Vector.ofFn (fun i => s.gate i) = s.gates := by
        ext i hi
        simp [State.gate]
      simp only [List.foldl_nil, List.not_mem_nil, if_false, hsame]
    | cons k gs ih =>
      obtain ⟨hk, hnodup⟩ := List.nodup_cons.mp hnodup
      rw [List.foldl_cons, ih hnodup]
      congr 1
      apply congrArg
      funext i
      by_cases hik : i = k
      · subst hik
        simp [hk]
      · simp [hik, State.gate_onGate_ne, State.gatePosition, State.leftOf, State.rightOf]
  unfold drainGates
  rw [hfold _ allGates_nodup]
  simp [mem_allGates]

theorem drainGates_changes (s : State) : Changes s (drainGates s) := by
  unfold drainGates
  exact foldl_changes _ _ (fun t g _ => .of (.drainedGate t g _)) s

/-- The blocks of a part whose post queue is empty are reinitialised one by one (R175). -/
theorem drainBlocks_changes {s : State} (hqueue : s.post.queue = []) (hdevice : s.sup.device = .drain) :
    Changes s (drainBlocks s) := by
  have hpost : ({ s.post with queue := [] } : PostUnit) = s.post := by rw [← hqueue]
  unfold drainBlocks
  rw [hpost]
  have hline (h : s.lockoutRule) : s.sup.lockoutLine = decide (Device.run = .lockout) := by
    have h' : s.sup.lockoutLine = decide (s.sup.device = .lockout) := h
    simpa [hdevice] using h'
  exact ((((((Changes.of (.levels s
    (fun l => { l with up := { l.up with updated := false, disagree := false },
                       down := { l.down with updated := false, disagree := false } })
    fun hl => lawful_sideFlags hl false false false false)).trans
    (.of (.monitor _ fun m => { m with up := m.up.clearFlags, down := m.down.clearFlags, head := m.head.clearFlags }))).trans
    (.of (.pass _ (fun p => { p with policedDrop := false }) rfl fun n hn => .inl hn))).trans
    (.of (.lost _ false false))).trans (.of (.rotation _))).trans (.of (.forced _ none))).trans
    (.of (.sup _ (fun x => { x with device := .run, lockoutCause := .unset, lockoutGate := none, drainTimer := none,
                                    drainFulfilled := false }) hline))

/-- The hoists and the queue are silenced, and then gate after gate and block after block reset (R175). -/
theorem completeDrain_changes {s : State} (yes : Bool) (hdevice : s.sup.device = .drain) :
    Changes s (completeDrain yes s) := by
  have hblocks : drainBlocks (drainGates (drainHoists s)) = drainBlocks (drainGates s.silenced) := by
    rw [drainHoists_eq, drainGates_eq, drainGates_eq]
    rfl
  unfold completeDrain
  dsimp only
  rw [hblocks]
  refine (((Changes.of (.silence s)).trans (drainGates_changes _)).trans (drainBlocks_changes ?_ ?_)).trans
    (notify_works (G := fun _ => True) _ _).changes
  · rw [drainGates_eq]
    rfl
  · rw [drainGates_eq]
    exact hdevice

theorem Deed.changes {s t : State} (h : Deed s t) : Changes s t := by
  cases h with
  | event h => exact h.changes
  | checkError => exact .of (.checkError s)
  | intake f => exact admitRequest_changes f s
  | hit e => exact countHit_changes e s
  | policed => exact .of (.pass s _ rfl fun n hn => .inl hn)
  | join f => exact joinTransit_changes f s
  | retry h b => exact .of (.hoist s h _ fun _ => rfl)
  | rejoin h sl n slot sent tries => exact (Changes.of (.rejoin s h sl n slot sent tries)).trans (arbitrate_changes _)
  | write o _ check => exact writeTable_changes check
  | length i n check => exact .of (.length s i n check)
  | activate i check => exact .of (.activate s i check)
  | clear k => exact clearGroup_changes k s
  | forced v => exact .of (.forced s v)
  | holdAssert negated =>
    unfold holdAsserted
    rw [if_neg (by simp [negated])]
    exact (Changes.of (.sup s _ id)).trans (stopMovingGates_works _).changes
  | holdRelease => exact .of (.sup s _ id)
  | drainEntry =>
    exact (Changes.of (.sup s _ fun _ => rfl)).trans (enterDrain_works s).changes
  | drainEnd yes device => exact completeDrain_changes yes device

theorem Deeds.changes {s t : State} (h : Deeds s t) : Changes s t :=
  h.relates Changes.refl (fun _ _ _ => Changes.trans) fun _ _ => Deed.changes

theorem transmissionCompletes_changes (s : State) : Changes s (transmissionCompletes s) := by
  unfold transmissionCompletes
  split
  · exact .refl s
  · refine ((Changes.of (.idle s)).trans ?_).trans (arbitrate_changes _)
    unfold postSent
    split
    next sl hsl =>
      split
      next hsent => exact .of (.sent _ _ sl hsl hsent.1)
      next => exact .refl _
    next => exact .refl _
  all_goals exact (Changes.of (.idle s)).trans (arbitrate_changes _)

/-- A command but the reset is a run of changes. -/
theorem Run.changes {s t : State} (h : Run s t) : Changes s t ∨ ∃ a b c, t = hardReset a b c s := by
  cases h with
  | unsettled h => exact .inl h.changes
  | settled h => exact .inl (h.changes.trans (settle_changes _))
  | replied f a _ h => exact .inl (((placeReply_changes f a s).trans h.changes).trans (finished_changes _))
  | revived f a g _ _ off faulted =>
    have hu := placeReply_traffic f a s
    refine .inl (((placeReply_changes f a s).trans ?_).trans (finished_changes _))
    rw [clearGate_eq]
    exact (Changes.of (.revive _ g _ (by rwa [hu.gate]) (by rwa [hu.gate]))).trans
      (postStops_works (G := fun _ => True) _ trivial).changes
  | discarded => exact .inl ((releaseReservation_changes s).trans (finished_changes _))
  | sent => exact .inl ((transmissionCompletes_changes s).trans (settle_changes _))
  | reset a b c => exact .inr ⟨a, b, c, rfl⟩

/-- A rule that every change keeps and every reset establishes, every step keeps, when it reads no queue of commands. -/
theorem step_keeps_of_changes {P : State → Prop} (hpending : ∀ s p, P s → P { s with pending := p })
    (hchange : ∀ s t, Change s t → P s → P t) (hreset : ∀ a b c s, P (hardReset a b c s)) {s t : State}
    (h : step s = .next t) (hs : P s) : P t := by
  refine step_keeps hpending (fun u v hrun hu => ?_) h hs
  rcases hrun.changes with h | ⟨a, b, c, rfl⟩
  · exact h.keeps hchange hu
  · exact hreset a b c u

end Sys2Proof.Machine
end

section
/-!
PROOFS. Steps and resets: the front command runs, and what a hard reset leaves (R3, R20, R176).
-/

namespace Sys2Proof.Machine

/-- Settles O1: the definition of a step, case by case of the queue. -/
theorem stepRunsFrontCommand : Obligations.StepRunsFrontCommand := by
  refine ⟨fun c rest s h => ?_, fun s h => ?_⟩
  · simp [step, h]
  · simp [step, h]

theorem strapAddress_mem (v : Byte) : 1 ≤ (strapAddress v).toNat ∧ (strapAddress v).toNat ≤ 254 := by
  unfold strapAddress
  split
  · decide
  next h =>
    have := v.isLt
    have h0 : v.toNat ≠ 0 := fun e => h (.inl (BitVec.eq_of_toNat_eq e))
    have h1 : v.toNat ≠ 255 := fun e => h (.inr (BitVec.eq_of_toNat_eq e))
    omega

theorem commissioningAddress_mem (own caddr : Byte) :
    1 ≤ (commissioningAddress own caddr).toNat ∧ (commissioningAddress own caddr).toNat ≤ 254 ∧
      own ≠ commissioningAddress own caddr := by
  have hmem := strapAddress_mem caddr
  unfold commissioningAddress
  split_ifs with h1 h2
  · exact ⟨by decide, by decide, by rw [h2]; decide⟩
  · exact ⟨by decide, by decide, h2⟩
  · exact ⟨hmem.1, hmem.2, fun e => h1 e.symm⟩

theorem addressOf_setWidth (v : Byte) : addressOf (v.setWidth 16) = v := by
  unfold addressOf
  bv_omega

/-- The state a reset leaves: every block at its hard-reset value, and the RESET-DONE notice on RING-OUT (R176). -/
def State.afterReset (own com : Byte) (hold : Bool) (s : State) : State :=
  { State.hardResetValues own com hold with
    ring := ⟨own, com, [], .report (sealFrame own ⟨com, kindNotice, 1#8, [0x0700#16, 1#16, 0#16]⟩), 0, 0, 0⟩
    post := ⟨1#8, []⟩
    orders := s.orders
    pending := s.pending }

/-- The notice of a reset leaves at once: RING-OUT is IDLE and nothing waits before it (R16, R176). -/
theorem hardReset_eq (saddr caddr : Byte) (hold : Bool) (s : State) :
    hardReset saddr caddr hold s =
      State.afterReset (strapAddress saddr) (commissioningAddress (strapAddress saddr) caddr) hold s := by
  have hcom : commissioningAddress (strapAddress saddr) caddr ≠ 0#8 := fun e => by
    have := (commissioningAddress_mem (strapAddress saddr) caddr).1
    rw [e] at this
    exact absurd this (by decide)
  have hdest : noticeDest (controlReset (commissioningAddress (strapAddress saddr) caddr)) =
      commissioningAddress (strapAddress saddr) caddr := addressOf_setWidth _
  have hpayload : resetDonePayload false true 0 = [0x0700#16, 1#16, 0#16] := by decide
  unfold hardReset
  dsimp only
  rw [hpayload]
  generalize commissioningAddress (strapAddress saddr) caddr = com at *
  unfold offerNotice
  rw [if_neg (by simpa [State.hardResetValues, storeReset, hdest] using hcom)]
  rfl

/-- The addresses a reset samples are station addresses and differ (R3). -/
theorem hardReset_afterReset (saddr caddr : Byte) (hold : Bool) (s : State) :
    ∃ own com, hardReset saddr caddr hold s = State.afterReset own com hold s ∧ 1 ≤ own.toNat ∧ own.toNat ≤ 254 ∧
      1 ≤ com.toNat ∧ com.toNat ≤ 254 ∧ own ≠ com :=
  ⟨_, _, hardReset_eq saddr caddr hold s, (strapAddress_mem saddr).1, (strapAddress_mem saddr).2,
    commissioningAddress_mem _ _⟩

theorem exec_hardReset (saddr caddr : Byte) (hold : Bool) (s : State) :
    exec (.hardReset saddr caddr hold) s = .next (hardReset saddr caddr hold s) := rfl

/-! ### The values of a reset -/

section values

variable (own com : Byte) (hold : Bool)

@[simp] theorem gate_hardResetValues (g : GateNo) : (State.hardResetValues own com hold).gate g = Gate.reset := by
  simp [State.gate, State.hardResetValues]

@[simp] theorem hoist_hardResetValues (h : HoistNo) : (State.hardResetValues own com hold).hoist h = Hoist.reset := by
  simp [State.hoist, State.hardResetValues]

@[simp] theorem record_hardResetValues (g : GateNo) :
    (State.hardResetValues own com hold).record g = Vector.replicate 12 0#16 := by
  simp [State.record, State.hardResetValues, storeReset]

@[simp] theorem driveOf_hardResetValues (h : HoistNo) : (State.hardResetValues own com hold).driveOf h = 0#8 := by
  simp only [State.driveOf, State.hardResetValues, storeReset, Vector.getElem_replicate]
  rfl

@[simp] theorem schedule_hardResetValues (n : ScheduleNo) :
    (State.hardResetValues own com hold).schedule n = ⟨ScheduleImage.reset, ScheduleImage.reset⟩ := by
  simp [State.schedule, State.hardResetValues, storeReset]

@[simp] theorem channel_hardResetValues (c : ChannelName) :
    (State.hardResetValues own com hold).levels.channel c = Channel.reset := by
  cases c <;> rfl

@[simp] theorem side_hardResetValues (n : SideName) : (State.hardResetValues own com hold).levels.side n = Side.reset := by
  cases n <;> rfl

theorem rotation_controlReset (com : Byte) : rotation (controlReset com) = 2 :=
  (by decide : field 0b010010#16 0 2 = 2)

theorem retryLimit_controlReset (com : Byte) : retryLimit (controlReset com) = 4 := by
  have h : field (controlReset com)[9] 4 2 = 1 := (by decide : field 0b010010#16 4 2 = 1)
  simp [retryLimit, h]

theorem ageLimit_controlReset (com : Byte) (c : ChannelName) : ageLimit (controlReset com) c = 5000 := by
  have h : (5#16).toNat * 1000 = 5000 := by decide
  cases c <;> exact h

theorem stopTimeout_controlReset (com : Byte) : stopTimeout (controlReset com) = 10000 :=
  (by decide : (10#16).toNat * 1000 = 10000)

theorem drainLimit_controlReset (com : Byte) : drainLimit (controlReset com) = 30000 :=
  (by decide : (30#16).toNat * 1000 = 30000)

/-- No quantity can pass its thresholds, and every latch is LIVE (R143). -/
theorem thresholds_reset (c : ThresholdClass) :
    threshold thresholdsReset c 0 = 32767 ∧ threshold thresholdsReset c 1 = 32767 ∧
      threshold thresholdsReset c 2 = -32768 ∧ threshold thresholdsReset c 3 = -32768 ∧
      alarmLatched thresholdsReset c = false ∧ warningLatched thresholdsReset c = false := by
  cases c <;> decide

theorem rowAt_stationsReset {com : Byte} (h1 : 1 ≤ com.toNat) (h2 : com.toNat ≤ 254) (r : Nat) :
    rowAt (stationsReset com) r = if r = com.toNat - 1 then 3#16 else 0#16 := by
  unfold rowAt stationsReset
  split_ifs with hr he he
  · simp only [he, Vector.getElem_setIfInBounds]
    simp
  · simp only [Vector.getElem_setIfInBounds]
    rw [if_neg fun e => he e.symm]
    simp
  · omega
  · rfl

/-- The commissioning address is the one ENGINEER, and no other station is heard (R177). -/
theorem classOf_hardResetValues {com : Byte} (h1 : 1 ≤ com.toNat) (h2 : com.toNat ≤ 254) (a : Byte) :
    (State.hardResetValues own com hold).classOf a = if a = com then .engineer else .unheard := by
  have hstations : (State.hardResetValues own com hold).store.stations = stationsReset com := rfl
  unfold State.classOf
  rw [hstations, rowAt_stationsReset h1 h2]
  by_cases h0 : a = 0#8
  · rw [if_pos h0, if_neg]
    rintro rfl
    rw [h0] at h1
    exact absurd h1 (by decide)
  · rw [if_neg h0]
    have ha : a.toNat ≠ 0 := fun e => h0 (BitVec.eq_of_toNat_eq e)
    by_cases he : a = com
    · rw [if_pos he, if_pos (by rw [he])]
      rfl
    · rw [if_neg he, if_neg fun e => he (BitVec.eq_of_toNat_eq (by omega))]
      rfl

end values

/-- Settles O2: a reset is computed as far as the notice, and every block is read off the values it is given. -/
theorem hardResetGivesResetState : Obligations.HardResetGivesResetState := by
  refine ⟨fun saddr caddr hold s => ?_, fun saddr caddr hold s t h => ?_⟩
  · rw [exec_hardReset, hardReset_eq]
    rfl
  · obtain ⟨own, com, heq, _, _, h1, h2, _⟩ := hardReset_afterReset saddr caddr hold s
    obtain rfl : t = State.afterReset own com hold s :=
      (Host.Outcome.next.inj ((exec_hardReset saddr caddr hold s).symm.trans h)).symm.trans heq
    have hgate := gate_hardResetValues own com hold
    have hhoist := hoist_hardResetValues own com hold
    refine ⟨fun g => ?_, fun k => ?_, channel_hardResetValues own com hold, side_hardResetValues own com hold, ?_⟩
    · have hreset : Gate.reset = _ := (hgate g).symm
      exact hreset ▸ (by simp [Gate.reset, SaveRecord.reset])
    · have hreset : Hoist.reset = _ := (hhoist k).symm
      exact hreset ▸ (by simp [Hoist.reset, Quad.clear])
    · refine ⟨rfl, rfl, rfl, rfl, rfl, rfl, rfl, rfl, rfl, rfl, rfl, fun n => ?_, record_hardResetValues own com hold,
        driveOf_hardResetValues own com hold, classOf_hardResetValues own hold h1 h2, fun c => ?_, rfl,
        addressOf_setWidth com, fun c => ?_, ageLimit_controlReset com, rfl, (by decide : (0b1001#16).getLsbD 0 = true),
        (by decide : (0b1001#16).getLsbD 1 = false), (by decide : (0b1001#16).getLsbD 2 = false),
        (by decide : (0b1001#16).getLsbD 3 = true), rotation_controlReset com,
        retryLimit_controlReset com, rfl, rfl, stopTimeout_controlReset com, drainLimit_controlReset com,
        fun c k hk => ?_⟩
      · have hschedule : (⟨ScheduleImage.reset, ScheduleImage.reset⟩ : Schedule) = _ :=
          (schedule_hardResetValues own com hold n).symm
        exact hschedule ▸ ⟨rfl, rfl⟩
      · exact thresholds_reset c
      · cases c <;> rfl
      · exact BitVec.getLsbD_zero

/-! ### A reset meets every rule -/

section rules

variable {own com : Byte} (hold : Bool) (s : State)

theorem gate_afterReset (g : GateNo) : (State.afterReset own com hold s).gate g = Gate.reset :=
  gate_hardResetValues own com hold g

theorem hoist_afterReset (h : HoistNo) : (State.afterReset own com hold s).hoist h = Hoist.reset :=
  hoist_hardResetValues own com hold h

theorem slotRule_afterReset : (State.afterReset own com hold s).slotRule := by
  refine ⟨List.nodup_nil, fun h => ?_, fun h sl hsl => ?_⟩
  · rw [hoist_afterReset]
    exact ⟨nofun, nofun⟩
  · rw [hoist_afterReset] at hsl
    cases hsl

theorem lawful_afterReset : (State.afterReset own com hold s).levels.Lawful := by
  change LevelUnit.Lawful ⟨Channel.reset, Channel.reset, Channel.reset, Channel.reset, Side.reset, Side.reset, 0⟩
  refine ⟨⟨fun c => ?_, fun n => ?_, by decide, by decide⟩, fun c => ?_, fun n => ?_⟩
  · cases c <;> decide
  · cases n <;> decide
  · cases c <;> rfl
  · cases n <;> rfl

theorem serviceRule_afterReset : (State.afterReset own com hold s).serviceRule := by
  refine ⟨fun g h => ?_, fun g h => ?_⟩
  · rw [show (State.afterReset own com hold s).record g = _ from record_hardResetValues own com hold g] at h
    cases h
  · rw [gate_afterReset] at h
    exact absurd rfl h

theorem engineerRule_afterReset (h1 : 1 ≤ com.toNat) (h2 : com.toNat ≤ 254) :
    (State.afterReset own com hold s).engineerRule := by
  have hrow := rowAt_stationsReset h1 h2 (com.toNat - 1)
  rw [if_pos rfl] at hrow
  unfold rowAt at hrow
  split at hrow
  next hlt =>
    have hmem : (stationsReset com)[com.toNat - 1] ∈ stationsReset com := Vector.getElem_mem _
    rw [hrow] at hmem
    exact Vector.mem_toList_iff.mpr hmem
  next => exact absurd hrow (by decide)

theorem imageRule_afterReset : (State.afterReset own com hold s).imageRule := by
  refine ⟨Nat.zero_le _, Nat.zero_le _, rfl, fun n => ?_⟩
  rw [show (State.afterReset own com hold s).schedule n = _ from schedule_hardResetValues own com hold n]
  exact ⟨.inl rfl, .inl rfl⟩

/-- No group of the fault mask is enabled (R184). -/
theorem settled_afterReset : (State.afterReset own com hold s).Settled := by
  have hgroups (c : ThresholdClass) (k : Nat) :
      groupEnabled (State.afterReset own com hold s).store.control c k = false := BitVec.getLsbD_zero
  have hfurther : (State.afterReset own com hold s).store.control[15] = 0#16 := rfl
  refine ⟨rfl, ?_⟩
  unfold State.faultDemanded
  simp only [hgroups, hfurther, BitVec.getLsbD_zero, Bool.false_and]
  rfl

theorem sound_afterReset (h1 : 1 ≤ own.toNat) (h2 : own.toNat ≤ 254) (h3 : 1 ≤ com.toNat) (h4 : com.toNat ≤ 254)
    (hne : own ≠ com) : (State.afterReset own com hold s).Sound where
  addresses := ⟨h1, h2, h3, h4, hne⟩
  capacities := ⟨Nat.zero_le _, Nat.zero_le _, Nat.zero_le _, Nat.zero_le _, Nat.zero_le _, Nat.zero_le _, Nat.zero_le _, nofun⟩
  reservation := rfl
  settled := settled_afterReset hold s
  lockoutLine := rfl
  rest := fun g h => by rw [gate_afterReset] at h; cases h
  off := fun g => by rw [gate_afterReset]; exact fun _ => ⟨rfl, rfl, rfl, rfl⟩
  queues := fun g => by rw [gate_afterReset]; rfl
  motion := fun g => by rw [gate_afterReset]; exact ⟨rfl, rfl, nofun, nofun, rfl⟩
  saves := fun g => by rw [gate_afterReset]; exact ⟨rfl, nofun⟩
  slots := slotRule_afterReset hold s
  levels := (lawful_afterReset hold s).1
  sides := (lawful_afterReset hold s).2
  hoists := fun h => by rw [hoist_afterReset]; decide
  service := serviceRule_afterReset hold s
  windows := fun g c h => by rw [gate_afterReset] at h; cases h
  setpoints := fun h => by
    rw [hoist_afterReset]
    exact ⟨nofun, nofun⟩
  lockoutStops := nofun
  engineer := engineerRule_afterReset hold s h3 h4
  images := imageRule_afterReset hold s

end rules

theorem hardReset_sound (saddr caddr : Byte) (hold : Bool) (s : State) : (hardReset saddr caddr hold s).Sound := by
  obtain ⟨own, com, heq, h1, h2, h3, h4, hne⟩ := hardReset_afterReset saddr caddr hold s
  rw [heq]
  exact sound_afterReset hold s h1 h2 h3 h4 hne

/-- Settles O3: the reset state is the state a reset of it leaves, and every reset meets the rules. -/
theorem resetIsSound : Obligations.ResetIsSound := by
  have hframe : sealFrame 37#8 ⟨12#8, kindNotice, 1#8, [0x0700#16, 1#16, 0#16]⟩ = resetDoneFrame := by
    decide +kernel
  have hreset : hardReset 37#8 12#8 false State.reset = State.reset := by
    rw [hardReset_eq]
    unfold State.afterReset
    rw [show strapAddress 37#8 = 37#8 by decide, show commissioningAddress 37#8 12#8 = 12#8 by decide, hframe]
    rfl
  refine ⟨?_, ?_⟩
  · rw [exec_hardReset, hreset]
  · rw [← hreset]
    exact hardReset_sound _ _ _ _

end Sys2Proof.Machine
end

section
/-!
PROOFS. The rules that read one block: the LOCKOUT line, the levels, the addresses, the hoist records, the tables and the
images.
-/

namespace Sys2Proof.Machine

/-! ### What the single changes leave alone -/

theorem foldl_onHoist_unless (p : HoistNo → Prop) [DecidablePred p] (φ : Hoist → Hoist) (hs : List HoistNo)
    (hnodup : hs.Nodup) (s : State) :
    hs.foldl (fun acc h => if p h then acc else acc.onHoist h φ) s =
      { s with hoists := Vector.ofFn (fun i => if i ∈ hs ∧ ¬p i then φ (s.hoist i) else s.hoist i) } := by
  have hfilter (s : State) : hs.foldl (fun acc h => if p h then acc else acc.onHoist h φ) s =
      (hs.filter (fun h => ¬p h)).foldl (fun acc h => acc.onHoist h φ) s := by
    induction hs generalizing s with
    | nil => rfl
    | cons k hs ih =>
      have ih := ih (List.nodup_cons.mp hnodup).2
      by_cases hp : p k <;> simp [hp, ih]
  rw [hfilter, foldl_onHoist φ _ (hnodup.filter _)]
  simp

/-- A taken write of the Hoist Map, with the hoists it remaps (R86). -/
theorem writeHoistMap_eq (o : WriteRows) (s : State) :
    writeHoistMap o s =
      let map := storeRows s.store.hoistMap o.start o.values
      { s with
        store := { s.store with hoistMap := map }
        hoists := Vector.ofFn (fun h : HoistNo =>
          if addressOf map[h.val] = s.driveOf h then s.hoist h else (s.hoist h).remapped) } := by
  unfold writeHoistMap
  dsimp only
  rw [foldl_onHoist_unless _ _ _ allHoists_nodup]
  simp only [mem_allHoists, true_and, ite_not]
  rfl

/-- What a write to any table but the Control Record changes: the tables, and the validity and last-posted setpoint of
hoists. -/
structure StoreOnly (s t : State) : Prop where
  ring : t.ring = s.ring
  pass : t.pass = s.pass
  levels : t.levels = s.levels
  gates : t.gates = s.gates
  post : t.post = s.post
  sup : t.sup = s.sup
  req : t.req = s.req
  hoists : ∀ h, t.hoist h = { s.hoist h with valid := (t.hoist h).valid, lastPosted := (t.hoist h).lastPosted }

theorem StoreOnly.onStore (s : State) (φ : TableStore → TableStore) : StoreOnly s (s.onStore φ) :=
  ⟨rfl, rfl, rfl, rfl, rfl, rfl, rfl, fun _ => rfl⟩

theorem writeTable_storeOnly {o : WriteRows} (s : State) (htable : o.table ≠ .control) : StoreOnly s (writeTable o s) := by
  unfold writeTable
  cases h : o.table with
  | control => exact absurd h htable
  | hoistMap =>
    dsimp only
    rw [writeHoistMap_eq]
    refine ⟨rfl, rfl, rfl, rfl, rfl, rfl, rfl, fun h => ?_⟩
    simp only [State.hoist, Vector.getElem_ofFn]
    split_ifs <;> rfl
  | gate g =>
    dsimp only
    unfold writeGateRecord
    exact .onStore s _
  | access =>
    dsimp only
    unfold writeAccess
    exact .onStore s _
  | stations => exact .onStore s _
  | pass => exact .onStore s _
  | thresholds => exact .onStore s _
  | header n => exact .onStore s _
  | rows n => exact .onStore s _

theorem setLength_storeOnly (i : ImageName) (n : Nat) (s : State) : StoreOnly s (setLength i n s) := by
  unfold setLength State.onSchedule
  cases i <;> exact .onStore s _

/-- An activation changes the tables and the hit counts (R34, R62). -/
theorem activateImage_fields (i : ImageName) (s : State) :
    activateImage i s = { s with store := (activateImage i s).store, pass := (activateImage i s).pass } := by
  cases i <;> rfl

/-- The Supervisor is changed by its own change alone. -/
theorem Change.sup_of {s t : State} (h : Change s t) :
    t.sup = s.sup ∨ (s.lockoutRule → t.sup.lockoutLine = decide (t.sup.device = .lockout)) := by
  cases h with
  | grantTransit n => exact .inl (grantTransit_traffic n s).sup
  | grantOwn => exact .inl (grantOwn_traffic s).sup
  | start => exact .inl (startExecution_traffic s).sup
  | order n => exact .inl (chooseOrder_sup n s)
  | write o table => exact .inl (writeTable_storeOnly s table).sup
  | length i n => exact .inl (setLength_storeOnly i n s).sup
  | activate i => exact .inl (by rw [activateImage_fields])
  | sup φ line => exact .inr line
  | _ => exact .inl rfl

/-- Settles O4: the one change of the Supervisor moves the line with the device state. -/
theorem lockoutLineKept : Obligations.LockoutLineKept := fun s t hs hstep =>
  step_keeps_of_changes (P := State.lockoutRule) (fun _ _ h => h)
    (fun u v hchange hu => by
      rcases hchange.sup_of with h | h
      · unfold State.lockoutRule
        rw [h]
        exact hu
      · exact h hu)
    (fun a b c u => (hardReset_sound a b c u).lockoutLine) hstep hs

/-! ### Levels (O9) -/

theorem Change.levels_of {s t : State} (h : Change s t) : t.levels = s.levels ∨ (s.levels.Lawful → t.levels.Lawful) := by
  cases h with
  | grantTransit n => exact .inl (grantTransit_traffic n s).levels
  | grantOwn => exact .inl (grantOwn_traffic s).levels
  | start => exact .inl (startExecution_traffic s).levels
  | order n => exact .inl (chooseOrder_surroundings n s).levels
  | write o table => exact .inl (writeTable_storeOnly s table).levels
  | length i n => exact .inl (setLength_storeOnly i n s).levels
  | activate i => exact .inl (by rw [activateImage_fields])
  | levels φ lawful => exact .inr lawful
  | _ => exact .inl rfl

/-- Settles O9: every change of the Level Unit is lawful. -/
theorem levelsKept : Obligations.LevelsKept := fun s t hs hstep =>
  step_keeps_of_changes (P := fun u => u.levels.Lawful) (fun _ _ h => h)
    (fun u v hchange hu => by
      rcases hchange.levels_of with h | h
      · rw [h]
        exact hu
      · exact h hu)
    (fun a b c u => ⟨(hardReset_sound a b c u).levels, (hardReset_sound a b c u).sides⟩) hstep hs

/-! ### Ranges (O12) -/

theorem Change.addresses {s t : State} (h : Change s t) :
    t.ring.own = s.ring.own ∧ t.ring.commissioning = s.ring.commissioning := by
  cases h with
  | grantTransit n => exact ⟨(grantTransit_traffic n s).own, (grantTransit_traffic n s).commissioning⟩
  | grantOwn => exact ⟨(grantOwn_traffic s).own, (grantOwn_traffic s).commissioning⟩
  | start => exact ⟨(startExecution_traffic s).own, (startExecution_traffic s).commissioning⟩
  | order n => exact ⟨(chooseOrder_surroundings n s).own, (chooseOrder_surroundings n s).commissioning⟩
  | write o table => rw [(writeTable_storeOnly s table).ring]; exact ⟨rfl, rfl⟩
  | length i n => rw [(setLength_storeOnly i n s).ring]; exact ⟨rfl, rfl⟩
  | activate i => rw [activateImage_fields]; exact ⟨rfl, rfl⟩
  | _ => exact ⟨rfl, rfl⟩

theorem addressesKept : Sys2Proof.Claim.AddressesKept := fun s t hs hstep =>
  step_keeps_of_changes (P := State.addressRule) (fun _ _ h => h)
    (fun u v hchange hu => by
      unfold State.addressRule
      rw [hchange.addresses.1, hchange.addresses.2]
      exact hu)
    (fun a b c u => (hardReset_sound a b c u).addresses) hstep hs

/-- The record of hoist `x` is in range (R125). -/
def Hoist.InRange (x : Hoist) : Prop := 0 ≤ x.position ∧ x.position ≤ 16000 ∧ -4000 ≤ x.load ∧ x.load ≤ 4000

/-- The position and the load of a hoist stay as they are, or are a status's, clamped (R126). -/
theorem Change.hoist_figures {s t : State} (h : Change s t) (k : HoistNo) :
    ((t.hoist k).position = (s.hoist k).position ∧ (t.hoist k).load = (s.hoist k).load) ∨ (t.hoist k).InRange := by
  have hon (u : State) (j : HoistNo) (φ : Hoist → Hoist) (hφ : ∀ x, (φ x).position = x.position ∧ (φ x).load = x.load) :
      ((u.onHoist j φ).hoist k).position = (u.hoist k).position ∧ ((u.onHoist j φ).hoist k).load = (u.hoist k).load := by
    rw [State.hoist_onHoist]
    split
    next e => rw [e]; exact hφ _
    next => exact ⟨rfl, rfl⟩
  cases h with
  | grantTransit n =>
    exact .inl ⟨(grantTransit_traffic n s).surroundings.position k, (grantTransit_traffic n s).surroundings.load k⟩
  | grantOwn => exact .inl ⟨(grantOwn_traffic s).surroundings.position k, (grantOwn_traffic s).surroundings.load k⟩
  | start => exact .inl ⟨(startExecution_traffic s).surroundings.position k, (startExecution_traffic s).surroundings.load k⟩
  | order n => exact .inl ⟨(chooseOrder_surroundings n s).position k, (chooseOrder_surroundings n s).load k⟩
  | write o table =>
    rw [(writeTable_storeOnly s table).hoists k]
    exact .inl ⟨rfl, rfl⟩
  | length i n =>
    rw [(setLength_storeOnly i n s).hoists k]
    exact .inl ⟨rfl, rfl⟩
  | activate i => rw [activateImage_fields]; exact .inl ⟨rfl, rfl⟩
  | occupyMerged h sp tag => exact .inl (hon s h _ fun _ => ⟨rfl, rfl⟩)
  | occupyJoined h sp tag => exact .inl (hon _ h _ fun _ => ⟨rfl, rfl⟩)
  | empty h => exact .inl (hon s h (fun x => { x with slot := none }) fun _ => ⟨rfl, rfl⟩)
  | rejoin h sl n =>
    exact .inl (hon s h (fun x => { x with slot := some { sl with tries := n, phase := .waiting, ackTimer := none } })
      fun _ => ⟨rfl, rfl⟩)
  | sent h sl => exact .inl (hon s h _ fun _ => ⟨rfl, rfl⟩)
  | hoist h φ hφ => exact .inl (hon s h φ fun x => by rw [hφ x]; exact ⟨rfl, rfl⟩)
  | silence => exact .inl (by simp [State.silenced, State.hoist, Hoist.drained])
  | status h d =>
    unfold applyStatus
    rw [State.hoist_onHoist]
    split
    · have hp := clamp_mem (show (0 : Int) ≤ 16000 by decide) d.position
      have hl := clamp_mem (show (-4000 : Int) ≤ 4000 by decide) d.load
      exact .inr ⟨hp.1, hp.2, hl.1, hl.2⟩
    · exact .inl ⟨rfl, rfl⟩
  | _ => exact .inl ⟨rfl, rfl⟩

theorem hoistRecordsKept : Sys2Proof.Claim.HoistRecordsKept := fun s t hs hstep =>
  step_keeps_of_changes (P := State.hoistRule) (fun _ _ h => h)
    (fun u v hchange hu k => by
      rcases hchange.hoist_figures k with ⟨hp, hl⟩ | h
      · rw [hp, hl]
        exact hu k
      · exact h)
    (fun a b c u => (hardReset_sound a b c u).hoists) hstep hs

/-! ### Rows (R182) -/

/-- Row `r` after a write of consecutive rows (R182). -/
theorem rowAt_storeRows {n : Nat} (v : Vector Word n) (start : Nat) (ws : List Word) (r : Nat) :
    rowAt (storeRows v start ws) r =
      if start ≤ r ∧ r < start + ws.length ∧ r < n then ws.getD (r - start) 0#16 else rowAt v r := by
  induction ws generalizing v start with
  | nil =>
    rw [if_neg (by simp only [List.length_nil]; omega)]
    rfl
  | cons w ws ih =>
    have hset : rowAt (v.setIfInBounds start w) r = if r = start ∧ r < n then w else rowAt v r := by
      unfold rowAt
      split_ifs with h1 h2 h2
      · simp [h2.1]
      · rw [Vector.getElem_setIfInBounds_ne]
        exact fun e => h2 ⟨e.symm, h1⟩
      · exact absurd h2.2 h1
      · rfl
    unfold storeRows
    rw [ih, hset, List.length_cons]
    by_cases hr : r = start
    · subst hr
      by_cases hn : r < n
      · simp [hn]
      · simp [hn]
    · simp only [hr, false_and, if_false]
      by_cases hlt : start + 1 ≤ r ∧ r < start + 1 + ws.length ∧ r < n
      · rw [if_pos hlt, if_pos (by omega), show r - start = (r - (start + 1)) + 1 by omega, List.getD_cons_succ]
      · rw [if_neg hlt, if_neg (by omega)]

theorem rowAt_getElem {n : Nat} (v : Vector Word n) {r : Nat} (h : r < n) : rowAt v r = v[r] := by
  simp [rowAt, h]

theorem schedule_onSchedule (s : State) (n : ScheduleNo) (φ : Schedule → Schedule) (k : ScheduleNo) :
    (s.onSchedule n φ).schedule k = if k = n then φ (s.schedule n) else s.schedule k := by
  simp only [State.onSchedule, State.schedule, State.onStore]
  split_ifs with h
  · simp [h]
  · rw [Vector.getElem_set_ne]
    exact fun e => h (Fin.ext e.symm)

/-- A check of every value written speaks of every row covered. -/
theorem each_iff (o : WriteRows) (check : Nat → Word → Bool) :
    o.each check = true ↔ ∀ k, k < o.values.length → check (o.start + k) (o.values.getD k 0#16) = true := by
  simp [WriteRows.each]

/-! ### Tables and images (O12) -/

/-- What a taken write's table has been checked for, and that it lies within its table (R182). -/
theorem writeCheck_done {o : WriteRows} {s : State} (h : writeCheck o s = .done) :
    o.start + o.values.length ≤ o.table.capacity ∧
      match o.table with
      | .control => controlInRange s.ring.own (storeRows s.store.control o.start o.values) = true
      | .access => o.each accessInRange = true
      | .stations => stationsInRange (storeRows s.store.stations o.start o.values) = true
      | .hoistMap => s.hoistsOff o = true ∧ o.each (fun _ w => addressAllowed s.ring.own w) = true
      | .pass => True
      | .thresholds => o.each thresholdRowInRange = true
      | .gate g => o.covers 10 = false ∧ o.covers 11 = false ∧ (s.gate g).recordWritable = true ∧
          recordInRange (storeRows (s.record g) o.start o.values) = true
      | .header _ => o.each headerInRange = true
      | .rows _ => o.each (fun _ w => decide (w.toNat ≤ 12000)) = true := by
  unfold writeCheck at h
  split at h
  · cases h
  next hcap =>
    refine ⟨by omega, ?_⟩
    dsimp only at h
    cases ht : o.table with
    | pass => trivial
    | hoistMap =>
      simp only [ht] at h
      split_ifs at h with hoff heach
      exact ⟨hoff, heach⟩
    | gate g =>
      simp only [ht] at h
      split_ifs at h with hcovers hwritable hrange
      simp only [Bool.or_eq_true, not_or, Bool.not_eq_true] at hcovers
      exact ⟨hcovers.1, hcovers.2, by simpa using hwritable, hrange⟩
    | _ =>
      simp only [ht] at h
      split_ifs at h with hok
      exact hok

theorem header_zero_kept {o : WriteRows} (h : o.each headerInRange = true) (v : Vector Word 6) :
    (storeRows v o.start o.values)[0] = v[0] := by
  rw [← rowAt_getElem _ (by decide), ← rowAt_getElem _ (by decide), rowAt_storeRows, if_neg]
  rintro ⟨h0, hlen, _⟩
  have hcheck := (each_iff o headerInRange).mp h 0 (by omega)
  rw [show o.start + 0 = 0 by omega] at hcheck
  simp [headerInRange] at hcheck

/-- Both images of a schedule have lengths that R57 allows. -/
def Schedule.Fits (x : Schedule) : Prop :=
  (scheduleLength x.pending = 0 ∨ (2 ≤ scheduleLength x.pending ∧ scheduleLength x.pending ≤ 64)) ∧
    (scheduleLength x.active = 0 ∨ (2 ≤ scheduleLength x.active ∧ scheduleLength x.active ≤ 64))

theorem fits_onSchedule {s : State} {n : ScheduleNo} {φ : Schedule → Schedule} (hs : ∀ k, (s.schedule k).Fits)
    (hφ : (s.schedule n).Fits → (φ (s.schedule n)).Fits) (k : ScheduleNo) : ((s.onSchedule n φ).schedule k).Fits := by
  rw [schedule_onSchedule]
  split
  · exact hφ (hs n)
  · exact hs k

theorem engineer_of_stationsInRange {t : Vector Word 254} (h : stationsInRange t = true) : 3#16 ∈ t.toList := by
  simp only [stationsInRange, Bool.and_eq_true, List.any_eq_true, decide_eq_true_eq] at h
  obtain ⟨_, w, hw, rfl⟩ := h
  exact hw

theorem imageRule_iff (s : State) :
    s.imageRule ↔ s.store.passPending.length ≤ 32 ∧ s.store.passActive.length ≤ 32 ∧
      s.pass.hits.length = s.store.passActive.length ∧ ∀ n, (s.schedule n).Fits := Iff.rfl

theorem tables_of_write {o : WriteRows} {s : State} (htable : o.table ≠ .control) (hcheck : writeCheck o s = .done)
    (hs : s.engineerRule ∧ s.imageRule) : (writeTable o s).engineerRule ∧ (writeTable o s).imageRule := by
  obtain ⟨heng, himg⟩ := hs
  obtain ⟨hp, ha, hh, hsch⟩ := (imageRule_iff s).mp himg
  have hdone := (writeCheck_done hcheck).2
  have hquiet {t : State} (hstations : t.store.stations = s.store.stations)
      (hpending : t.store.passPending.length = s.store.passPending.length)
      (hactive : t.store.passActive = s.store.passActive) (hhits : t.pass = s.pass) (hfits : ∀ k, (t.schedule k).Fits) :
      t.engineerRule ∧ t.imageRule := by
    refine ⟨?_, (imageRule_iff t).mpr ⟨by rw [hpending]; exact hp, by rw [hactive]; exact ha, ?_, hfits⟩⟩
    · unfold State.engineerRule
      rw [hstations]
      exact heng
    · rw [hhits, hactive]
      exact hh
  unfold writeTable
  cases h : o.table with
  | control => exact absurd h htable
  | stations =>
    rw [h] at hdone
    exact ⟨engineer_of_stationsInRange hdone, himg⟩
  | hoistMap =>
    dsimp only
    rw [writeHoistMap_eq]
    exact hquiet rfl rfl rfl rfl hsch
  | header n =>
    rw [h] at hdone
    refine hquiet rfl rfl rfl rfl fun k => fits_onSchedule hsch (fun hn => ?_) k
    simpa only [Schedule.Fits, scheduleLength, header_zero_kept hdone] using hn
  | rows n => exact hquiet rfl rfl rfl rfl fun k => fits_onSchedule hsch id k
  | gate g => exact hquiet rfl rfl rfl rfl hsch
  | access => exact hquiet rfl rfl rfl rfl hsch
  | pass => exact hquiet rfl rfl rfl rfl hsch
  | thresholds => exact hquiet rfl rfl rfl rfl hsch

theorem tables_of_length {i : ImageName} {n : Nat} {s : State} (hcheck : lengthCheck i n = .done)
    (hs : s.engineerRule ∧ s.imageRule) : (setLength i n s).engineerRule ∧ (setLength i n s).imageRule := by
  obtain ⟨heng, himg⟩ := hs
  obtain ⟨hp, ha, hh, hsch⟩ := (imageRule_iff s).mp himg
  cases i with
  | pass =>
    have hn : n ≤ 32 := by
      by_contra hn
      simp [lengthCheck, hn] at hcheck
    exact ⟨heng, hn, ha, hh, hsch⟩
  | schedule k =>
    have hn : 2 ≤ n ∧ n ≤ 64 := by
      by_contra hn
      simp only [lengthCheck, if_neg hn] at hcheck
      cases hcheck
    refine ⟨heng, hp, ha, hh, fun j => fits_onSchedule (φ := fun x =>
      { x with pending := { x.pending with header := x.pending.header.set 0 (BitVec.ofNat 16 n) } }) hsch (fun hk => ?_) j⟩
    refine ⟨.inr ?_, hk.2⟩
    simp only [scheduleLength, Vector.getElem_set_self, BitVec.toNat_ofNat]
    omega

theorem tables_of_activate {i : ImageName} {s : State} (hs : s.engineerRule ∧ s.imageRule) :
    (activateImage i s).engineerRule ∧ (activateImage i s).imageRule := by
  obtain ⟨heng, himg⟩ := hs
  obtain ⟨hp, ha, hh, hsch⟩ := (imageRule_iff s).mp himg
  cases i with
  | pass => exact ⟨heng, hp, hp, List.length_replicate, hsch⟩
  | schedule k =>
    exact ⟨heng, hp, ha, hh, fun j => fits_onSchedule (φ := fun x => { x with active := x.pending }) hsch
      (fun hk => ⟨hk.1, hk.1⟩) j⟩

theorem tablesKept : Sys2Proof.Claim.TablesKept := fun s t hs hstep =>
  step_keeps_of_changes (P := fun u => u.engineerRule ∧ u.imageRule) (fun _ _ h => h)
    (fun u v hchange hu => by
      have hsame (hstore : v.store = u.store) (hlen : v.pass.hits.length = u.pass.hits.length) :
          v.engineerRule ∧ v.imageRule := by
        simpa only [State.engineerRule, State.imageRule, State.schedule, hstore, hlen] using hu
      cases hchange with
      | grantTransit n =>
        exact hsame (grantTransit_traffic n u).store (by rw [(grantTransit_traffic n u).pass])
      | grantOwn => exact hsame (grantOwn_traffic u).store (by rw [(grantOwn_traffic u).pass])
      | start => exact hsame (startExecution_traffic u).store (by rw [(startExecution_traffic u).pass])
      | order n => exact hsame (chooseOrder_surroundings n u).store (by rw [(chooseOrder_surroundings n u).pass])
      | pass φ length => exact hsame rfl length
      | write o table check => exact tables_of_write table check hu
      | length i n check => exact tables_of_length check hu
      | activate i => exact tables_of_activate hu
      | control v => exact hu
      | _ => exact hsame rfl rfl)
    (fun a b c u => ⟨(hardReset_sound a b c u).engineer, (hardReset_sound a b c u).images⟩) hstep hs

/-- Settles O12: no change but a reset touches the addresses, a status is clamped, and every write is checked. -/
theorem rangesKept : Obligations.RangesKept := ⟨addressesKept, hoistRecordsKept, tablesKept⟩

end Sys2Proof.Machine
end

section
/-!
PROOFS. The FIFOs: their bounds, the one reservation of an execution, and the settled state that every command leaves.
-/

namespace Sys2Proof.Machine

/-! ### Bounds (R7, R13, R14, R17, R26, R179, R187) -/

theorem length_fillReservation (f : OwnFrame) (r : List ReportEntry) : (fillReservation f r).length = r.length := by
  induction r with
  | nil => rfl
  | cons e r ih => cases e <;> simp [fillReservation, ih]

theorem noticeCount_append (r q : List ReportEntry) : noticeCount (r ++ q) = noticeCount r + noticeCount q :=
  List.countP_append

theorem noticeCount_fillReservation (f : OwnFrame) (r : List ReportEntry) :
    noticeCount (fillReservation f r) = noticeCount r := by
  induction r with
  | nil => rfl
  | cons e r ih => cases e <;> simp_all [fillReservation, noticeCount]

theorem dropReservation_sublist (r : List ReportEntry) : (dropReservation r).Sublist r := by
  induction r with
  | nil => exact List.Sublist.refl _
  | cons e r ih =>
    cases e with
    | reserved => exact List.sublist_cons_self _ _
    | reply f => exact ih.cons_cons _
    | notice f => exact ih.cons_cons _

/-- The report FIFO within its bounds (R187). -/
def ReportFits (r : List ReportEntry) : Prop := r.length ≤ 16 ∧ noticeCount r ≤ 12

theorem ReportFits.of_sublist {r q : List ReportEntry} (hq : ReportFits q) (h : r.Sublist q) : ReportFits r :=
  ⟨h.length_le.trans hq.1, (List.Sublist.countP_le h).trans hq.2⟩

/-- The ring's part of the bounds (R7, R13, R14, R17). -/
def RingInterface.Fits (r : RingInterface) : Prop :=
  r.transit.length ≤ 8 ∧ r.consecutive ≤ 3 ∧ r.checkErrors ≤ 65535 ∧ r.transitLosses ≤ 65535

theorem capacityRule_iff (s : State) :
    s.capacityRule ↔ s.ring.Fits ∧ s.req.intake.length ≤ 4 ∧ ReportFits s.req.report ∧ ∀ n ∈ s.pass.hits, n ≤ 65535 := by
  simp only [State.capacityRule, RingInterface.Fits, ReportFits]
  tauto

theorem Change.ring_fits {s t : State} (h : Change s t) (hs : s.ring.Fits) : t.ring.Fits := by
  obtain ⟨htr, hc, he, hl⟩ := hs
  cases h with
  | grantTransit n count =>
    unfold Machine.grantTransit
    split
    next f rest hf => exact ⟨by rw [hf] at htr; exact Nat.le_of_succ_le htr, count, he, hl⟩
    next => exact ⟨htr, hc, he, hl⟩
  | grantOwn =>
    unfold Machine.grantOwn
    split
    · split
      · exact ⟨htr, Nat.zero_le _, he, hl⟩
      · exact ⟨htr, hc, he, hl⟩
    · split
      · exact ⟨htr, Nat.zero_le _, he, hl⟩
      · exact ⟨htr, hc, he, hl⟩
  | rotation => exact ⟨htr, Nat.zero_le _, he, hl⟩
  | start => unfold startExecution; split <;> exact ⟨htr, hc, he, hl⟩
  | order n => unfold chooseOrder; split <;> exact ⟨htr, hc, he, hl⟩
  | checkError => exact ⟨htr, hc, bump_le, hl⟩
  | loss => exact ⟨htr, hc, he, bump_le⟩
  | transit f room => exact ⟨by simp only [State.onRing, List.length_append, List.length_singleton]; omega, hc, he, hl⟩
  | write o table => rw [(writeTable_storeOnly s table).ring]; exact ⟨htr, hc, he, hl⟩
  | length i n => rw [(setLength_storeOnly i n s).ring]; exact ⟨htr, hc, he, hl⟩
  | activate i => rw [activateImage_fields]; exact ⟨htr, hc, he, hl⟩
  | _ => exact ⟨htr, hc, he, hl⟩

theorem Change.intake_fits {s t : State} (h : Change s t) (hs : s.req.intake.length ≤ 4) : t.req.intake.length ≤ 4 := by
  cases h with
  | grantTransit n => unfold Machine.grantTransit; split <;> exact hs
  | grantOwn =>
    unfold Machine.grantOwn
    split
    · split <;> exact hs
    · split <;> exact hs
  | start =>
    unfold startExecution
    split
    next f rest hf => rw [hf] at hs; exact Nat.le_of_succ_le hs
    next => exact hs
  | order n => unfold chooseOrder; split <;> exact hs
  | intake f room => simp only [State.onReq, List.length_append, List.length_singleton]; omega
  | write o table => rw [(writeTable_storeOnly s table).req]; exact hs
  | length i n => rw [(setLength_storeOnly i n s).req]; exact hs
  | activate i => rw [activateImage_fields]; exact hs
  | _ => exact hs

theorem mayExecute_iff (s : State) :
    s.mayExecute = true ↔ s.req.intake ≠ [] ∧ s.req.executing = none ∧ s.req.report.length < 16 := by
  simp [State.mayExecute, and_assoc]

theorem Change.report_fits {s t : State} (h : Change s t) (hs : ReportFits s.req.report) : ReportFits t.req.report := by
  cases h with
  | grantTransit n => rw [grantTransit_report]; exact hs
  | grantOwn =>
    unfold Machine.grantOwn
    split
    · split <;> exact hs
    · split
      · exact hs.of_sublist (List.tail_sublist _)
      · exact hs
  | reply f => exact ⟨(length_fillReservation f _).trans_le hs.1, (noticeCount_fillReservation f _).trans_le hs.2⟩
  | drop => exact hs.of_sublist (dropReservation_sublist _)
  | start may =>
    obtain ⟨_, _, hroom⟩ := (mayExecute_iff s).mp may
    unfold startExecution
    split
    · refine ⟨?_, ?_⟩
      · simp only [State.onReq, List.length_append, List.length_singleton]
        omega
      · simp only [State.onReq, noticeCount_append]
        exact hs.2
    · exact hs
  | notice f count room =>
    refine ⟨?_, ?_⟩
    · simp only [State.onReq, List.length_append, List.length_singleton]
      omega
    · simp only [State.onReq, noticeCount_append, show noticeCount [.notice f] = 1 from rfl]
      omega
  | order n => unfold chooseOrder; split <;> exact hs
  | write o table => rw [(writeTable_storeOnly s table).req]; exact hs
  | length i n => rw [(setLength_storeOnly i n s).req]; exact hs
  | activate i => rw [activateImage_fields]; exact hs
  | _ => exact hs

theorem Change.hits_fit {s t : State} (h : Change s t) (hs : ∀ n ∈ s.pass.hits, n ≤ 65535) :
    ∀ n ∈ t.pass.hits, n ≤ 65535 := by
  cases h with
  | grantTransit n => rw [(grantTransit_traffic n s).pass]; exact hs
  | grantOwn => rw [(grantOwn_traffic s).pass]; exact hs
  | start => rw [(startExecution_traffic s).pass]; exact hs
  | order n => rw [(chooseOrder_surroundings n s).pass]; exact hs
  | pass φ _ hits => exact fun n hn => (hits n hn).elim (hs n) id
  | write o table => rw [(writeTable_storeOnly s table).pass]; exact hs
  | length i n => rw [(setLength_storeOnly i n s).pass]; exact hs
  | activate i =>
    cases i with
    | pass =>
      intro n hn
      rw [List.eq_of_mem_replicate hn]
      exact Nat.zero_le _
    | schedule k => exact hs
  | _ => exact hs

theorem capacitiesKept : Sys2Proof.Claim.CapacitiesKept := fun s t hs hstep =>
  step_keeps_of_changes (P := State.capacityRule) (fun _ _ h => h)
    (fun u v hchange hu => by
      obtain ⟨hring, hintake, hreport, hhits⟩ := (capacityRule_iff u).mp hu
      exact (capacityRule_iff v).mpr
        ⟨hchange.ring_fits hring, hchange.intake_fits hintake, hchange.report_fits hreport, hchange.hits_fit hhits⟩)
    (fun a b c u => (hardReset_sound a b c u).capacities) hstep hs

/-! ### The reservation (R180, R187) -/

/-- How many entries of the report FIFO are reserved. -/
def reservedCount (r : List ReportEntry) : Nat := r.countP (fun e => e = .reserved)

/-- Nothing between `s` and `t` concerns the request under way or its reservation. -/
def SameExecution (s t : State) : Prop :=
  t.req.executing = s.req.executing ∧ reservedCount t.req.report = reservedCount s.req.report

theorem SameExecution.refl (s : State) : SameExecution s s := ⟨rfl, rfl⟩

theorem SameExecution.trans {s t u : State} (h : SameExecution s t) (k : SameExecution t u) : SameExecution s u :=
  ⟨k.1.trans h.1, k.2.trans h.2⟩

theorem SameExecution.of_req {s t : State} (h : t.req = s.req) : SameExecution s t := by
  rw [SameExecution, h]
  exact ⟨rfl, rfl⟩

theorem reservedCount_append (r q : List ReportEntry) : reservedCount (r ++ q) = reservedCount r + reservedCount q :=
  List.countP_append

theorem grantOwn_sameExecution (s : State) : SameExecution s (grantOwn s) := by
  unfold grantOwn
  split
  · split <;> exact ⟨rfl, rfl⟩
  · split
    next f hf =>
      refine ⟨rfl, ?_⟩
      simp only [State.onRing, State.onReq]
      cases hr : s.req.report with
      | nil => rfl
      | cons e r =>
        rw [hr] at hf
        cases e with
        | reserved => cases hf
        | reply _ => simp [reservedCount]
        | notice _ => simp [reservedCount]
    next => exact .refl s

theorem arbitrate_sameExecution (s : State) : SameExecution s (arbitrate s) := by
  have htransit (n : Nat) : SameExecution s (grantTransit n s) := by
    unfold grantTransit
    split <;> exact ⟨rfl, rfl⟩
  unfold arbitrate grant
  split
  · split_ifs
    · exact grantOwn_sameExecution s
    · exact ⟨rfl, rfl⟩
    · exact htransit 0
    · exact htransit 0
    · exact htransit _
    · exact grantOwn_sameExecution s
  · exact .refl s

theorem settleRotation_sameExecution (s : State) : SameExecution s (settleRotation s) := by
  unfold settleRotation
  split <;> exact ⟨rfl, rfl⟩

theorem Work.sameExecution {G : GateNo → Prop} {s t : State} (h : Work G s t) : SameExecution s t := by
  cases h with
  | arbitrate => exact arbitrate_sameExecution s
  | notice f => exact ⟨rfl, by simp only [State.onReq, reservedCount_append]; rfl⟩
  | order n => exact .of_req (by unfold chooseOrder; split <;> rfl)
  | post h sp =>
    by_cases hp : (s.hoist h).phase = some .waiting
    · rw [placePost_of_waiting sp hp]
      exact SameExecution.trans ⟨rfl, rfl⟩ (arbitrate_sameExecution _)
    · rw [placePost_of_not_waiting sp hp]
      exact SameExecution.trans ⟨rfl, rfl⟩ (arbitrate_sameExecution _)
  | empty h => exact SameExecution.trans ⟨rfl, rfl⟩ (settleRotation_sameExecution _)
  | drain => exact .of_req (by unfold testDrain; split <;> rfl)
  | _ => exact ⟨rfl, rfl⟩

theorem Works.sameExecution {G : GateNo → Prop} {s t : State} (h : Works G s t) : SameExecution s t :=
  h.relates SameExecution.refl (fun _ _ _ => SameExecution.trans) fun _ _ => Work.sameExecution

theorem Event.sameExecution {s t : State} (h : Event s t) : SameExecution s t := by
  cases h with
  | work h => exact h.sameExecution
  | lockout c g => exact SameExecution.trans ⟨rfl, rfl⟩ (enterLockout_works c g s).sameExecution
  | _ => exact ⟨rfl, rfl⟩

theorem Events.sameExecution {s t : State} (h : Events s t) : SameExecution s t :=
  h.relates SameExecution.refl (fun _ _ _ => SameExecution.trans) fun _ _ => Event.sameExecution

theorem clearGroup_sameExecution (k : FlagGroup) (s : State) : SameExecution s (clearGroup k s) := by
  cases k with
  | threshold c =>
    cases c with
    | load =>
      refine .of_req ?_
      unfold clearGroup
      dsimp only
      rw [foldl_onHoist _ _ allHoists_nodup]
    | _ => exact ⟨rfl, rfl⟩
  | _ => exact ⟨rfl, rfl⟩

theorem Deed.sameExecution {s t : State} (h : Deed s t) : SameExecution s t := by
  cases h with
  | event h => exact h.sameExecution
  | intake f => unfold admitRequest; split_ifs <;> exact ⟨rfl, rfl⟩
  | join f =>
    unfold joinTransit
    split
    · exact SameExecution.trans ⟨rfl, rfl⟩ (arbitrate_sameExecution _)
    · exact ⟨rfl, rfl⟩
  | rejoin h sl n => exact SameExecution.trans ⟨rfl, rfl⟩ (arbitrate_sameExecution _)
  | write o =>
    by_cases htable : o.table = .control
    · rw [writeTable_control s htable]
      exact SameExecution.trans ⟨rfl, rfl⟩ (writeControl_events o s).sameExecution
    · exact .of_req (writeTable_storeOnly s htable).req
  | length i n => exact .of_req (setLength_storeOnly i n s).req
  | activate i => exact .of_req (by rw [activateImage_fields])
  | clear k => exact clearGroup_sameExecution k s
  | holdAssert negated =>
    unfold holdAsserted
    rw [if_neg (by simp [negated])]
    exact SameExecution.trans ⟨rfl, rfl⟩ (stopMovingGates_works _).sameExecution
  | drainEntry =>
    exact SameExecution.trans ⟨rfl, rfl⟩ (enterDrain_works s).sameExecution
  | drainEnd yes =>
    refine SameExecution.trans ?_ (notify_works (G := fun _ => True) _ _).sameExecution
    rw [drainHoists_eq, drainGates_eq]
    exact ⟨rfl, rfl⟩
  | _ => exact ⟨rfl, rfl⟩

theorem Deeds.sameExecution {s t : State} (h : Deeds s t) : SameExecution s t :=
  h.relates SameExecution.refl (fun _ _ _ => SameExecution.trans) fun _ _ => Deed.sameExecution

theorem reservationRule_iff (s : State) :
    s.reservationRule ↔ reservedCount s.req.report = if s.req.executing.isSome then 1 else 0 := Iff.rfl

theorem SameExecution.rule {s t : State} (h : SameExecution s t) (hs : s.reservationRule) : t.reservationRule := by
  rw [reservationRule_iff, h.1, h.2]
  exact hs

theorem reservedCount_fillReservation (f : OwnFrame) (r : List ReportEntry) :
    reservedCount (fillReservation f r) = reservedCount r - 1 := by
  induction r with
  | nil => rfl
  | cons e r ih => cases e <;> simp_all [fillReservation, reservedCount]

theorem reservedCount_dropReservation (r : List ReportEntry) : reservedCount (dropReservation r) = reservedCount r - 1 := by
  induction r with
  | nil => rfl
  | cons e r ih => cases e <;> simp_all [dropReservation, reservedCount]

theorem placeReply_reserved (f : Frame) (a : Answer) (s : State) :
    (placeReply f a s).req.executing = s.req.executing ∧
      reservedCount (placeReply f a s).req.report = reservedCount s.req.report - 1 := by
  have h := arbitrate_sameExecution
    (s.onReq (fun q => { q with report := fillReservation ⟨f.src, kindReply, f.tag, a.payload⟩ q.report }))
  exact ⟨h.1, h.2.trans (reservedCount_fillReservation _ _)⟩

theorem releaseReservation_reserved (s : State) :
    (releaseReservation s).req.executing = s.req.executing ∧
      reservedCount (releaseReservation s).req.report = reservedCount s.req.report - 1 := by
  have h := (settleRotation_sameExecution (s.onReq (fun q => { q with report := dropReservation q.report }))).trans
    (arbitrate_sameExecution _)
  exact ⟨h.1, h.2.trans (reservedCount_dropReservation _)⟩

/-- At the end of an execution its reservation is used up (R180). -/
theorem endExecution_rule {s : State} (h : reservedCount s.req.report = 0) : (endExecution s).reservationRule := h

theorem startExecution_reserved {s : State} (may : s.mayExecute = true) :
    (startExecution s).req.executing.isSome = true ∧
      reservedCount (startExecution s).req.report = reservedCount s.req.report + 1 := by
  obtain ⟨hintake, _, _⟩ := (mayExecute_iff s).mp may
  unfold startExecution
  split
  · exact ⟨rfl, by simp only [State.onReq, reservedCount_append]; rfl⟩
  next h => exact absurd h hintake

theorem nextExecution_rule (n : Nat) {s : State} (hs : s.reservationRule) : (nextExecution n s).reservationRule := by
  induction n generalizing s with
  | zero => exact hs
  | succ n ih =>
    unfold nextExecution
    split
    next may =>
      have hnone : reservedCount s.req.report = 0 := by
        rw [(reservationRule_iff s).mp hs, ((mayExecute_iff s).mp may).2.1]
        rfl
      obtain ⟨hsome, hcount⟩ := startExecution_reserved may
      rw [hnone] at hcount
      split
      · split
        · rw [reservationRule_iff, hsome, hcount]
          rfl
        · refine ih (endExecution_rule ?_)
          split
          · rw [(releaseReservation_reserved _).2, hcount]
          · rw [(placeReply_reserved _ _ _).2, hcount]
      · exact hs
    next => exact hs

theorem settle_rule {s : State} (hs : s.reservationRule) : (settle s).reservationRule := nextExecution_rule _ hs

theorem Run.reservation {s t : State} (h : Run s t) (hs : s.reservationRule) : t.reservationRule := by
  cases h with
  | unsettled h => exact h.sameExecution.rule hs
  | settled h => exact settle_rule (h.sameExecution.rule hs)
  | replied f a executing h =>
    refine settle_rule (endExecution_rule ?_)
    rw [h.sameExecution.2, (placeReply_reserved f a s).2, (reservationRule_iff s).mp hs, executing]
    rfl
  | revived f a g executing =>
    refine settle_rule (endExecution_rule ?_)
    have hclear (u : State) : SameExecution u (clearGate g u) := by
      rw [clearGate_eq]
      generalize hv : u.onGate g _ = v
      have huv : SameExecution u v := .of_req (by rw [← hv]; rfl)
      exact huv.trans (postStops_works (G := fun _ => True) v trivial).sameExecution
    rw [(hclear _).2, (placeReply_reserved f a s).2, (reservationRule_iff s).mp hs, executing]
    rfl
  | discarded f executing =>
    refine settle_rule (endExecution_rule ?_)
    rw [(releaseReservation_reserved s).2, (reservationRule_iff s).mp hs, executing]
    rfl
  | sent =>
    refine settle_rule (SameExecution.rule ?_ hs)
    unfold transmissionCompletes
    split
    · exact .refl s
    · refine SameExecution.trans ?_ (arbitrate_sameExecution _)
      unfold postSent
      split
      · split <;> exact ⟨rfl, rfl⟩
      · exact ⟨rfl, rfl⟩
    all_goals exact SameExecution.trans ⟨rfl, rfl⟩ (arbitrate_sameExecution _)
  | reset a b c => exact (hardReset_sound a b c s).reservation

/-- Settles O6: every change keeps the bounds, and the reservation comes and goes with its execution. -/
theorem fifosKept : Obligations.FifosKept :=
  ⟨capacitiesKept, fun _ _ hs hstep =>
    step_keeps (P := State.reservationRule) (fun _ _ h => h) (fun _ _ hrun => hrun.reservation) hstep hs⟩

/-! ### The settled state (R154, R180) -/

theorem arbitrate_intake (s : State) : (arbitrate s).req.intake = s.req.intake := by
  unfold arbitrate grant
  have htransit (n : Nat) : (grantTransit n s).req.intake = s.req.intake := by
    unfold grantTransit
    split <;> rfl
  have hown : (grantOwn s).req.intake = s.req.intake := by
    unfold grantOwn
    split
    · split <;> rfl
    · split <;> rfl
  split
  · split_ifs <;> simp [htransit, hown]
  · rfl

theorem settleRotation_req (s : State) : (settleRotation s).req = s.req := by
  unfold settleRotation
  split <;> rfl

theorem answerUnlisted_intake (f : Frame) (s : State) : (answerUnlisted f s).req.intake = s.req.intake := by
  unfold answerUnlisted endExecution
  simp only [State.onReq_req]
  split
  · unfold releaseReservation
    rw [arbitrate_intake, settleRotation_req]
    rfl
  · unfold placeReply
    rw [arbitrate_intake]
    rfl

/-- As many turns as frames wait leave no frame that could be executed (R180). -/
theorem nextExecution_mayExecute (n : Nat) {s : State} (hn : s.req.intake.length < n) :
    (nextExecution n s).mayExecute = false := by
  induction n generalizing s with
  | zero => omega
  | succ n ih =>
    unfold nextExecution
    split
    next may =>
      split
      next f rest hintake =>
        split
        next =>
          have hsome := (startExecution_reserved may).1
          simp [State.mayExecute, Option.isNone_eq_false_iff.mpr hsome]
        next =>
          refine ih ?_
          rw [answerUnlisted_intake]
          simp only [startExecution, hintake, State.onReq_req]
          rw [hintake] at hn
          simpa using hn
      next hintake => exact absurd hintake ((mayExecute_iff s).mp may).1
    next hmay => simpa using hmay

theorem settle_settled (s : State) : (settle s).Settled :=
  ⟨nextExecution_mayExecute _ (Nat.lt_succ_self _), settle_faultLine s⟩

/-- Every command ends with its settling, but for the few that change nothing of what it looks at. -/
theorem exec_settles {i : Instr} {s t : State} (h : exec i s = .next t) :
    (∃ u, t = settle u) ∨ t = s ∨ (∃ k, t = s.onHoist k (fun x => { x with settleTimer := none })) ∨
      t = countCheckError s ∨ ∃ a b c, t = hardReset a b c s := by
  have hserve (r : RequestName) (answer : Frame → State → Answer) (effect : Frame → State → State) :
      (∃ u, serve r answer effect s = settle u) ∨ serve r answer effect s = s := by
    unfold serve
    split
    · exact .inr rfl
    · split
      · exact .inl ⟨_, rfl⟩
      · exact .inl ⟨_, rfl⟩
  cases i with
  | hardReset a b c => exact .inr (.inr (.inr (.inr ⟨a, b, c, (Host.Outcome.next.inj h).symm⟩)))
  | settleTimerExpiry k => exact .inr (.inr (.inl ⟨k, (Host.Outcome.next.inj h).symm⟩))
  | startMarkBeforeEndMark => exact .inr (.inr (.inr (.inl (Host.Outcome.next.inj h).symm)))
  | frameArrival ws n => exact .inl ⟨_, (Host.Outcome.next.inj h).symm⟩
  | transmissionComplete => exact .inl ⟨_, (Host.Outcome.next.inj h).symm⟩
  | holdLineAsserted => exact .inl ⟨_, (Host.Outcome.next.inj h).symm⟩
  | holdLineReleased => exact .inl ⟨_, (Host.Outcome.next.inj h).symm⟩
  | ageTimerExpiry c => exact .inl ⟨_, (Host.Outcome.next.inj h).symm⟩
  | ackTimerExpiry k => exact .inl ⟨_, (Host.Outcome.next.inj h).symm⟩
  | refreshTimerExpiry k => exact .inl ⟨_, (Host.Outcome.next.inj h).symm⟩
  | moveTimerExpiry g => exact .inl ⟨_, (Host.Outcome.next.inj h).symm⟩
  | stopTimerExpiry g => exact .inl ⟨_, (Host.Outcome.next.inj h).symm⟩
  | drainTimerExpiry => exact .inl ⟨_, (Host.Outcome.next.inj h).symm⟩
  | drainCompletion => exact .inl ⟨_, (Host.Outcome.next.inj h).symm⟩
  | _ =>
    rw [← Host.Outcome.next.inj h]
    rcases hserve _ _ _ with hu | hu
    · exact .inl hu
    · exact .inr (.inl hu)

/-- The FAULT line looks at the load quantity and the retry-exhausted flag of a hoist alone (R153, R154). -/
theorem settled_onHoist {s : State} {k : HoistNo} {φ : Hoist → Hoist} (hmonitor : ∀ x, (φ x).monitor = x.monitor)
    (hexhausted : ∀ x, (φ x).exhausted = x.exhausted) (hs : s.Settled) : (s.onHoist k φ).Settled := by
  have hhoist (h : HoistNo) : ((s.onHoist k φ).hoist h).monitor = (s.hoist h).monitor ∧
      ((s.onHoist k φ).hoist h).exhausted = (s.hoist h).exhausted := by
    rw [State.hoist_onHoist]
    split
    next e => exact e ▸ ⟨hmonitor _, hexhausted _⟩
    next => exact ⟨rfl, rfl⟩
  have hload (c : ThresholdClass) (j : Nat) : (s.onHoist k φ).thresholdGroupSet c j = s.thresholdGroupSet c j := by
    cases c with
    | load => simp only [State.thresholdGroupSet, hhoist]
    | _ => rfl
  have hfurther (j : Nat) : (s.onHoist k φ).furtherGroupSet j = s.furtherGroupSet j := by
    unfold State.furtherGroupSet
    simp only [hhoist]
    rfl
  obtain ⟨hmay, hline⟩ := hs
  refine ⟨hmay, ?_⟩
  unfold State.faultDemanded
  simp only [hload, hfurther]
  exact hline

/-- Settles O5: every command ends with its settling, which leaves nothing to start, or changes nothing that a settled
state is settled by. -/
theorem settledKept : Obligations.SettledKept := fun s t hs hstep => by
  unfold step at hstep
  split at hstep
  · rw [← Host.Outcome.next.inj hstep]
    exact hs
  next c rest _ =>
    have hs' : ({ s with pending := rest } : State).Settled := hs
    rcases exec_settles hstep with ⟨u, rfl⟩ | rfl | ⟨k, rfl⟩ | rfl | ⟨a, b, d, rfl⟩
    · exact settle_settled u
    · exact hs'
    · exact settled_onHoist (fun _ => rfl) (fun _ => rfl) hs'
    · exact hs'
    · exact (hardReset_sound _ _ _ _).settled

end Sys2Proof.Machine
end

section
/-!
PROOFS. The rules of one gate, step by step of the gate (R87, R99, R100, R109, R114, R115, R159).
-/

namespace Sys2Proof.Machine

/-- The rules of one gate. -/
def Gate.Rules (x : Gate) : Prop := x.offRule ∧ x.queueRule ∧ x.motionRule ∧ x.saveRule

/-! ### OFF (R87) -/

theorem Gate.Engaged.mode_ne_off {x : Gate} (h : x.Engaged) (hx : x.offRule) : x.mode ≠ .off := by
  intro hoff
  obtain ⟨hidle, hq, hc, _⟩ := hx hoff
  rcases h with h | h | h | h
  · exact h hoff
  · exact h hq
  · rw [hc] at h; cases h
  · exact h hidle

theorem mode_ne_off_of_motion {x : Gate} (hx : x.offRule) (h : x.motion ≠ .idle) : x.mode ≠ .off :=
  Gate.Engaged.mode_ne_off (.inr (.inr (.inr h))) hx

theorem motion_ne_idle_of_inFlight {x : Gate} (h : x.inFlight = true) : x.motion ≠ .idle := by
  rcases (inFlight_iff x).mp h with h | h <;> simp [h]

theorem motion_ne_idle_of_faulty {x : Gate} (h : x.faulty = true) : x.motion ≠ .idle := by
  rcases (faulty_iff x).mp h with h | h <;> simp [h]

theorem GateStep.offRule {s : State} {g : GateNo} {y : Gate} (h : GateStep s g y) (hx : (s.gate g).offRule) :
    y.offRule := by
  have hmoving (hm : (s.gate g).motion ≠ .idle) := mode_ne_off_of_motion hx hm
  cases h with
  | start c q b engaged => exact fun hoff => absurd hoff (engaged.mode_ne_off hx)
  | resume c faulted => exact fun hoff => absurd hoff (hmoving (by simp [faulted]))
  | complete target o q b engaged => exact fun hoff => absurd hoff (engaged.mode_ne_off hx)
  | mark q pending tide range blocked standing queue hpending htide =>
    intro hoff
    obtain ⟨hidle, hq, hc, ht⟩ := hx hoff
    refine ⟨hidle, ?_, ?_, ?_⟩
    · rw [hq] at queue
      exact List.sublist_nil.mp queue
    · cases pending with
      | false => rfl
      | true => exact absurd hoff ((hpending rfl).mode_ne_off hx)
    · cases tide with
      | false => rfl
      | true =>
        rcases htide rfl with h | h
        · rw [ht] at h; cases h
        · exact absurd hoff (h.mode_ne_off hx)
  | request e mode => intro hoff; rcases mode with ⟨h, _⟩ | ⟨h, _⟩ <;> exact absurd (h.symm.trans hoff) nofun
  | order e src tag mode => exact fun hoff => absurd (mode.symm.trans hoff) nofun
  | stop flight => exact fun hoff => absurd hoff (hmoving (motion_ne_idle_of_inFlight flight))
  | stopEnd standing stopping => exact fun hoff => absurd hoff (hmoving (by simp [stopping]))
  | fault c mode => exact fun hoff => absurd hoff mode
  | cause v faulty => exact fun hoff => absurd hoff (hmoving (motion_ne_idle_of_faulty faulty))
  | faultEnd r stopping => exact fun hoff => absurd hoff (hmoving (by simp [stopping]))
  | trim h moving => exact fun hoff => absurd hoff (hmoving (by simp [moving]))
  | release trim => exact fun hoff => absurd hoff (hmoving (by simp [trim]))
  | moveTimer => exact hx
  | stopTimer => exact hx
  | off idle => exact fun _ => ⟨idle, rfl, rfl, rfl⟩
  | mode m q pending tide run valid ready queue =>
    intro hoff
    have hoff : m = .off := hoff
    rcases queue with ⟨h, _⟩ | ⟨h, _⟩ | ⟨h, _⟩ | ⟨h, _⟩ <;> exact absurd (h.symm.trans hoff) nofun
  | clear standing run mode faulted => exact nofun

/-! ### The queue (R99, R100) -/

/-- Entries that go leave the queue within its rule. -/
theorem Gate.queueRule.of_sublist {x y : Gate} (hx : x.queueRule) (hmode : y.mode = x.mode) (hq : y.queue.Sublist x.queue) :
    y.queueRule := by
  unfold Gate.queueRule at hx ⊢
  rw [hmode]
  split at hx
  · rw [hx] at hq; exact List.sublist_nil.mp hq
  · rw [hx] at hq; exact List.sublist_nil.mp hq
  all_goals exact ⟨hq.length_le.trans hx.1, fun e he => hx.2 e (hq.subset he)⟩

theorem joinAutomatic_eq {e : Entry} {q : List Entry} (hlen : q.length ≤ 1) (hq : ∀ k ∈ q, k.origin = e.origin) :
    joinAutomatic e q = [e] := by
  match q with
  | [] => rfl
  | [k] => simp [joinAutomatic, hq k (List.mem_singleton.mpr rfl)]
  | _ :: _ :: _ => simp at hlen

theorem Gate.queueRule.length_le {x : Gate} (hx : x.queueRule) : x.queue.length ≤ 4 := by
  unfold Gate.queueRule at hx
  split at hx
  · simp [hx]
  · simp [hx]
  · exact hx.1
  · exact hx.1.trans (by decide)
  · exact hx.1.trans (by decide)

/-- An entry is an order of MANUAL, or the one entry of an automatic kind (R99, R100). -/
theorem Gate.queueRule.origin {x : Gate} (hx : x.queueRule) {e : Entry} (he : e ∈ x.queue) :
    (∃ src tag, e.origin = .order src tag) ∨ ((e.origin = .auto ∨ e.origin = .flood) ∧ x.queue.length ≤ 1) := by
  unfold Gate.queueRule at hx
  split at hx
  · simp [hx] at he
  · simp [hx] at he
  · exact .inl (hx.2 e he)
  · exact .inr ⟨.inl (hx.2 e he), hx.1⟩
  · exact .inr ⟨.inr (hx.2 e he), hx.1⟩

theorem GateStep.queueRule {s : State} {g : GateNo} {y : Gate} (h : GateStep s g y) (hx : (s.gate g).queueRule) :
    y.queueRule := by
  have hkeep (y : Gate) (hmode : y.mode = (s.gate g).mode) (hq : y.queue.Sublist (s.gate g).queue) : y.queueRule :=
    hx.of_sublist hmode hq
  cases h with
  | start c q b engaged ready window queue => exact hkeep _ rfl queue
  | complete target o q b engaged ready queue => exact hkeep _ rfl queue
  | mark q pending tide range blocked standing queue => exact hkeep _ rfl queue
  | request e mode =>
    unfold Gate.queueRule at hx ⊢
    rcases mode with ⟨hm, he⟩ | ⟨hm, he⟩ <;> simp only [hm] at hx ⊢ <;>
      rw [joinAutomatic_eq hx.1 fun k hk => (hx.2 k hk).trans he.symm] <;> simp [he]
  | order e src tag mode room origin =>
    unfold Gate.queueRule at hx ⊢
    simp only [mode] at hx ⊢
    refine ⟨by simpa using room, fun k hk => ?_⟩
    rcases List.mem_append.mp hk with hk | hk
    · exact hx.2 k hk
    · rw [List.mem_singleton.mp hk]
      exact ⟨src, tag, origin⟩
  | off idle => rfl
  | mode m q pending tide run valid ready queue =>
    unfold Gate.queueRule
    rcases queue with ⟨rfl, rfl⟩ | ⟨rfl, rfl⟩ | ⟨rfl, rfl⟩ | ⟨rfl, hlen, hflood⟩
    · rfl
    · refine ⟨(List.length_filter_le _ _).trans hx.length_le, fun e he => ?_⟩
      obtain ⟨hmem, hnot⟩ := List.mem_filter.mp he
      rcases hx.origin hmem with h | ⟨h | h, _⟩
      · exact h
      · simp [Entry.automatic, h] at hnot
      · simp [Entry.automatic, h] at hnot
    · have horigin (e) (he : e ∈ (s.gate g).queue.filter (fun e => e.origin = .auto)) :
          e ∈ (s.gate g).queue ∧ e.origin = .auto := by simpa using he
      refine ⟨?_, fun e he => (horigin e he).2⟩
      by_cases hempty : (s.gate g).queue.filter (fun e => e.origin = .auto) = []
      · simp [hempty]
      · obtain ⟨e, he⟩ := List.exists_mem_of_ne_nil _ hempty
        obtain ⟨hmem, hauto⟩ := horigin e he
        rcases hx.origin hmem with ⟨src, tag, h⟩ | ⟨_, hlen⟩
        · rw [h] at hauto; cases hauto
        · exact (List.length_filter_le _ _).trans hlen
    · exact ⟨hlen, hflood⟩
  | clear standing run mode faulted => rfl
  | _ => exact hkeep _ rfl (List.Sublist.refl _)

/-! ### Context and timers (R109, R112, R114, R115) -/

theorem GateStep.motionRule {s : State} {g : GateNo} {y : Gate} (h : GateStep s g y) (hoff : (s.gate g).offRule)
    (hx : (s.gate g).motionRule) : y.motionRule := by
  obtain ⟨hcontext, hmove, hstop, hstop', htrim⟩ := hx
  have hidle (h : (s.gate g).mode = .off) : (s.gate g).motion = .idle := (hoff h).1
  have hnostop (h1 : (s.gate g).motion ≠ .stopping) (h2 : (s.gate g).motion ≠ .faultStopping) :
      (s.gate g).stopTimer = none := by
    cases h : (s.gate g).stopTimer with
    | none => rfl
    | some t => exact absurd (hstop' (by simp [h])) (by simp [h1, h2])
  have hquiet (h : (s.gate g).inFlight = true ∨ (s.gate g).motion = .idle) :
      (s.gate g).motion ≠ .stopping ∧ (s.gate g).motion ≠ .faultStopping := by
    rw [inFlight_iff] at h
    rcases h with (h | h) | h <;> simp [h]
  have hsame : (s.gate g).motionRule := ⟨hcontext, hmove, hstop, hstop', htrim⟩
  simp only [Gate.inFlight] at hcontext hmove
  unfold Gate.motionRule Gate.inFlight
  cases h with
  | start c q b engaged ready =>
    obtain ⟨h1, h2⟩ := hquiet (ready.imp id fun h => h.1)
    simp [Gate.started, hnostop h1 h2]
  | resume c faulted => simp [Gate.started, hnostop, faulted]
  | complete target o q b engaged ready =>
    obtain ⟨h1, h2⟩ := hquiet ready
    simp [Gate.completed, hnostop h1 h2]
  | stop flight => simp_all [State.stoppedGate, Gate.inFlight]
  | stopEnd standing stopping => simp_all
  | fault c mode => simp [State.faultedGate]
  | faultEnd r stopping => simp_all
  | trim h moving => simp_all
  | release trim => simp_all
  | moveTimer rest =>
    have hrest : (s.gate g).inFlight = false := by
      rcases rest with h | h
      · simp [Gate.inFlight, hidle h]
      · exact h
    simp only [Gate.inFlight] at hrest
    rw [hrest] at hmove ⊢
    exact ⟨by rw [hcontext, hrest], rfl, hstop, hstop', htrim⟩
  | stopTimer rest =>
    have hrest : (s.gate g).motion ≠ .stopping := by
      rcases rest with h | h
      · simp [hidle h]
      · exact h
    exact ⟨hcontext, hmove, fun h => absurd h hrest, nofun, htrim⟩
  | clear standing run mode faulted => simp_all
  | _ => exact hsame

/-! ### The save record (R159) -/

theorem GateStep.saveRule {s : State} {g : GateNo} {y : Gate} (h : GateStep s g y)
    (hx : (s.gate g).saveRule) : y.saveRule := by
  obtain ⟨hocc, hres⟩ := hx
  have hsame : (s.gate g).saveRule := ⟨hocc, hres⟩
  simp only [Gate.faulty, Gate.inFlight] at hocc hres
  unfold Gate.saveRule Gate.faulty Gate.inFlight
  cases h with
  | start c q b engaged ready =>
    rw [inFlight_iff] at ready
    rcases ready with (hm | hm) | ⟨hm, _⟩ <;> simp_all [Gate.started]
  | resume c faulted => simp_all [Gate.started]
  | complete target o q b engaged ready =>
    rw [inFlight_iff] at ready
    rcases ready with (hm | hm) | hm <;> simp_all [Gate.completed]
  | stop flight =>
    rcases (inFlight_iff _).mp flight with hm | hm <;> simp_all [State.stoppedGate]
  | stopEnd standing stopping => simp_all [releaseResumed_eq]
  | fault c mode => simp [State.faultedGate]
  | cause v faulty => exact ⟨hocc, hres⟩
  | faultEnd r stopping => simp_all
  | trim h moving => simp_all
  | release trim => simp_all
  | clear standing run mode faulted => simp
  | _ => exact hsame

theorem GateStep.rules {s : State} {g : GateNo} {y : Gate} (h : GateStep s g y) (hx : (s.gate g).Rules) : y.Rules :=
  ⟨h.offRule hx.1, h.queueRule hx.2.1, h.motionRule hx.1 hx.2.2.1, h.saveRule hx.2.2.2⟩

theorem drained_rules (p : Int) {x : Gate} (hx : x.Rules) : (x.drained p).Rules := by
  unfold Gate.drained
  split
  · exact hx
  next hmode =>
    refine ⟨nofun, rfl, ⟨rfl, rfl, nofun, nofun, rfl⟩, ?_⟩
    simp [Gate.saveRule, Gate.faulty, Gate.inFlight]

/-- The gates that a change may leave: the same, the next in a step, or one that a drain's completion resets; but of a gate
that stands FAULTED in OFF nothing is said. -/
theorem Change.gate_of {s t : State} (h : Change s t) (k : GateNo) :
    t.gate k = s.gate k ∨ GateStep s k (t.gate k) ∨ (∃ p, t.gate k = (s.gate k).drained p) ∨
      ((s.gate k).mode = .off ∧ (s.gate k).motion = .faulted) := by
  cases h with
  | grantTransit n => exact .inl ((grantTransit_traffic n s).gate k)
  | grantOwn => exact .inl ((grantOwn_traffic s).gate k)
  | start => exact .inl ((startExecution_traffic s).gate k)
  | order n => exact .inl (chooseOrder_gate n s k)
  | write o table => exact .inl (by simp only [State.gate, (writeTable_storeOnly s table).gates])
  | length i n => exact .inl (by simp only [State.gate, (setLength_storeOnly i n s).gates])
  | activate i => exact .inl (by rw [activateImage_fields]; rfl)
  | gate g φ hφ =>
    rw [State.gate_onGate]
    split
    next e => exact .inr (.inl (e ▸ hφ))
    next => exact .inl rfl
  | drainedGate g p =>
    rw [State.gate_onGate]
    split
    next e => exact .inr (.inr (.inl ⟨p, by rw [e]⟩))
    next => exact .inl rfl
  | revive g φ off faulted =>
    rw [State.gate_onGate]
    split
    next e => exact .inr (.inr (.inr (by rw [e]; exact ⟨off, faulted⟩)))
    next => exact .inl rfl
  | _ => exact .inl rfl

/-- Settles O7: a gate changes by single steps, each of which keeps its rules. -/
theorem gateRulesKept : Obligations.GateRulesKept := fun s t hs hstep =>
  step_keeps_of_changes (P := fun u => ∀ g, (u.gate g).Rules) (fun _ _ h => h)
    (fun u v hchange hu g => by
      rcases hchange.gate_of g with h | h | ⟨p, h⟩ | ⟨h, h'⟩
      · rw [h]
        exact hu g
      · exact h.rules (hu g)
      · rw [h]
        exact drained_rules p (hu g)
      · exact absurd h (mode_ne_off_of_motion (hu g).1 (by simp [h'])))
    (fun a b c u g => ⟨(hardReset_sound a b c u).off g, (hardReset_sound a b c u).queues g,
      (hardReset_sound a b c u).motion g, (hardReset_sound a b c u).saves g⟩) hstep hs

end Sys2Proof.Machine
end

section
/-!
PROOFS. Slots and the post queue (R130), and the setpoints they hold (R128).
-/

namespace Sys2Proof.Machine

/-- An occupied slot as R130 gives it. -/
def Slot.Sound (sl : Slot) : Prop := sl.tag ≠ 0#8 ∧ sl.tries ≤ 255 ∧ sl.ackTimer.isSome = decide (sl.phase = .sent)

theorem slotRule_iff (s : State) :
    s.slotRule ↔ s.post.queue.Nodup ∧ (∀ h, h ∈ s.post.queue ↔ (s.hoist h).phase = some .waiting) ∧
      ∀ h sl, (s.hoist h).slot = some sl → sl.Sound := Iff.rfl

theorem Hoist.phase_congr {x y : Hoist} (h : x.slot = y.slot) : x.phase = y.phase := by
  simp [Hoist.phase, h]

theorem slotRule_congr {s t : State} (hqueue : t.post.queue = s.post.queue)
    (hslot : ∀ h, (t.hoist h).slot = (s.hoist h).slot) (hs : s.slotRule) : t.slotRule := by
  obtain ⟨hnodup, hmem, hsound⟩ := hs
  refine (slotRule_iff t).mpr ⟨by rwa [hqueue], fun h => ?_, fun h sl hsl => hsound h sl (by rw [← hslot]; exact hsl)⟩
  rw [hqueue, Hoist.phase_congr (hslot h)]
  exact hmem h

/-- With one slot changed, the rule is to be looked at there alone. -/
theorem slotRule_of_one {s t : State} (k : HoistNo) (hs : s.slotRule)
    (hslot : ∀ h, h ≠ k → (t.hoist h).slot = (s.hoist h).slot)
    (hnodup : t.post.queue.Nodup) (hqueue : ∀ h, h ≠ k → (h ∈ t.post.queue ↔ h ∈ s.post.queue))
    (hk : k ∈ t.post.queue ↔ (t.hoist k).phase = some .waiting)
    (hsound : ∀ sl, (t.hoist k).slot = some sl → sl.Sound) : t.slotRule := by
  obtain ⟨_, hmem, hall⟩ := hs
  refine (slotRule_iff t).mpr ⟨hnodup, fun h => ?_, fun h sl hsl => ?_⟩
  · by_cases e : h = k
    · rw [e]; exact hk
    · rw [hqueue h e, Hoist.phase_congr (hslot h e)]
      exact hmem h
  · by_cases e : h = k
    · exact hsound sl (e ▸ hsl)
    · exact hall h sl (by rw [← hslot h e]; exact hsl)

theorem slot_onHoist_ne {s : State} {k h : HoistNo} (φ : Hoist → Hoist) (hne : h ≠ k) :
    ((s.onHoist k φ).hoist h).slot = (s.hoist h).slot := by
  rw [State.hoist_onHoist_ne s k φ h hne]

theorem slot_onHoist_of {s : State} {k : HoistNo} {φ : Hoist → Hoist} (hφ : (φ (s.hoist k)).slot = (s.hoist k).slot)
    (h : HoistNo) : ((s.onHoist k φ).hoist h).slot = (s.hoist h).slot := by
  by_cases e : h = k
  · rw [e, State.hoist_onHoist_self, hφ]
  · exact slot_onHoist_ne φ e

theorem nodup_append_singleton {k : HoistNo} {q : List HoistNo} (hq : q.Nodup) (hk : k ∉ q) : (q ++ [k]).Nodup := by
  rw [List.nodup_append]
  refine ⟨hq, List.nodup_singleton k, fun a ha b hb => ?_⟩
  rw [List.mem_singleton.mp hb]
  rintro rfl
  exact hk ha

theorem grantOwn_slotRule {s : State} (hs : s.slotRule) : (grantOwn s).slotRule := by
  obtain ⟨hnodup, hmem, hsound⟩ := hs
  have hs : s.slotRule := ⟨hnodup, hmem, hsound⟩
  unfold grantOwn
  split
  next k rest hq =>
    have hwaiting : (s.hoist k).phase = some .waiting := (hmem k).mp (by simp [hq])
    rw [hq] at hnodup
    obtain ⟨hk, hrest⟩ := List.nodup_cons.mp hnodup
    split
    next sl hsl =>
      refine slotRule_of_one k hs (fun h e => by simp [State.hoist_onHoist_ne, e]) hrest (fun h e => ?_) ?_ fun sl' hsl' => ?_
      · simp [State.onRing, State.onPost, hq, e]
      · simp [State.onRing, State.onPost, hk, Hoist.phase, State.hoist, State.onHoist]
      · obtain ⟨htag, htries, htimer⟩ := hsound k sl hsl
        have hphase : sl.phase = .waiting := by simpa [Hoist.phase, hsl] using hwaiting
        obtain rfl : { sl with phase := .sending } = sl' := by
          simpa [State.onRing, State.onPost, State.hoist, State.onHoist] using hsl'
        exact ⟨htag, htries, by simpa [hphase] using htimer⟩
    next hnone => simp [Hoist.phase, hnone] at hwaiting
  next =>
    split
    · exact slotRule_congr rfl (fun _ => rfl) hs
    · exact hs

theorem Change.slotRule {s t : State} (h : Change s t) (hs : s.slotRule) : t.slotRule := by
  obtain ⟨hnodup, hmem, hsound⟩ := (slotRule_iff s).mp hs
  cases h with
  | grantTransit n =>
    unfold Machine.grantTransit
    split <;> exact slotRule_congr rfl (fun _ => rfl) hs
  | grantOwn => exact grantOwn_slotRule hs
  | start =>
    unfold startExecution
    split <;> exact slotRule_congr rfl (fun _ => rfl) hs
  | order n =>
    unfold chooseOrder
    split <;> exact slotRule_congr rfl (fun _ => rfl) hs
  | write o table =>
    refine slotRule_congr (by rw [(writeTable_storeOnly s table).post]) (fun h => ?_) hs
    rw [(writeTable_storeOnly s table).hoists h]
  | length i n =>
    refine slotRule_congr (by rw [(setLength_storeOnly i n s).post]) (fun h => ?_) hs
    rw [(setLength_storeOnly i n s).hoists h]
  | activate i => exact slotRule_congr (by rw [activateImage_fields]) (fun h => by rw [activateImage_fields]; rfl) hs
  | occupyMerged k sp tag waiting htag =>
    refine slotRule_of_one k hs (fun h e => slot_onHoist_ne _ e) hnodup (fun _ _ => Iff.rfl) ?_ fun sl hsl => ?_
    · simp only [occupySlot, State.hoist_onHoist_self, Hoist.phase, iff_true]
      exact (hmem k).mpr waiting
    · simp only [occupySlot, State.hoist_onHoist_self, Option.some.injEq] at hsl
      subst hsl
      exact ⟨htag, Nat.zero_le _, rfl⟩
  | occupyJoined k sp tag waiting htag =>
    have hk : k ∉ s.post.queue := fun hk => waiting ((hmem k).mp hk)
    refine slotRule_of_one k hs (fun h e => slot_onHoist_ne (s := s.onPost _) _ e) ?_ (fun h e => ?_) ?_ fun sl hsl => ?_
    · exact nodup_append_singleton hnodup hk
    · simp [occupySlot, State.onPost, e]
    · simp [occupySlot, State.onPost, Hoist.phase, State.hoist, State.onHoist]
    · simp only [occupySlot, State.hoist_onHoist_self, Option.some.injEq] at hsl
      subst hsl
      exact ⟨htag, Nat.zero_le _, rfl⟩
  | empty k =>
    refine slotRule_of_one k hs (fun h e => by simp [State.hoist_onHoist_ne, e]) (hnodup.filter _) (fun h e => ?_) ?_ fun sl hsl => ?_
    · simp [State.onPost, e]
    · simp [State.onPost, Hoist.phase, State.hoist, State.onHoist]
    · simp [State.onPost, State.hoist, State.onHoist] at hsl
  | rejoin k sl n slot sent tries =>
    have hk : k ∉ s.post.queue := fun hk => by
      have := (hmem k).mp hk
      simp [Hoist.phase, slot, sent] at this
    refine slotRule_of_one k hs (fun h e => by simp [State.hoist_onHoist_ne, e]) ?_ (fun h e => ?_) ?_ fun sl' hsl => ?_
    · exact nodup_append_singleton hnodup hk
    · simp [State.onPost, e]
    · simp [State.onPost, Hoist.phase, State.hoist, State.onHoist]
    · simp only [State.onPost, State.hoist, State.onHoist, Vector.getElem_set_self, Option.some.injEq] at hsl
      subst hsl
      exact ⟨(hsound k sl slot).1, tries, rfl⟩
  | sent k sl slot sending =>
    refine slotRule_of_one k hs (fun h e => slot_onHoist_ne _ e) hnodup (fun _ _ => Iff.rfl) ?_ fun sl' hsl => ?_
    · have hk : k ∉ s.post.queue := fun hk => by
        have := (hmem k).mp hk
        simp [Hoist.phase, slot, sending] at this
      simp [Hoist.phase, hk]
    · simp only [State.hoist_onHoist_self, Option.some.injEq] at hsl
      subst hsl
      exact ⟨(hsound k sl slot).1, (hsound k sl slot).2.1, rfl⟩
  | hoist k φ hφ =>
    have hslot : (φ (s.hoist k)).slot = (s.hoist k).slot := by rw [hφ]
    exact slotRule_congr (s := s) rfl (slot_onHoist_of hslot) hs
  | status k d =>
    unfold applyStatus
    exact slotRule_congr (s := s) rfl (slot_onHoist_of rfl) hs
  | silence =>
    refine (slotRule_iff _).mpr ⟨List.nodup_nil, fun h => ?_, fun h sl hsl => ?_⟩
    · simp [State.silenced, Hoist.phase, State.hoist, Hoist.drained]
    · simp [State.silenced, State.hoist, Hoist.drained] at hsl
  | _ => exact slotRule_congr rfl (fun _ => rfl) hs

/-- Settles O8: a slot is occupied with its place in the queue, and leaves the queue with its phase. -/
theorem slotsKept : Obligations.SlotsKept := fun _ _ hs hstep =>
  step_keeps_of_changes (P := State.slotRule) (fun _ _ h => h) (fun _ _ hchange => hchange.slotRule)
    (fun a b c u => (hardReset_sound a b c u).slots) hstep hs

end Sys2Proof.Machine
end

section
/-!
PROOFS. Gates in service keep what admitted them, and targets stay in their windows (R81, R86, R89, R109, R128).
-/

namespace Sys2Proof.Machine

/-! ### Records and drives -/

theorem record_writeTable (o : WriteRows) (s : State) (g : GateNo) (htable : o.table ≠ .control) :
    (writeTable o s).record g =
      if o.table = .gate g then
        let r := storeRows (s.record g) o.start o.values
        (r.set 10 1#16).set 11 (bumpWord r[11])
      else s.record g := by
  unfold writeTable
  cases h : o.table with
  | control => exact absurd h htable
  | hoistMap =>
    dsimp only
    rw [writeHoistMap_eq, if_neg nofun]
    rfl
  | gate k =>
    simp only [writeGateRecord, State.record, State.onStore, Table.gate.injEq]
    split_ifs with e
    · simp [e]
    · rw [Vector.getElem_set_ne]
      exact fun h => e (Fin.ext h)
  | _ => rfl

theorem driveOf_writeTable (o : WriteRows) (s : State) (h : HoistNo) (htable : o.table ≠ .control) :
    (writeTable o s).driveOf h =
      if o.table = .hoistMap then addressOf (storeRows s.store.hoistMap o.start o.values)[h.val] else s.driveOf h := by
  unfold writeTable
  cases ht : o.table with
  | control => exact absurd ht htable
  | hoistMap =>
    dsimp only
    rw [writeHoistMap_eq, if_pos rfl]
    rfl
  | _ => rfl

/-- A hoist that keeps its drive is not touched by a write; one that changes it is remapped (R86). -/
theorem hoist_writeTable (o : WriteRows) (s : State) (h : HoistNo) (htable : o.table ≠ .control) :
    (writeTable o s).hoist h =
      if (writeTable o s).driveOf h = s.driveOf h then s.hoist h else (s.hoist h).remapped := by
  rw [driveOf_writeTable o s h htable]
  unfold writeTable
  cases ht : o.table with
  | control => exact absurd ht htable
  | hoistMap =>
    dsimp only
    rw [writeHoistMap_eq, if_pos rfl]
    simp only [State.hoist, Vector.getElem_ofFn]
  | _ =>
    simp only [reduceCtorEq, if_false, if_true]
    rfl

/-- The ranges of a gate record do not read its last two rows (R81). -/
theorem recordInRange_set (r : Vector Word 12) (a b : Word) :
    recordInRange ((r.set 10 a).set 11 b) = recordInRange r := by
  simp [recordInRange, trimOffset, lowerLimit, upperLimit, arrivalTolerance, trimThreshold, trimRelease, skewAlarm]

/-- The travel window of a record in range (R81). -/
theorem window_of_recordInRange {r : Vector Word 12} (h : recordInRange r = true) :
    0 ≤ lowerLimit r ∧ lowerLimit r < upperLimit r ∧ upperLimit r ≤ 12000 := by
  simp only [recordInRange, inRange, Bool.and_eq_true, decide_eq_true_eq] at h
  omega

/-! ### Service (R81, R89) -/

theorem hoistsReady_congr {s t : State} {g : GateNo} (hdrive : ∀ h, gateOf h = g → t.driveOf h = s.driveOf h)
    (hvalid : ∀ h, gateOf h = g → (t.hoist h).valid = (s.hoist h).valid) : t.hoistsReady g = s.hoistsReady g := by
  have hl := gateOf_leftHoist g
  have hr := gateOf_rightHoist g
  simp [State.hoistsReady, State.leftOf, State.rightOf, hdrive _ hl, hdrive _ hr, hvalid _ hl, hvalid _ hr]

/-- A gate that a step leaves in service was in service, or meets the conditions of R89. -/
theorem GateStep.service {s : State} {g : GateNo} {y : Gate} (h : GateStep s g y) (hy : y.mode ≠ .off) :
    (s.gate g).mode ≠ .off ∨ (recordValid (s.record g) = true ∧ s.hoistsReady g = true) := by
  cases h with
  | mode m q pending tide run valid ready => exact .inr ⟨valid, ready⟩
  | clear standing run mode => exact .inl mode
  | off => exact absurd rfl hy
  | _ => exact .inl hy

/-- What a change leaves of a record: the same, or a taken write (R82, R83). -/
theorem Change.record_of {s t : State} (h : Change s t) (g : GateNo) :
    t.record g = s.record g ∨
      ((s.gate g).recordWritable = true ∧ recordValid (t.record g) = true ∧ recordInRange (t.record g) = true) := by
  cases h with
  | grantTransit n => exact .inl ((grantTransit_traffic n s).record g)
  | grantOwn => exact .inl ((grantOwn_traffic s).record g)
  | start => exact .inl ((startExecution_traffic s).record g)
  | order n => exact .inl ((chooseOrder_surroundings n s).record g)
  | length i n => unfold setLength; cases i <;> exact .inl rfl
  | activate i => unfold activateImage; cases i <;> exact .inl rfl
  | write o table check =>
    have hdone := (writeCheck_done check).2
    by_cases e : o.table = .gate g
    · rw [e] at hdone
      rw [record_writeTable o s g table, if_pos e]
      exact .inr ⟨hdone.2.2.1, by simp [recordValid], by rw [recordInRange_set]; exact hdone.2.2.2⟩
    · exact .inl (by rw [record_writeTable o s g table, if_neg e])
  | _ => exact .inl rfl

/-- What a change leaves of the hoists of a gate in service: mapped as before and no less valid (R86, R126). -/
theorem Change.hoist_ready {s t : State} (h : Change s t) (k : HoistNo) (hmode : (s.gate (gateOf k)).mode ≠ .off) :
    t.driveOf k = s.driveOf k ∧ ((s.hoist k).valid = true → (t.hoist k).valid = true) := by
  have hon (u : State) (j : HoistNo) (φ : Hoist → Hoist) (hφ : ∀ x, x.valid = true → (φ x).valid = true) :
      (u.hoist k).valid = true → ((u.onHoist j φ).hoist k).valid = true := by
    rw [State.hoist_onHoist]
    split
    next e => rw [e]; exact hφ _
    next => exact id
  cases h with
  | grantTransit n =>
    have h := grantTransit_traffic n s
    exact ⟨h.driveOf k, fun hv => (h.surroundings.valid k).trans hv⟩
  | grantOwn =>
    have h := grantOwn_traffic s
    exact ⟨h.driveOf k, fun hv => (h.surroundings.valid k).trans hv⟩
  | start =>
    have h := startExecution_traffic s
    exact ⟨h.driveOf k, fun hv => (h.surroundings.valid k).trans hv⟩
  | order n => exact ⟨(chooseOrder_surroundings n s).driveOf k, fun hv => ((chooseOrder_surroundings n s).valid k).trans hv⟩
  | length i n => unfold setLength; cases i <;> exact ⟨rfl, id⟩
  | activate i => unfold activateImage; cases i <;> exact ⟨rfl, id⟩
  | write o table check =>
    have hdrive : (writeTable o s).driveOf k = s.driveOf k := by
      rw [driveOf_writeTable o s k table]
      split
      next e =>
        have hdone := (writeCheck_done check).2
        rw [e] at hdone
        have hnot := List.all_eq_true.mp hdone.1 k (mem_allHoists k)
        have hcovers : o.covers k.val = false := by simpa [hmode] using hnot
        have hrow : ¬(o.start ≤ k.val ∧ k.val < o.start + o.values.length) := by simpa [WriteRows.covers] using hcovers
        rw [← rowAt_getElem _ k.isLt, rowAt_storeRows, if_neg fun h => hrow ⟨h.1, h.2.1⟩, rowAt_getElem _ k.isLt]
        rfl
      next => rfl
    exact ⟨hdrive, fun hv => by rw [hoist_writeTable o s k table, if_pos hdrive]; exact hv⟩
  | occupyMerged h sp tag => exact ⟨rfl, hon s h _ fun _ => id⟩
  | occupyJoined h sp tag =>
    refine ⟨rfl, fun hv => ?_⟩
    unfold occupySlot
    rw [State.hoist_onHoist]
    split
    next e => rw [e] at hv; exact hv
    next => exact hv
  | empty h => exact ⟨rfl, hon s h (fun x => { x with slot := none }) fun _ => id⟩
  | rejoin h sl n =>
    exact ⟨rfl, hon s h (fun x => { x with slot := some { sl with tries := n, phase := .waiting, ackTimer := none } })
      fun _ => id⟩
  | sent h sl => exact ⟨rfl, hon s h _ fun _ => id⟩
  | hoist h φ hφ => exact ⟨rfl, hon s h φ fun x => by rw [hφ x]; exact id⟩
  | silence => exact ⟨rfl, by simp [State.silenced, State.hoist, Hoist.drained]⟩
  | status h d => exact ⟨rfl, hon s h _ fun _ _ => rfl⟩
  | _ => exact ⟨rfl, id⟩

theorem hoistsReady_iff (s : State) (g : GateNo) :
    s.hoistsReady g = true ↔ ∀ h, h = leftHoist g ∨ h = rightHoist g → s.driveOf h ≠ 0#8 ∧ (s.hoist h).valid = true := by
  simp only [State.hoistsReady, State.leftOf, State.rightOf, Bool.and_eq_true, decide_eq_true_eq]
  refine ⟨fun ⟨⟨⟨hl, hr⟩, hvl⟩, hvr⟩ h e => ?_, fun h => ?_⟩
  · rcases e with rfl | rfl
    · exact ⟨hl, hvl⟩
    · exact ⟨hr, hvr⟩
  · exact ⟨⟨⟨(h _ (.inl rfl)).1, (h _ (.inr rfl)).1⟩, (h _ (.inl rfl)).2⟩, (h _ (.inr rfl)).2⟩

/-- A change of a gate is nothing but that. -/
theorem Change.gate_alone {s t : State} (h : Change s t) :
    (∀ k, t.gate k = s.gate k) ∨ (t.store = s.store ∧ t.hoists = s.hoists) := by
  cases h with
  | grantTransit n => exact .inl (grantTransit_traffic n s).gate
  | grantOwn => exact .inl (grantOwn_traffic s).gate
  | start => exact .inl (startExecution_traffic s).gate
  | order n => exact .inl (chooseOrder_gate n s)
  | write o table => exact .inl fun k => by simp only [State.gate, (writeTable_storeOnly s table).gates]
  | length i n => exact .inl fun k => by simp only [State.gate, (setLength_storeOnly i n s).gates]
  | activate i => exact .inl fun k => by rw [activateImage_fields]; rfl
  | gate g φ hφ => exact .inr ⟨rfl, rfl⟩
  | drainedGate g p => exact .inr ⟨rfl, rfl⟩
  | revive g φ => exact .inr ⟨rfl, rfl⟩
  | _ => exact .inl fun _ => rfl

theorem drained_mode {p : Int} {x : Gate} (h : (x.drained p).mode ≠ .off) : x.mode ≠ .off := by
  unfold Gate.drained at h
  split at h
  · exact h
  next hmode => exact hmode

/-- What admits a gate to service (R89). -/
def State.Admits (s : State) (g : GateNo) : Prop := recordValid (s.record g) = true ∧ s.hoistsReady g = true

theorem Change.admits {s t : State} (h : Change s t) (hoff : ∀ g, (s.gate g).offRule)
    (hs : ∀ g, (s.gate g).mode ≠ .off → s.Admits g) (g : GateNo) (hmode : (t.gate g).mode ≠ .off) : t.Admits g := by
  rcases h.gate_alone with hgates | ⟨hstore, hhoists⟩
  · rw [hgates] at hmode
    obtain ⟨hvalid, hready⟩ := hs g hmode
    refine ⟨?_, ?_⟩
    · rcases h.record_of g with hr | hr
      · rw [hr]
        exact hvalid
      · exact hr.2.1
    · rw [hoistsReady_iff] at hready ⊢
      intro k hk
      have hg : gateOf k = g := by rcases hk with rfl | rfl <;> simp
      obtain ⟨hd, hv⟩ := h.hoist_ready k (by rw [hg]; exact hmode)
      obtain ⟨hd', hv'⟩ := hready k hk
      exact ⟨by rw [hd]; exact hd', hv hv'⟩
  · have hready : t.hoistsReady g = s.hoistsReady g :=
      hoistsReady_congr (fun h _ => by simp [State.driveOf, hstore]) (fun h _ => by simp [State.hoist, hhoists])
    have hadmits : t.Admits g ↔ s.Admits g := by simp [State.Admits, State.record, hstore, hready]
    rw [hadmits]
    rcases h.gate_of g with hg | hg | ⟨p, hg⟩ | ⟨hg, hf⟩
    · rw [hg] at hmode
      exact hs g hmode
    · exact (hg.service hmode).elim (hs g) id
    · rw [hg] at hmode
      exact hs g (drained_mode hmode)
    · exact absurd hg (mode_ne_off_of_motion (hoff g) (by simp [hf]))

theorem drained_offRule (p : Int) {x : Gate} (hx : x.offRule) : (x.drained p).offRule := by
  unfold Gate.drained
  split
  · exact hx
  · exact nofun

theorem Change.offRule {s t : State} (h : Change s t) (hoff : ∀ g, (s.gate g).offRule) (g : GateNo) : (t.gate g).offRule := by
  rcases h.gate_of g with hg | hg | ⟨p, hg⟩ | ⟨hg, hf⟩
  · rw [hg]
    exact hoff g
  · exact hg.offRule (hoff g)
  · rw [hg]
    exact drained_offRule p (hoff g)
  · exact absurd hg (mode_ne_off_of_motion (hoff g) (by simp [hf]))

theorem Change.service {s t : State} (h : Change s t) (hoff : ∀ g, (s.gate g).offRule) (hs : s.serviceRule) :
    t.serviceRule := by
  refine ⟨fun g hvalid => ?_, h.admits hoff hs.2⟩
  rcases h.record_of g with hr | hr
  · rw [hr] at hvalid ⊢
    exact hs.1 g hvalid
  · exact hr.2.2

theorem serviceKept : Sys2Proof.Claim.ServiceKept := fun _ _ hoff hs hstep =>
  (step_keeps_of_changes (P := fun u => (∀ g, (u.gate g).offRule) ∧ u.serviceRule) (fun _ _ h => h)
    (fun _ _ hchange hu => ⟨hchange.offRule hu.1, hchange.service hu.1 hu.2⟩)
    (fun a b c u => ⟨(hardReset_sound a b c u).off, (hardReset_sound a b c u).service⟩) hstep ⟨hoff, hs⟩).2

/-! ### Targets (R109, R128) -/

/-- The window of a gate in service lies within the travel of a gate (R81). -/
theorem window_of_service {s : State} {g : GateNo} (hs : s.serviceRule) (hmode : (s.gate g).mode ≠ .off) :
    0 ≤ lowerLimit (s.record g) ∧ lowerLimit (s.record g) < upperLimit (s.record g) ∧ upperLimit (s.record g) ≤ 12000 :=
  window_of_recordInRange (hs.1 g (hs.2 g hmode).1)

theorem inWindow_iff (s : State) (g : GateNo) (x : Int) :
    s.inWindow g x = true ↔ lowerLimit (s.record g) ≤ x ∧ x ≤ upperLimit (s.record g) := by
  simp [State.inWindow]

theorem GateStep.window {s : State} {g : GateNo} {y : Gate} (h : GateStep s g y) (hoff : (s.gate g).offRule)
    (hs : s.serviceRule) (hw : ∀ c, (s.gate g).context = some c → s.inWindow g c.target = true) (c : MoveContext)
    (hc : y.context = some c) : s.inWindow g c.target = true := by
  cases h with
  | start c' q b engaged ready window =>
    obtain rfl : c' = c := Option.some.inj hc
    rcases window with h | h
    · exact h
    · obtain ⟨_, hlt, _⟩ := window_of_service hs (engaged.mode_ne_off hoff)
      rw [inWindow_iff, h]
      exact ⟨Int.le_refl _, Int.le_of_lt hlt⟩
  | resume c' faulted run free window =>
    obtain rfl : c' = c := Option.some.inj hc
    exact window
  | complete => cases hc
  | stopEnd => cases hc
  | fault => cases hc
  | _ => exact hw c hc

/-- The record of a gate with a move in hand is not written (R83). -/
theorem context_of_recordWritable {x : Gate} (h : x.recordWritable = true) (hoff : x.offRule) (hm : x.motionRule) :
    x.context = none := by
  have hrest : x.motion = .idle ∨ x.motion = .faulted := by
    simp only [Gate.recordWritable, Bool.or_eq_true, decide_eq_true_eq] at h
    rcases h with (h | h) | h
    · exact .inl (hoff h).1
    · exact .inl h
    · exact .inr h
  have hcontext := hm.1
  cases hc : x.context with
  | none => rfl
  | some c => rcases hrest with h | h <;> simp [hc, h, Gate.inFlight] at hcontext

theorem Change.window {s t : State} (h : Change s t) (hrules : ∀ g, (s.gate g).offRule ∧ (s.gate g).motionRule)
    (hs : s.serviceRule) (hw : s.windowRule) : t.windowRule := by
  intro g c hc
  rcases h.gate_alone with hgates | ⟨hstore, _⟩
  · rw [hgates] at hc
    rcases h.record_of g with hr | hr
    · rw [inWindow_iff, hr, ← inWindow_iff]
      exact hw g c hc
    · rw [context_of_recordWritable hr.1 (hrules g).1 (hrules g).2] at hc
      cases hc
  · have hrecord : t.record g = s.record g := by simp [State.record, hstore]
    rw [inWindow_iff, hrecord, ← inWindow_iff]
    rcases h.gate_of g with hg | hg | ⟨p, hg⟩ | ⟨hg, hf⟩
    · exact hw g c (by rw [← hg]; exact hc)
    · exact hg.window (hrules g).1 hs (hw g) c hc
    · rw [hg] at hc
      unfold Gate.drained at hc
      split at hc
      · exact hw g c hc
      · cases hc
    · exact absurd hg (mode_ne_off_of_motion (hrules g).1 (by simp [hf]))

/-- A setpoint a drive may be given: a MOVE within the travel of a gate (R128). -/
def Setpoint.InRange (sp : Setpoint) : Prop := sp.command = .move → 0 ≤ sp.target ∧ sp.target ≤ 12000

theorem setpointRule_iff (s : State) :
    s.setpointRule ↔ ∀ h, (∀ sl, (s.hoist h).slot = some sl → sl.setpoint.InRange) ∧
      ∀ sp, (s.hoist h).lastPosted = some sp → sp.InRange := Iff.rfl

/-- Whence a hoist's setpoints come: they were held before, or the change posts `sp`. -/
structure Hoist.SetpointsFrom (x y : Hoist) (posted : Setpoint → Prop) : Prop where
  slot : ∀ sl, y.slot = some sl → (∃ sl', x.slot = some sl' ∧ sl'.setpoint = sl.setpoint) ∨ posted sl.setpoint
  last : ∀ sp, y.lastPosted = some sp → x.lastPosted = some sp ∨ posted sp

theorem Hoist.SetpointsFrom.same {x y : Hoist} {p : Setpoint → Prop} (hslot : y.slot = x.slot)
    (hlast : y.lastPosted = x.lastPosted) : x.SetpointsFrom y p :=
  ⟨fun sl h => .inl ⟨sl, by rw [← hslot]; exact h, rfl⟩, fun sp h => .inl (by rw [← hlast]; exact h)⟩

theorem Hoist.SetpointsFrom.of_exceptPhase {x y : Hoist} {p : Setpoint → Prop} (h : y.exceptPhase = x.exceptPhase) :
    x.SetpointsFrom y p := by
  refine ⟨fun sl hsl => .inl ?_, fun sp hsp => .inl (by rw [← Hoist.lastPosted_of_exceptPhase h]; exact hsp)⟩
  obtain ⟨p, hp⟩ := Hoist.slot_some_of_exceptPhase h.symm hsl
  exact ⟨_, hp, rfl⟩

/-- The setpoints of hoist `k` after a change were its own, or were posted by it. -/
theorem Change.setpoints {s t : State} (h : Change s t) (k : HoistNo) :
    (s.hoist k).SetpointsFrom (t.hoist k) (fun sp => sp.command = .move →
      (∃ g c, (s.gate g).mode ≠ .off ∧ (s.gate g).context = some c ∧ sp.target = c.target) ∨
        (s.hoist k).lastPosted = some sp) := by
  have hon (u : State) (j : HoistNo) (φ : Hoist → Hoist) (p : Setpoint → Prop)
      (hφ : j = k → (u.hoist j).SetpointsFrom (φ (u.hoist j)) p) : (u.hoist k).SetpointsFrom ((u.onHoist j φ).hoist k) p := by
    rw [State.hoist_onHoist]
    split
    next e => rw [e]; exact hφ e.symm
    next => exact .same rfl rfl
  have hposted {x : Hoist} {sp : Setpoint} {p : Setpoint → Prop} (d tag : Byte) (hp : p sp) :
      x.SetpointsFrom { x with slot := some ⟨sp, d, tag, 0, .waiting, none⟩, lastPosted := some sp } p :=
    ⟨fun sl hsl => .inr (by rw [← Option.some.inj hsl]; exact hp), fun sp' hsp => .inr (Option.some.inj hsp ▸ hp)⟩
  cases h with
  | grantTransit n => exact .of_exceptPhase ((grantTransit_traffic n s).hoists k)
  | grantOwn => exact .of_exceptPhase ((grantOwn_traffic s).hoists k)
  | start => exact .of_exceptPhase ((startExecution_traffic s).hoists k)
  | order n => unfold chooseOrder; split <;> exact .same rfl rfl
  | write o table =>
    refine ⟨fun sl hsl => .inl ⟨sl, ?_, rfl⟩, fun sp hsp => .inl ?_⟩
    · rw [(writeTable_storeOnly s table).hoists k] at hsl
      exact hsl
    · rw [hoist_writeTable o s k table] at hsp
      split at hsp
      · exact hsp
      · cases hsp
  | length i n => unfold setLength; cases i <;> exact .same rfl rfl
  | activate i => unfold activateImage; cases i <;> exact .same rfl rfl
  | occupyMerged j sp tag waiting htag may target => exact hon s j _ _ fun e => hposted _ _ (e ▸ target)
  | occupyJoined j sp tag waiting htag may target =>
    exact hon (s.onPost fun p => { p with queue := p.queue ++ [j] }) j _ _ fun e => hposted _ _ (e ▸ target)
  | empty j => exact hon s j (fun x => { x with slot := none }) _ fun _ => ⟨nofun, fun _ h => .inl h⟩
  | rejoin j sl n slot =>
    refine hon s j (fun x => { x with slot := some { sl with tries := n, phase := .waiting, ackTimer := none } }) _
      fun _ => ⟨fun sl' h => .inl ⟨sl, slot, ?_⟩, fun _ h => .inl h⟩
    rw [← Option.some.inj h]
  | sent j sl slot =>
    refine hon s j _ _ fun _ => ⟨fun sl' h => .inl ⟨sl, slot, ?_⟩, fun _ h => .inl h⟩
    rw [← Option.some.inj h]
  | hoist j φ hφ => exact hon s j φ _ fun _ => .same (by rw [hφ]) (by rw [hφ])
  | status j d => exact hon s j _ _ fun _ => .same rfl rfl
  | silence =>
    refine ⟨fun sl hsl => ?_, fun sp hsp => .inl ?_⟩
    · simp [State.silenced, State.hoist, Hoist.drained] at hsl
    · simpa [State.silenced, State.hoist, Hoist.drained] using hsp
  | _ => exact .same rfl rfl

theorem Change.setpointRule {s t : State} (h : Change s t) (hs : s.serviceRule) (hw : s.windowRule)
    (hsp : s.setpointRule) : t.setpointRule := by
  refine (setpointRule_iff t).mpr fun k => ?_
  obtain ⟨hslot, hlast⟩ := (setpointRule_iff s).mp hsp k
  have hposted {sp : Setpoint} (hp : sp.command = .move →
      (∃ g c, (s.gate g).mode ≠ .off ∧ (s.gate g).context = some c ∧ sp.target = c.target) ∨
        (s.hoist k).lastPosted = some sp) : sp.InRange := by
    intro hmove
    rcases hp hmove with ⟨g, c, hmode, hc, htarget⟩ | hl
    · obtain ⟨h0, _, h1⟩ := window_of_service hs hmode
      obtain ⟨h2, h3⟩ := (inWindow_iff s g c.target).mp (hw g c hc)
      omega
    · exact hlast sp hl hmove
  have hfrom := h.setpoints k
  refine ⟨fun sl hsl => ?_, fun sp hl => ?_⟩
  · rcases hfrom.slot sl hsl with ⟨sl', hsl', e⟩ | hp
    · rw [← e]
      exact hslot sl' hsl'
    · exact hposted hp
  · rcases hfrom.last sp hl with hl' | hp
    · exact hlast sp hl'
    · exact hposted hp

/-- What the targets' rule rests on. -/
structure State.TargetRules (s : State) : Prop where
  gates : ∀ g, (s.gate g).offRule ∧ (s.gate g).motionRule
  service : s.serviceRule
  windows : s.windowRule
  setpoints : s.setpointRule

theorem drained_motionRule (p : Int) {x : Gate} (hx : x.motionRule) : (x.drained p).motionRule := by
  unfold Gate.drained
  split
  · exact hx
  · exact ⟨rfl, rfl, nofun, nofun, rfl⟩

theorem Change.targetRules {s t : State} (h : Change s t) (hs : s.TargetRules) : t.TargetRules where
  gates := fun g => by
    refine ⟨h.offRule (fun k => (hs.gates k).1) g, ?_⟩
    rcases h.gate_of g with hg | hg | ⟨p, hg⟩ | ⟨hg, hf⟩
    · rw [hg]
      exact (hs.gates g).2
    · exact hg.motionRule (hs.gates g).1 (hs.gates g).2
    · rw [hg]
      exact drained_motionRule p (hs.gates g).2
    · exact absurd hg (mode_ne_off_of_motion (hs.gates g).1 (by simp [hf]))
  service := h.service (fun g => (hs.gates g).1) hs.service
  windows := h.window hs.gates hs.service hs.windows
  setpoints := h.setpointRule hs.service hs.windows hs.setpoints

theorem targetsStayInWindow : Sys2Proof.Claim.TargetsStayInWindow := fun _ t hgates hservice ⟨hwindows, hsetpoints⟩ hstep =>
  have h : t.TargetRules := step_keeps_of_changes (P := State.TargetRules) (fun _ _ h => ⟨h.1, h.2, h.3, h.4⟩)
    (fun _ _ hchange => hchange.targetRules)
    (fun a b c u =>
      have hu := hardReset_sound a b c u
      ⟨fun g => ⟨hu.off g, hu.motion g⟩, hu.service, hu.windows, hu.setpoints⟩)
    hstep ⟨hgates, hservice, hwindows, hsetpoints⟩
  ⟨h.windows, h.setpoints⟩

/-- Settles O10: what admits a gate, its record and its drives change only where the gate is out of service or stays
admitted, and a MOVE posted carries the target of a move in hand. -/
theorem serviceAndTargetsKept : Obligations.ServiceAndTargetsKept := ⟨serviceKept, targetsStayInWindow⟩

end Sys2Proof.Machine
end

section
/-!
PROOFS. Posts and stops in summary: what a post leaves posted, and what an event handed to many gates leaves of each
(R115, R120, R140).
-/

namespace Sys2Proof.Machine

/-! ### Orders -/

theorem chooseOrder_eq (n : Nat) (s : State) : (chooseOrder n s).2 = { s with orders := (chooseOrder n s).2.orders } := by
  unfold chooseOrder
  split <;> rfl

theorem drawOrder_eq {α : Type} (n : Nat) (xs : List α) (s : State) :
    (drawOrder n xs s).2 = { s with orders := (drawOrder n xs s).2.orders } := by
  induction n generalizing xs s with
  | zero => rfl
  | succ n ih =>
    unfold drawOrder
    dsimp only
    split
    · rfl
    · split
      · rfl
      · dsimp only
        rw [ih, chooseOrder_eq]

@[simp] theorem drawOrder_hoist {α : Type} (n : Nat) (xs : List α) (s : State) (h : HoistNo) :
    (drawOrder n xs s).2.hoist h = s.hoist h := by
  rw [drawOrder_eq]
  rfl

@[simp] theorem drawOrder_driveOf {α : Type} (n : Nat) (xs : List α) (s : State) (h : HoistNo) :
    (drawOrder n xs s).2.driveOf h = s.driveOf h := by
  rw [drawOrder_eq]
  rfl

/-! ### Posts -/

theorem posted_congr {s t : State} {h : HoistNo} {sp : Setpoint} (hhoist : t.hoist h = s.hoist h)
    (hdrive : t.driveOf h = s.driveOf h) (hs : s.Posted h sp) : t.Posted h sp := by
  unfold State.Posted
  rw [hhoist, hdrive]
  exact hs

theorem occupySlot_posted {h : HoistNo} {sp : Setpoint} {tag : Byte} (s : State) (htag : tag ≠ 0#8) :
    (occupySlot h sp tag s).Posted h sp := by
  unfold occupySlot
  refine ⟨⟨tag, .waiting, htag, .inl rfl, ?_⟩, ?_⟩
  · rw [State.hoist_onHoist_self, State.onHoist_driveOf]
  · rw [State.hoist_onHoist_self]

theorem placePost_posted (h : HoistNo) (sp : Setpoint) (s : State) : (placePost h sp s).Posted h sp := by
  by_cases hp : (s.hoist h).phase = some .waiting
  · rw [placePost_of_waiting sp hp]
    exact (arbitrate_flow _).posted (occupySlot_posted _ (nextTag_ne_zero _))
  · rw [placePost_of_not_waiting sp hp]
    exact (arbitrate_flow _).posted (occupySlot_posted _ (nextTag_ne_zero _))

/-- A setpoint that may be posted is posted (R131). -/
theorem post_posted {h : HoistNo} {sp : Setpoint} {s : State} (may : s.mayPost h sp.command = true) :
    (post h sp s).Posted h sp := by
  unfold post
  rw [if_pos may]
  exact placePost_posted h sp s

/-- A post to another hoist, or of the same setpoint, leaves a posted setpoint posted (R131). -/
theorem post_keeps_posted {h k : HoistNo} {sp sp' : Setpoint} {s : State} (hs : s.Posted h sp) (hsame : k = h → sp' = sp) :
    (post k sp' s).Posted h sp := by
  unfold post
  split
  · by_cases e : k = h
    · rw [hsame e, e]
      exact placePost_posted h sp s
    · have hocc (t : State) (tag : Byte) (ht : t.Posted h sp) : (occupySlot k sp' tag t).Posted h sp :=
        posted_congr (State.hoist_onHoist_ne _ _ _ _ fun e' => e e'.symm) rfl ht
      by_cases hp : (s.hoist k).phase = some .waiting
      · rw [placePost_of_waiting sp' hp]
        exact (arbitrate_flow _).posted (hocc _ _ (posted_congr rfl rfl hs))
      · rw [placePost_of_not_waiting sp' hp]
        exact (arbitrate_flow _).posted (hocc _ _ (posted_congr rfl rfl hs))
  · exact hs

theorem stopSetpoint_congr {x y : Hoist} (h : x.position = y.position) : stopSetpoint x = stopSetpoint y := by
  simp [stopSetpoint, h]

theorem SameSurroundings.stopSetpoint {s t : State} (h : SameSurroundings s t) (k : HoistNo) :
    stopSetpoint (t.hoist k) = stopSetpoint (s.hoist k) := stopSetpoint_congr (h.position k)

theorem postStop_posted (h : HoistNo) (s : State) : (postStop h s).Posted h (stopSetpoint (s.hoist h)) :=
  post_posted (mayPost_stop s h)

/-- A STOP posted stays posted under further STOPs. -/
theorem postStop_keeps_stop {h k : HoistNo} {sp : Setpoint} {s : State} (hs : s.Posted h sp)
    (hsp : sp = stopSetpoint (s.hoist h)) : (postStop k s).Posted h sp :=
  post_keeps_posted hs fun e => by rw [hsp, e]

theorem postStops_keeps_stop {h : HoistNo} {g : GateNo} {sp : Setpoint} {s : State} (hs : s.Posted h sp)
    (hsp : sp = stopSetpoint (s.hoist h)) : (postStops g s).Posted h sp := by
  refine postStop_keeps_stop (postStop_keeps_stop hs hsp) ?_
  rw [(postStop_surroundings _ s).stopSetpoint]
  exact hsp

/-- Both hoists of a gate. -/
theorem hoist_of_gate {h : HoistNo} {g : GateNo} (hg : gateOf h = g) : h = leftHoist g ∨ h = rightHoist g := by
  subst hg
  unfold gateOf leftHoist rightHoist
  rcases Nat.mod_two_eq_zero_or_one h.val with e | e
  · exact .inl (Fin.ext (by simp only; omega))
  · exact .inr (Fin.ext (by simp only; omega))

theorem left_ne_right (g : GateNo) : leftHoist g ≠ rightHoist g := fun e => by
  have := congrArg Fin.val e
  simp [leftHoist, rightHoist] at this

/-- STOP is posted to both hoists (R115). -/
theorem postStops_posted {h : HoistNo} {g : GateNo} (s : State) (hg : gateOf h = g) :
    (postStops g s).Posted h (stopSetpoint (s.hoist h)) := by
  rcases hoist_of_gate hg with rfl | rfl
  · exact postStop_keeps_stop (postStop_posted _ s) ((postStop_surroundings _ s).stopSetpoint _).symm
  · have h := postStop_posted (rightHoist g) (postStop (leftHoist g) s)
    rwa [(postStop_surroundings _ s).stopSetpoint] at h

/-- MOVE is posted to both hoists of a gate in service in RUN (R110). -/
theorem postMoves_posted {h : HoistNo} {g : GateNo} {s : State} (x : Int) (v : Speed) (hg : gateOf h = g)
    (hrun : s.sup.device = .run) (hmode : (s.gate g).mode ≠ .off) :
    (postMoves g x v s).Posted h (moveSetpoint x v) := by
  have may (t : State) (k : HoistNo) (hk : gateOf k = g) (hsup : t.sup = s.sup) (hgate : t.gate g = s.gate g) :
      t.mayPost k (moveSetpoint x v).command = true :=
    (mayPost_move_iff t k).mpr ⟨by rw [hsup, hrun], by rwa [hk, hgate]⟩
  rcases hoist_of_gate hg with rfl | rfl
  · exact post_keeps_posted (post_posted (may s _ (by simp) rfl rfl)) fun _ => rfl
  · exact post_posted (may _ _ (by simp) (post_sup _ _ _) (post_gate _ _ _ _))

/-! ### Stops handed to many gates -/

theorem stopIfMoving_gate (g : GateNo) (s : State) :
    (stopIfMoving g s).gate g = if (s.gate g).inFlight then s.stoppedGate g else s.gate g := by
  unfold stopIfMoving
  split
  · rw [enterStopping_eq, postStops_gate, State.gate_onGate_self]
  · rfl

theorem stoppedGate_congr {s t : State} {g : GateNo} (hstore : t.store = s.store) (hgate : t.gate g = s.gate g) :
    t.stoppedGate g = s.stoppedGate g := by
  simp [State.stoppedGate, hstore, hgate]

theorem stoppedGate_mode (s : State) (g : GateNo) : (s.stoppedGate g).mode = (s.gate g).mode := rfl

theorem stopIfMoving_keeps_stop {h : HoistNo} {g : GateNo} {sp : Setpoint} {s : State} (hs : s.Posted h sp)
    (hsp : sp = stopSetpoint (s.hoist h)) : (stopIfMoving g s).Posted h sp := by
  unfold stopIfMoving
  split
  · rw [enterStopping_eq]
    exact postStops_keeps_stop (posted_congr rfl rfl hs) hsp
  · exact hs

theorem stopIfMoving_posted {h : HoistNo} {g : GateNo} {s : State} (hg : gateOf h = g) (hflight : (s.gate g).inFlight = true) :
    (stopIfMoving g s).Posted h (stopSetpoint (s.hoist h)) := by
  unfold stopIfMoving
  rw [if_pos hflight, enterStopping_eq]
  exact postStops_posted _ hg

/-- Handed to every gate of a list once, a stop concerns those in flight and leaves every other gate (R120). -/
theorem foldl_stopIfMoving {gs : List GateNo} (hgs : gs.Nodup) (s : State) :
    let t := gs.foldl (fun acc g => stopIfMoving g acc) s
    (∀ j, t.gate j = if j ∈ gs ∧ (s.gate j).inFlight = true then s.stoppedGate j else s.gate j) ∧ t.sup = s.sup ∧
      SameSurroundings s t ∧
      (∀ h, gateOf h ∈ gs → (s.gate (gateOf h)).inFlight = true → t.Posted h (stopSetpoint (s.hoist h))) ∧
      ∀ h, s.Posted h (stopSetpoint (s.hoist h)) → t.Posted h (stopSetpoint (s.hoist h)) := by
  induction gs generalizing s with
  | nil => exact ⟨fun j => by simp, rfl, .refl s, fun _ h => absurd h List.not_mem_nil, fun _ h => h⟩
  | cons g gs ih =>
    obtain ⟨hg, hgs⟩ := List.nodup_cons.mp hgs
    obtain ⟨hgate, hsup, hsame, hposted, hkept⟩ := ih hgs (stopIfMoving g s)
    have hstop := stopIfMoving_surroundings g s
    refine ⟨fun j => ?_, hsup.trans (stopIfMoving_sup g s), hstop.trans hsame, fun h hmem hflight => ?_, fun h hp => ?_⟩
    · rw [List.foldl_cons, hgate]
      by_cases e : j = g
      · subst e
        rw [if_neg (fun h => hg h.1), stopIfMoving_gate]
        simp
      · rw [stopIfMoving_gate_ne g j s e, stoppedGate_congr hstop.store (stopIfMoving_gate_ne g j s e)]
        simp [e]
    · rw [← hstop.stopSetpoint]
      by_cases e : gateOf h = g
      · refine hkept h ?_
        rw [hstop.stopSetpoint]
        exact stopIfMoving_posted e (e ▸ hflight)
      · refine hposted h (List.mem_of_ne_of_mem e hmem) ?_
        rwa [stopIfMoving_gate_ne g _ s e]
    · rw [← hstop.stopSetpoint]
      refine hkept h ?_
      rw [hstop.stopSetpoint]
      exact stopIfMoving_keeps_stop hp rfl

theorem mem_movingGates (s : State) (g : GateNo) : g ∈ s.movingGates ↔ (s.gate g).inFlight = true := by
  simp [State.movingGates, mem_allGates]

theorem movingGates_nodup (s : State) : s.movingGates.Nodup := allGates_nodup.filter _

/-- Every gate in flight is stopped, whatever the order, and every other left (R120, R121). -/
theorem stopMovingGates_summary (s : State) :
    let t := stopMovingGates s
    (∀ j, t.gate j = if (s.gate j).inFlight = true then s.stoppedGate j else s.gate j) ∧ t.sup = s.sup ∧
      SameSurroundings s t ∧
      ∀ h, (s.gate (gateOf h)).inFlight = true → t.Posted h (stopSetpoint (s.hoist h)) := by
  have hperm := drawOrder_perm s.movingGates.length s.movingGates s
  have hnodup := hperm.nodup_iff.mpr (movingGates_nodup s)
  have hmem (g : GateNo) : g ∈ (drawOrder s.movingGates.length s.movingGates s).1 ↔ (s.gate g).inFlight = true :=
    hperm.mem_iff.trans (mem_movingGates s g)
  obtain ⟨hgate, hsup, hsame, hposted, _⟩ := foldl_stopIfMoving hnodup (drawOrder s.movingGates.length s.movingGates s).2
  refine ⟨fun j => ?_, ?_, ?_, fun h hflight => ?_⟩
  · refine (hgate j).trans ?_
    rw [stoppedGate_congr (drawOrder_surroundings _ _ s).store (drawOrder_gate _ _ s j), drawOrder_gate]
    simp [hmem]
  · refine hsup.trans ?_
    rw [drawOrder_eq]
  · exact (drawOrder_surroundings _ _ s).trans hsame
  · have h' := hposted h ((hmem _).mpr hflight) (by rwa [drawOrder_gate])
    rwa [drawOrder_hoist] at h'

theorem stoppedGate_not_inFlight (s : State) (g : GateNo) : (s.stoppedGate g).inFlight = false := rfl

theorem not_inFlight_of_stopped {s t : State} {j : GateNo}
    (h : t.gate j = if (s.gate j).inFlight = true then s.stoppedGate j else s.gate j) : (t.gate j).inFlight = false := by
  rw [h]
  split
  · rfl
  next hf => simpa using hf

/-! ### Lockout (R140, R170) -/

theorem lockoutStops_gate (s : State) (g : GateNo) : (lockoutStops s).gate g = s.gate g := by
  have hfold (hs : List HoistNo) (s : State) :
      (hs.foldl (fun acc h =>
        if acc.driveOf h ≠ 0#8 && (acc.gate (gateOf h)).mode ≠ .off then postStop h acc else acc) s).gate g = s.gate g := by
    induction hs generalizing s with
    | nil => rfl
    | cons h hs ih =>
      rw [List.foldl_cons, ih]
      split
      · exact post_gate _ _ s g
      · rfl
  exact hfold allHoists s

theorem lockoutStops_sup (s : State) : (lockoutStops s).sup = s.sup := by
  have hfold (hs : List HoistNo) (s : State) :
      (hs.foldl (fun acc h =>
        if acc.driveOf h ≠ 0#8 && (acc.gate (gateOf h)).mode ≠ .off then postStop h acc else acc) s).sup = s.sup := by
    induction hs generalizing s with
    | nil => rfl
    | cons h hs ih =>
      rw [List.foldl_cons, ih]
      split
      · exact post_sup _ _ s
      · rfl
  exact hfold allHoists s

/-- STOP is posted to every mapped hoist of a gate in service, and no STOP posted is lost (R140). -/
theorem lockoutStops_posted {h : HoistNo} (s : State)
    (hs : (s.driveOf h ≠ 0#8 ∧ (s.gate (gateOf h)).mode ≠ .off) ∨ s.Posted h (stopSetpoint (s.hoist h))) :
    (lockoutStops s).Posted h (stopSetpoint (s.hoist h)) := by
  have hfold (ks : List HoistNo) (s : State)
      (hs : (h ∈ ks ∧ s.driveOf h ≠ 0#8 ∧ (s.gate (gateOf h)).mode ≠ .off) ∨ s.Posted h (stopSetpoint (s.hoist h))) :
      (ks.foldl (fun acc h =>
        if acc.driveOf h ≠ 0#8 && (acc.gate (gateOf h)).mode ≠ .off then postStop h acc else acc) s).Posted h
          (stopSetpoint (s.hoist h)) := by
    induction ks generalizing s with
    | nil => exact hs.resolve_left fun h => absurd h.1 List.not_mem_nil
    | cons k ks ih =>
      rw [List.foldl_cons]
      split
      next hk =>
        have hsame := postStop_surroundings k s
        rw [← hsame.stopSetpoint]
        refine ih _ ?_
        rw [hsame.stopSetpoint]
        rcases hs with ⟨hmem, hmapped⟩ | hp
        · rcases List.mem_cons.mp hmem with rfl | hmem
          · exact .inr (postStop_posted _ s)
          · exact .inl ⟨hmem, by rw [hsame.driveOf]; exact hmapped.1, by rw [postStop, post_gate]; exact hmapped.2⟩
        · exact .inr (postStop_keeps_stop hp rfl)
      next hk =>
        refine ih s (hs.imp (fun ⟨hmem, hmapped⟩ => ⟨?_, hmapped⟩) id)
        refine List.mem_of_ne_of_mem ?_ hmem
        rintro rfl
        exact hk (by simp [hmapped])
  exact hfold allHoists s (hs.imp (fun h => ⟨mem_allHoists _, h⟩) id)

theorem takeLockout_sup (k : EntryTaker) (s : State) : (takeLockout k s).sup = s.sup := by
  cases k with
  | sequencer g => exact stopIfMoving_sup g s
  | hoistInterface => exact lockoutStops_sup s

theorem takeLockout_keeps_stop {h : HoistNo} {sp : Setpoint} {s : State} (k : EntryTaker) (hs : s.Posted h sp)
    (hsp : sp = stopSetpoint (s.hoist h)) : (takeLockout k s).Posted h sp := by
  cases k with
  | sequencer g => exact stopIfMoving_keeps_stop hs hsp
  | hoistInterface =>
    subst hsp
    exact lockoutStops_posted s (.inr hs)

/-- The entry into LOCKOUT, handed to each of a list once (R170). -/
theorem foldl_takeLockout {ts : List EntryTaker} (hts : ts.Nodup) (s : State) :
    let t := ts.foldl (fun acc k => takeLockout k acc) s
    (∀ j, t.gate j = if .sequencer j ∈ ts ∧ (s.gate j).inFlight = true then s.stoppedGate j else s.gate j) ∧
      t.sup = s.sup ∧ SameSurroundings s t ∧
      ∀ h, (.hoistInterface ∈ ts ∧ s.driveOf h ≠ 0#8 ∧ (s.gate (gateOf h)).mode ≠ .off) ∨
        s.Posted h (stopSetpoint (s.hoist h)) → t.Posted h (stopSetpoint (s.hoist h)) := by
  induction ts generalizing s with
  | nil =>
    exact ⟨fun j => by simp, rfl, .refl s, fun _ h => h.resolve_left fun h => absurd h.1 List.not_mem_nil⟩
  | cons k ts ih =>
    obtain ⟨hk, hts⟩ := List.nodup_cons.mp hts
    obtain ⟨hgate, hsup, hsame, hposted⟩ := ih hts (takeLockout k s)
    have hstop := takeLockout_surroundings k s
    have hother (j : GateNo) (hj : k ≠ .sequencer j) : (takeLockout k s).gate j = s.gate j := by
      cases k with
      | sequencer g => exact stopIfMoving_gate_ne g j s fun e => hj (by rw [e])
      | hoistInterface => exact lockoutStops_gate s j
    have hmode (j : GateNo) : ((takeLockout k s).gate j).mode = (s.gate j).mode := by
      by_cases hj : k = .sequencer j
      · subst hj
        unfold takeLockout
        rw [stopIfMoving_gate]
        split <;> rfl
      · rw [hother j hj]
    refine ⟨fun j => ?_, hsup.trans (takeLockout_sup k s), hstop.trans hsame, fun h hs => ?_⟩
    · rw [List.foldl_cons, hgate]
      by_cases hj : k = .sequencer j
      · subst hj
        rw [if_neg (fun h => hk h.1)]
        unfold takeLockout
        rw [stopIfMoving_gate]
        simp
      · rw [hother j hj, stoppedGate_congr hstop.store (hother j hj)]
        have hiff : EntryTaker.sequencer j ∈ k :: ts ↔ EntryTaker.sequencer j ∈ ts := by simp [Ne.symm hj]
        simp only [hiff]
    · rw [← hstop.stopSetpoint]
      refine hposted h ?_
      rw [hstop.stopSetpoint, hstop.driveOf, hmode]
      rcases hs with ⟨hmem, hmapped⟩ | hp
      · rcases List.mem_cons.mp hmem with rfl | hmem
        · exact .inr (lockoutStops_posted s (.inl hmapped))
        · exact .inl ⟨hmem, hmapped⟩
      · exact .inr (takeLockout_keeps_stop k hp rfl)

/-- The entry handed to all that take it: every gate in flight stopped, STOP posted to every mapped hoist of a gate in
service (R140, R170). -/
theorem handLockout_summary (s : State) :
    let t := handLockout s
    (∀ j, t.gate j = if (s.gate j).inFlight = true then s.stoppedGate j else s.gate j) ∧ t.sup = s.sup ∧
      SameSurroundings s t ∧
      ∀ h, (s.driveOf h ≠ 0#8 ∧ (s.gate (gateOf h)).mode ≠ .off) ∨ s.Posted h (stopSetpoint (s.hoist h)) →
        t.Posted h (stopSetpoint (s.hoist h)) := by
  unfold handLockout
  dsimp only
  generalize htakers : s.movingGates.map EntryTaker.sequencer ++ [EntryTaker.hoistInterface] = takers
  have hperm := drawOrder_perm takers.length takers s
  have htakersNodup : takers.Nodup := by
    rw [← htakers, List.nodup_append]
    refine ⟨(movingGates_nodup s).map fun a b h => EntryTaker.sequencer.inj h, List.nodup_singleton _, ?_⟩
    intro a ha b hb
    rw [List.mem_singleton.mp hb]
    obtain ⟨g, _, rfl⟩ := List.mem_map.mp ha
    exact nofun
  have hmem (j : GateNo) : .sequencer j ∈ (drawOrder takers.length takers s).1 ↔ (s.gate j).inFlight = true := by
    rw [hperm.mem_iff, ← htakers, ← mem_movingGates]
    simp
  have hinterface : .hoistInterface ∈ (drawOrder takers.length takers s).1 := by
    rw [hperm.mem_iff, ← htakers]
    simp
  obtain ⟨hgate, hsup, hsame, hposted⟩ :=
    foldl_takeLockout (hperm.nodup_iff.mpr htakersNodup) (drawOrder takers.length takers s).2
  refine ⟨fun j => ?_, ?_, (drawOrder_surroundings _ _ s).trans hsame, fun h hs => ?_⟩
  · refine (hgate j).trans ?_
    rw [stoppedGate_congr (drawOrder_surroundings _ _ s).store (drawOrder_gate _ _ s j), drawOrder_gate]
    simp [hmem]
  · refine hsup.trans ?_
    rw [drawOrder_eq]
  · have h' := hposted h (by
      rw [drawOrder_driveOf, drawOrder_gate, drawOrder_hoist]
      exact hs.imp (fun h => ⟨hinterface, h⟩) (posted_congr (drawOrder_hoist _ _ s h) (drawOrder_driveOf _ _ s h)))
    rwa [drawOrder_hoist] at h'

end Sys2Proof.Machine
end

section
/-!
PROOFS. No gate moves held or outside RUN, and in LOCKOUT every mapped hoist in service is left with a STOP (R108, R115,
R120, R121, R140).
-/

namespace Sys2Proof.Machine

/-- Hoist `h` is left with a STOP: no MOVE in its slot, and STOP its last-posted setpoint (R140). -/
def State.StopHeld (s : State) (h : HoistNo) : Prop :=
  (∀ sl, (s.hoist h).slot = some sl → sl.setpoint.command = .stop) ∧
    ∃ sp, (s.hoist h).lastPosted = some sp ∧ sp.command = .stop

/-- The hoists of gates in service are mapped, and hold STOPs in LOCKOUT (R86, R140). -/
def State.Stopped (s : State) : Prop :=
  (∀ h, (s.gate (gateOf h)).mode ≠ .off → s.driveOf h ≠ 0#8) ∧ s.lockoutStopRule

theorem lockoutStopRule_iff (s : State) :
    s.lockoutStopRule ↔ (s.sup.device = .lockout → ∀ h, (s.gate (gateOf h)).mode ≠ .off → s.StopHeld h) := Iff.rfl

theorem lockoutStopRule_of_run {s : State} (h : s.sup.device ≠ .lockout) : s.lockoutStopRule := fun e => absurd e h

theorem State.Posted.stopHeld {s : State} {h : HoistNo} {sp : Setpoint} (hp : s.Posted h sp) (hsp : sp.command = .stop) :
    s.StopHeld h := by
  obtain ⟨⟨tag, phase, _, _, hslot⟩, hlast⟩ := hp
  refine ⟨fun sl hsl => ?_, sp, hlast, hsp⟩
  rw [← Option.some.inj (hslot.symm.trans hsl)]
  exact hsp

theorem stopHeld_of_hoist {s t : State} {h : HoistNo}
    (hslot : ∀ sl, (t.hoist h).slot = some sl → ∃ sl', (s.hoist h).slot = some sl' ∧ sl'.setpoint = sl.setpoint)
    (hlast : (t.hoist h).lastPosted = (s.hoist h).lastPosted) (hs : s.StopHeld h) : t.StopHeld h := by
  refine ⟨fun sl hsl => ?_, by rw [hlast]; exact hs.2⟩
  obtain ⟨sl', hsl', e⟩ := hslot sl hsl
  rw [← e]
  exact hs.1 sl' hsl'

theorem stopHeld_congr {s t : State} {h : HoistNo} (e : t.hoist h = s.hoist h) (hs : s.StopHeld h) : t.StopHeld h := by
  unfold State.StopHeld
  rw [e]
  exact hs

theorem stopHeld_onHoist {s : State} {k h : HoistNo} {φ : Hoist → Hoist}
    (hslot : ∀ sl, (φ (s.hoist k)).slot = some sl → ∃ sl', (s.hoist k).slot = some sl' ∧ sl'.setpoint = sl.setpoint)
    (hlast : (φ (s.hoist k)).lastPosted = (s.hoist k).lastPosted) (hs : s.StopHeld h) : (s.onHoist k φ).StopHeld h := by
  by_cases e : h = k
  · subst e
    refine stopHeld_of_hoist ?_ ?_ hs <;> rw [State.hoist_onHoist_self]
    · exact hslot
    · exact hlast
  · exact stopHeld_congr (State.hoist_onHoist_ne s k φ h e) hs

/-! ### Calm changes -/

/-- Between `s` and `t` no gate set out or entered service, no device state, line or drive changed, and no STOP was
lost. -/
structure Calm (s t : State) : Prop where
  flight : ∀ g, (t.gate g).inFlight = true → (s.gate g).inFlight = true
  service : ∀ g, (t.gate g).mode ≠ .off → (s.gate g).mode ≠ .off
  device : t.sup.device = s.sup.device
  holdLine : t.sup.holdLine = s.sup.holdLine
  drive : ∀ h, t.driveOf h = s.driveOf h
  stops : ∀ h, s.StopHeld h → t.StopHeld h

theorem Calm.of_gates {s t : State} (hgate : ∀ g, t.gate g = s.gate g) (hsup : t.sup = s.sup)
    (hdrive : ∀ h, t.driveOf h = s.driveOf h) (hstops : ∀ h, s.StopHeld h → t.StopHeld h) : Calm s t where
  flight := fun g => by rw [hgate]; exact id
  service := fun g => by rw [hgate]; exact id
  device := by rw [hsup]
  holdLine := by rw [hsup]
  drive := hdrive
  stops := hstops

theorem Calm.refl (s : State) : Calm s s := .of_gates (fun _ => rfl) rfl (fun _ => rfl) fun _ => id

theorem Calm.trans {s t u : State} (h : Calm s t) (k : Calm t u) : Calm s u where
  flight := fun g hg => h.flight g (k.flight g hg)
  service := fun g hg => h.service g (k.service g hg)
  device := k.device.trans h.device
  holdLine := k.holdLine.trans h.holdLine
  drive := fun j => (k.drive j).trans (h.drive j)
  stops := fun j hj => k.stops j (h.stops j hj)

theorem Calm.rest {s t : State} (h : Calm s t) (hs : s.restRule) : t.restRule := fun g hg => by
  rw [h.device, h.holdLine]
  exact hs g (h.flight g hg)

theorem Calm.stopped {s t : State} (h : Calm s t) (hs : s.Stopped) : t.Stopped :=
  ⟨fun k hk => by rw [h.drive]; exact hs.1 k (h.service _ hk),
    fun hd k hk => h.stops k (hs.2 (by rw [← h.device, hd]) k (h.service _ hk))⟩

theorem Flow.calm {s t : State} (h : Flow s t) : Calm s t :=
  .of_gates h.gate h.sup h.traffic.driveOf fun k => stopHeld_of_hoist
    (fun sl hsl => by
      rcases h.hoists k with e | ⟨sl', hsl', e⟩
      · exact ⟨sl, by rw [← e]; exact hsl, rfl⟩
      · rw [e] at hsl
        exact ⟨sl', hsl', by rw [← Option.some.inj hsl]⟩)
    (Hoist.lastPosted_of_exceptPhase (h.hoists k).exceptPhase)

theorem calm_of_hoists {s t : State} (hgate : ∀ g, t.gate g = s.gate g) (hsup : t.sup = s.sup)
    (hdrive : ∀ h, t.driveOf h = s.driveOf h) (hhoist : ∀ h, t.hoist h = s.hoist h) : Calm s t :=
  .of_gates hgate hsup hdrive fun h => stopHeld_congr (hhoist h)

theorem calm_onHoist {s : State} (k : HoistNo) {φ : Hoist → Hoist}
    (hslot : ∀ sl, (φ (s.hoist k)).slot = some sl → ∃ sl', (s.hoist k).slot = some sl' ∧ sl'.setpoint = sl.setpoint)
    (hlast : (φ (s.hoist k)).lastPosted = (s.hoist k).lastPosted) : Calm s (s.onHoist k φ) :=
  .of_gates (fun _ => rfl) rfl (fun _ => rfl) fun _ => stopHeld_onHoist hslot hlast

/-- A change of a hoist that keeps its slot and its last-posted setpoint. -/
theorem calm_onHoist_of_same {s : State} (k : HoistNo) {φ : Hoist → Hoist} (hslot : (φ (s.hoist k)).slot = (s.hoist k).slot)
    (hlast : (φ (s.hoist k)).lastPosted = (s.hoist k).lastPosted) : Calm s (s.onHoist k φ) :=
  calm_onHoist k (fun sl hsl => ⟨sl, by rw [← hslot]; exact hsl, rfl⟩) hlast

theorem calm_onPost (s : State) (φ : PostUnit → PostUnit) : Calm s (s.onPost φ) :=
  calm_of_hoists (fun _ => rfl) rfl (fun _ => rfl) fun _ => rfl

theorem emptySlot_calm (h : HoistNo) (s : State) : Calm s (emptySlot h s) := by
  unfold emptySlot
  exact ((calm_onHoist (φ := fun x => { x with slot := none }) h nofun rfl).trans (calm_onPost _ _)).trans
    (settleRotation_flow _).calm

theorem placePost_gate (h : HoistNo) (sp : Setpoint) (s : State) (g : GateNo) : (placePost h sp s).gate g = s.gate g := by
  by_cases hp : (s.hoist h).phase = some .waiting
  · rw [placePost_of_waiting sp hp]
    exact (arbitrate_flow _).gate g
  · rw [placePost_of_not_waiting sp hp]
    exact (arbitrate_flow _).gate g

theorem placePost_sup (h : HoistNo) (sp : Setpoint) (s : State) : (placePost h sp s).sup = s.sup := by
  by_cases hp : (s.hoist h).phase = some .waiting
  · rw [placePost_of_waiting sp hp]
    exact (arbitrate_flow _).sup
  · rw [placePost_of_not_waiting sp hp]
    exact (arbitrate_flow _).sup

/-- A post leaves every other hoist its STOP. -/
theorem placePost_stopHeld {h k : HoistNo} {sp : Setpoint} {s : State} (hs : s.StopHeld k)
    (hsp : k = h → sp.command = .stop) : (placePost h sp s).StopHeld k := by
  by_cases e : k = h
  · subst e
    exact (placePost_posted k sp s).stopHeld (hsp rfl)
  · have hocc (t : State) (tag : Byte) (ht : t.StopHeld k) : (occupySlot h sp tag t).StopHeld k :=
      stopHeld_congr (State.hoist_onHoist_ne _ _ _ _ e) ht
    by_cases hp : (s.hoist h).phase = some .waiting
    · rw [placePost_of_waiting sp hp]
      exact (arbitrate_flow _).calm.stops k (hocc _ _ (stopHeld_congr rfl hs))
    · rw [placePost_of_not_waiting sp hp]
      exact (arbitrate_flow _).calm.stops k (hocc _ _ (stopHeld_congr rfl hs))

/-! ### Work -/

/-- A gate that a step leaves in flight was in flight, or set out in RUN with the HOLD line negated (R108). -/
theorem GateStep.flight {s : State} {g : GateNo} {y : Gate} (h : GateStep s g y) (hy : y.inFlight = true) :
    (s.gate g).inFlight = true ∨ (s.sup.device = .run ∧ s.sup.holdLine = false) := by
  cases h with
  | start c q b engaged ready => exact ready.imp_right fun ⟨_, h⟩ => h
  | resume c faulted run free => exact .inr ⟨run, free⟩
  | trim h moving => exact .inl (by simp [Gate.inFlight, moving])
  | release trim => exact .inl (by simp [Gate.inFlight, trim])
  | complete => cases hy
  | stop => cases hy
  | stopEnd => cases hy
  | fault => cases hy
  | faultEnd => cases hy
  | clear => cases hy
  | _ => exact .inl hy

/-- A gate enters service in RUN alone (R89). -/
theorem GateStep.serviceInRun {s : State} {g : GateNo} {y : Gate} (h : GateStep s g y) (hy : y.mode ≠ .off)
    (hrun : s.sup.device ≠ .run) : (s.gate g).mode ≠ .off := by
  cases h with
  | off => exact absurd rfl hy
  | mode m q pending tide run => exact absurd run hrun
  | clear standing run mode => exact mode
  | _ => exact hy

theorem Work.gate_of {G : GateNo → Prop} {s t : State} (h : Work G s t) (g : GateNo) :
    t.gate g = s.gate g ∨ GateStep s g (t.gate g) := by
  cases h with
  | arbitrate => exact .inl ((arbitrate_flow s).gate g)
  | order n => exact .inl (chooseOrder_gate n s g)
  | post h sp => exact .inl (placePost_gate h sp s g)
  | empty h => exact .inl (by unfold emptySlot; rw [(settleRotation_flow _).gate]; rfl)
  | drain => exact .inl (by unfold testDrain; split <;> rfl)
  | gate k φ _ hφ =>
    by_cases e : g = k
    · subst e
      rw [State.gate_onGate_self]
      exact .inr hφ
    · exact .inl (State.gate_onGate_ne s k φ g e)
  | _ => exact .inl rfl

theorem Work.rest {G : GateNo → Prop} {s t : State} (h : Work G s t) (hs : s.restRule) : t.restRule := fun g hg => by
  rw [h.within.device, h.within.holdLine]
  rcases h.gate_of g with e | hstep
  · exact hs g (by rw [← e]; exact hg)
  · exact (hstep.flight hg).elim (hs g) id

theorem Work.stopHeld {G : GateNo → Prop} {s t : State} (h : Work G s t) (hrun : s.sup.device ≠ .run) (k : HoistNo)
    (hs : s.StopHeld k) : t.StopHeld k := by
  cases h with
  | arbitrate => exact (arbitrate_flow s).calm.stops k hs
  | order n => exact stopHeld_congr (by unfold chooseOrder; split <;> rfl) hs
  | post h sp _ may =>
    refine placePost_stopHeld hs fun _ => ?_
    cases hc : sp.command with
    | stop => rfl
    | move => exact absurd ((mayPost_move_iff s h).mp (hc ▸ may)).1 hrun
  | empty h => exact (emptySlot_calm h s).stops k hs
  | timers h φ _ hφ => exact (calm_onHoist_of_same h (by rw [hφ]) (by rw [hφ])).stops k hs
  | drain => exact stopHeld_congr (by unfold testDrain; split <;> rfl) hs
  | _ => exact stopHeld_congr rfl hs

theorem GateStep.mapped {s : State} {g : GateNo} {y : Gate} (h : GateStep s g y) (hy : y.mode ≠ .off)
    (hs : ∀ h, (s.gate (gateOf h)).mode ≠ .off → s.driveOf h ≠ 0#8) (k : HoistNo) (hk : gateOf k = g) : s.driveOf k ≠ 0#8 := by
  rcases h.service hy with hmode | ⟨_, hready⟩
  · exact hs k (by rwa [hk])
  · exact ((hoistsReady_iff s g).mp hready k (hoist_of_gate hk)).1

theorem Work.stopped {G : GateNo → Prop} {s t : State} (h : Work G s t) (hs : s.Stopped) : t.Stopped := by
  have hdrive := h.within.surroundings.driveOf
  refine ⟨fun k hk => ?_, fun hd k hk => ?_⟩
  · rw [hdrive]
    rcases h.gate_of (gateOf k) with e | hstep
    · exact hs.1 k (by rw [← e]; exact hk)
    · exact hstep.mapped hk hs.1 k rfl
  · rw [h.within.device] at hd
    have hrun : s.sup.device ≠ .run := by rw [hd]; nofun
    refine h.stopHeld hrun k (hs.2 hd k ?_)
    rcases h.gate_of (gateOf k) with e | hstep
    · rwa [← e]
    · exact hstep.serviceInRun hk hrun

theorem Works.rest {G : GateNo → Prop} {s t : State} (h : Works G s t) (hs : s.restRule) : t.restRule :=
  h.keeps (fun _ _ h => h.rest) hs

theorem Works.stopped {G : GateNo → Prop} {s t : State} (h : Works G s t) (hs : s.Stopped) : t.Stopped :=
  h.keeps (fun _ _ h => h.stopped) hs

theorem restRule_of_none {s : State} (h : ∀ g, (s.gate g).inFlight = false) : s.restRule := fun g hg => by
  rw [h g] at hg
  cases hg

/-! ### The lockout -/

theorem enterLockout_rest (c : LockoutCause) (g : GateNo) (s : State) : (enterLockout c g s).restRule := by
  unfold enterLockout
  exact restRule_of_none fun j => not_inFlight_of_stopped ((handLockout_summary _).1 j)

theorem stopped_mode {s t : State} {g : GateNo}
    (h : t.gate g = if (s.gate g).inFlight = true then s.stoppedGate g else s.gate g) : (t.gate g).mode = (s.gate g).mode := by
  rw [h]
  split <;> rfl

theorem enterLockout_stopped (c : LockoutCause) (g : GateNo) {s : State} (hs : s.Stopped) : (enterLockout c g s).Stopped := by
  unfold enterLockout
  dsimp only
  generalize hu : notify (lockoutPayload c g) (s.onSup fun x =>
    { x with device := .lockout, lockoutCause := c, lockoutGate := some g, lockoutLine := true }) = u
  have hnotify := hu ▸ notify_notices (lockoutPayload c g) (s.onSup fun x =>
    { x with device := .lockout, lockoutCause := c, lockoutGate := some g, lockoutLine := true })
  have hmapped (h : HoistNo) (hh : (u.gate (gateOf h)).mode ≠ .off) : u.driveOf h ≠ 0#8 := by
    rw [hnotify.gate] at hh
    rw [hnotify.surroundings.driveOf]
    exact hs.1 h hh
  obtain ⟨hgate, _, hsame, hposted⟩ := handLockout_summary u
  refine ⟨fun h hh => ?_, fun _ h hh => ?_⟩ <;> rw [stopped_mode (hgate _)] at hh
  · rw [hsame.driveOf]
    exact hmapped h hh
  · exact (hposted h (.inl ⟨hmapped h hh, hh⟩)).stopHeld rfl

/-! ### Events -/

theorem applyStatus_calm (h : HoistNo) (d : StatusData) (s : State) : Calm s (applyStatus h d s) := by
  unfold applyStatus
  exact calm_onHoist_of_same h rfl rfl

theorem Event.rest {s t : State} (h : Event s t) (hs : s.restRule) : t.restRule := by
  cases h with
  | work h => exact h.rest hs
  | lockout c g => exact enterLockout_rest c g s
  | _ => exact hs

theorem Event.stopped {s t : State} (h : Event s t) (hs : s.Stopped) : t.Stopped := by
  cases h with
  | work h => exact h.stopped hs
  | lockout c g => exact enterLockout_stopped c g hs
  | status h d => exact (applyStatus_calm h d s).stopped hs
  | load h q => exact (calm_onHoist_of_same h rfl rfl).stopped hs
  | _ => exact hs

theorem Events.rest {s t : State} (h : Events s t) (hs : s.restRule) : t.restRule :=
  h.relates (R := fun s t => s.restRule → t.restRule) (fun _ => id) (fun _ _ _ h k => k ∘ h) (fun _ _ h => h.rest) hs

theorem Events.stopped {s t : State} (h : Events s t) (hs : s.Stopped) : t.Stopped :=
  h.relates (R := fun s t => s.Stopped → t.Stopped) (fun _ => id) (fun _ _ _ h k => k ∘ h) (fun _ _ h => h.stopped) hs

/-! ### The drain -/

theorem enterDrain_rest (s : State) : (enterDrain s).restRule := by
  unfold enterDrain
  refine restRule_of_none fun j => ?_
  have h := not_inFlight_of_stopped ((stopMovingGates_summary (s.onSup fun x =>
    { x with device := .drain, lockoutLine := false, drainTimer := some (drainLimit s.store.control),
             drainFulfilled := false })).1 j)
  dsimp only
  unfold testDrain
  split <;> exact h

theorem completeDrain_device (yes : Bool) (s : State) : (completeDrain yes s).sup.device = .run := by
  unfold completeDrain
  exact (notify_works (G := fun _ => True) _ _).within.device

theorem completeDrain_gate (yes : Bool) (s : State) (g : GateNo) :
    (completeDrain yes s).gate g = Gate.drained (s.gatePosition g) (s.gate g) := by
  unfold completeDrain
  dsimp only
  rw [(notify_notices _ _).gate, drainHoists_eq, drainGates_eq]
  simp [State.gate, drainBlocks, State.gatePosition, State.leftOf, State.rightOf, State.hoist, Hoist.drained]

theorem completeDrain_driveOf (yes : Bool) (s : State) (h : HoistNo) : (completeDrain yes s).driveOf h = s.driveOf h := by
  unfold completeDrain
  dsimp only
  rw [(notify_notices _ _).surroundings.driveOf, drainHoists_eq, drainGates_eq]
  rfl

theorem drained_inFlight {p : Int} {x : Gate} (h : (x.drained p).inFlight = true) : x.inFlight = true := by
  unfold Gate.drained at h
  split at h
  · exact h
  · cases h

theorem completeDrain_rest (yes : Bool) {s : State} (hdevice : s.sup.device = .drain) (hs : s.restRule) :
    (completeDrain yes s).restRule := by
  refine restRule_of_none fun g => ?_
  rw [completeDrain_gate, Bool.eq_false_iff]
  intro hg
  have hrun := (hs g (drained_inFlight hg)).1
  rw [hdevice] at hrun
  cases hrun

theorem completeDrain_stopped (yes : Bool) {s : State} (hs : s.Stopped) : (completeDrain yes s).Stopped := by
  refine ⟨fun h hh => ?_, lockoutStopRule_of_run (by rw [completeDrain_device]; nofun)⟩
  rw [completeDrain_gate] at hh
  rw [completeDrain_driveOf]
  exact hs.1 h (drained_mode hh)

/-! ### Deeds -/

theorem joinTransit_calm (f : Frame) (s : State) : Calm s (joinTransit f s) := by
  have hring (φ : RingInterface → RingInterface) : Calm s (s.onRing φ) :=
    calm_of_hoists (fun _ => rfl) rfl (fun _ => rfl) fun _ => rfl
  unfold joinTransit
  split
  · exact (hring _).trans (arbitrate_flow _).calm
  · exact hring _

theorem rejoin_calm {h : HoistNo} {sl : Slot} (n : Nat) {s : State} (hsl : (s.hoist h).slot = some sl) :
    Calm s (rejoin h { sl with tries := n } s) := by
  unfold rejoin
  refine ((calm_onHoist h (fun sl' hsl' => ⟨sl, hsl, ?_⟩) rfl).trans
    (calm_onPost _ _)).trans (arbitrate_flow _).calm
  rw [← Option.some.inj hsl']

theorem setLength_calm (i : ImageName) (n : Nat) (s : State) : Calm s (setLength i n s) := by
  unfold setLength
  cases i <;> exact calm_of_hoists (fun _ => rfl) rfl (fun _ => rfl) fun _ => rfl

theorem activateImage_calm (i : ImageName) (s : State) : Calm s (activateImage i s) := by
  unfold activateImage
  cases i <;> exact calm_of_hoists (fun _ => rfl) rfl (fun _ => rfl) fun _ => rfl

theorem clearGroup_calm (k : FlagGroup) (s : State) : Calm s (clearGroup k s) := by
  have hplain {t : State} (hg : t.gates = s.gates) (hs : t.sup = s.sup) (hst : t.store = s.store) (hh : t.hoists = s.hoists) :
      Calm s t :=
    calm_of_hoists (fun _ => by simp [State.gate, hg]) hs (fun _ => by simp [State.driveOf, hst])
      fun _ => by simp [State.hoist, hh]
  have hflag (g : GateNo) : Calm s (s.onGate g fun x => { x with rangeFlag := false }) := by
    refine ⟨fun j => ?_, fun j => ?_, rfl, rfl, fun _ => rfl, fun _ => stopHeld_congr rfl⟩ <;> rw [State.gate_onGate]
    · split
      next e => rw [e]; exact id
      next => exact id
    · split
      next e => rw [e]; exact id
      next => exact id
  unfold clearGroup
  split
  · exact hplain rfl rfl rfl rfl
  · exact hplain rfl rfl rfl rfl
  · exact hplain rfl rfl rfl rfl
  next g => exact ((hflag g).trans (calm_onHoist_of_same _ rfl rfl)).trans (calm_onHoist_of_same _ rfl rfl)
  · exact hplain rfl rfl rfl rfl
  · exact hplain rfl rfl rfl rfl
  · exact hplain rfl rfl rfl rfl
  · have hfold (hs : List HoistNo) (u : State) : Calm u (hs.foldl (fun acc h => acc.onHoist h clearLoadFlags) u) := by
      induction hs generalizing u with
      | nil => exact .refl u
      | cons h hs ih => exact (calm_onHoist_of_same (φ := clearLoadFlags) h rfl rfl).trans (ih _)
    exact hfold _ s

theorem writeTable_gate (o : WriteRows) (s : State) (g : GateNo) (h : o.table ≠ .control) :
    (writeTable o s).gate g = s.gate g := by
  simp only [State.gate, (writeTable_storeOnly s h).gates]

/-- A write keeps gates, lines and device; what it leaves of a gate's hoists is mapped (R86). -/
theorem write_rest {o : WriteRows} {s : State} (hs : s.restRule) : (writeTable o s).restRule := by
  by_cases h : o.table = .control
  · rw [writeTable_control s h]
    exact (writeControl_events o s).rest hs
  · intro g hg
    rw [writeTable_gate o s g h] at hg
    rw [(writeTable_storeOnly s h).sup]
    exact hs g hg

theorem write_stopped {o : WriteRows} {s : State} (hrun : s.sup.device = .run) (check : writeCheck o s = .done)
    (hs : s.Stopped) : (writeTable o s).Stopped := by
  by_cases h : o.table = .control
  · rw [writeTable_control s h]
    exact (writeControl_events o s).stopped hs
  · have hsup := (writeTable_storeOnly s h).sup
    refine ⟨fun k hk => ?_, lockoutStopRule_of_run (by rw [hsup, hrun]; nofun)⟩
    rw [writeTable_gate o s _ h] at hk
    rw [((Change.write s o h check).hoist_ready k hk).1]
    exact hs.1 k hk

theorem Deed.rest {s t : State} (h : Deed s t) (hs : s.restRule) : t.restRule := by
  cases h with
  | event h => exact h.rest hs
  | intake f => unfold admitRequest; split_ifs <;> exact hs
  | join f => exact (joinTransit_calm f s).rest hs
  | rejoin h sl n slot => exact (rejoin_calm n slot).rest hs
  | write o => exact write_rest hs
  | length i n => exact (setLength_calm i n s).rest hs
  | activate i => exact (activateImage_calm i s).rest hs
  | clear k => exact (clearGroup_calm k s).rest hs
  | holdAssert negated =>
    unfold holdAsserted
    rw [if_neg (by simp [negated])]
    exact restRule_of_none fun g => not_inFlight_of_stopped ((stopMovingGates_summary _).1 g)
  | holdRelease asserted =>
    refine restRule_of_none fun g => Bool.eq_false_iff.mpr fun hg => ?_
    have hfree := (hs g hg).2
    rw [asserted] at hfree
    cases hfree
  | drainEntry => exact enterDrain_rest s
  | drainEnd yes device => exact completeDrain_rest yes device hs
  | _ => exact hs

theorem Deed.stopped {s t : State} (h : Deed s t) (hs : s.Stopped) : t.Stopped := by
  cases h with
  | event h => exact h.stopped hs
  | intake f => unfold admitRequest; split_ifs <;> exact hs
  | join f => exact (joinTransit_calm f s).stopped hs
  | retry h b => exact (calm_onHoist_of_same h rfl rfl).stopped hs
  | rejoin h sl n slot => exact (rejoin_calm n slot).stopped hs
  | write o run check => exact write_stopped run check hs
  | length i n => exact (setLength_calm i n s).stopped hs
  | activate i => exact (activateImage_calm i s).stopped hs
  | clear k => exact (clearGroup_calm k s).stopped hs
  | holdAssert negated =>
    unfold holdAsserted
    rw [if_neg (by simp [negated])]
    exact (stopMovingGates_works _).stopped hs
  | drainEntry =>
    exact (enterDrain_works s).stopped ⟨hs.1, lockoutStopRule_of_run nofun⟩
  | drainEnd yes => exact completeDrain_stopped yes hs
  | _ => exact hs

theorem Deeds.rest {s t : State} (h : Deeds s t) (hs : s.restRule) : t.restRule := h.keeps (fun _ _ h => h.rest) hs

theorem Deeds.stopped {s t : State} (h : Deeds s t) (hs : s.Stopped) : t.Stopped := h.keeps (fun _ _ h => h.stopped) hs

/-! ### Commands -/

theorem finished_calm (s : State) : Calm s (settle (endExecution s)) :=
  ((endExecution_flow s).trans (settle_flow _)).calm

theorem transmissionCompletes_calm (s : State) : Calm s (transmissionCompletes s) := by
  have hidle : Calm s (ringOutIdle s) := calm_of_hoists (fun _ => rfl) rfl (fun _ => rfl) fun _ => rfl
  unfold transmissionCompletes
  split
  · exact .refl s
  · refine (hidle.trans ?_).trans (arbitrate_flow _).calm
    unfold postSent
    split
    next sl hsl =>
      split
      next => exact calm_onHoist _ (fun sl' h => ⟨sl, hsl, by rw [← Option.some.inj h]⟩) rfl
      next => exact .refl _
    next => exact .refl _
  all_goals exact hidle.trans (arbitrate_flow _).calm

theorem clearGate_rest {g : GateNo} {s : State} (hs : s.restRule) : (clearGate g s).restRule := by
  rw [clearGate_eq]
  intro j hj
  rw [postStops_gate] at hj
  rw [postStops_sup]
  by_cases e : j = g
  · subst e
    rw [State.gate_onGate_self] at hj
    cases hj
  · rw [State.gate_onGate_ne _ _ _ _ e] at hj
    exact hs j hj

theorem Run.rest {s t : State} (h : Run s t) (hs : s.restRule) : t.restRule := by
  cases h with
  | unsettled h => exact h.rest hs
  | settled h => exact (settle_flow _).calm.rest (h.rest hs)
  | replied f a _ h => exact (finished_calm _).rest (h.rest ((placeReply_flow f a s).calm.rest hs))
  | revived f a g => exact (finished_calm _).rest (clearGate_rest ((placeReply_flow f a s).calm.rest hs))
  | discarded => exact (finished_calm _).rest ((releaseReservation_flow s).calm.rest hs)
  | sent => exact (settle_flow _).calm.rest ((transmissionCompletes_calm s).rest hs)
  | reset a b c => exact (hardReset_sound a b c s).rest

theorem Run.lockoutStop {s t : State} (h : Run s t) (hs : s.Stopped) : t.lockoutStopRule := by
  cases h with
  | unsettled h => exact (h.stopped hs).2
  | settled h => exact ((settle_flow _).calm.stopped (h.stopped hs)).2
  | replied f a _ h => exact ((finished_calm _).stopped (h.stopped ((placeReply_flow f a s).calm.stopped hs))).2
  | revived f a g _ run =>
    refine lockoutStopRule_of_run ?_
    rw [(finished_calm _).device, clearGate_eq, postStops_sup, State.onGate_sup, (placeReply_flow f a s).sup, run]
    nofun
  | discarded => exact ((finished_calm _).stopped ((releaseReservation_flow s).calm.stopped hs)).2
  | sent => exact ((settle_flow _).calm.stopped ((transmissionCompletes_calm s).stopped hs)).2
  | reset a b c => exact (hardReset_sound a b c s).lockoutStops

theorem noMotionHeldOrLocked : Sys2Proof.Claim.NoMotionHeldOrLocked := fun _ _ hs hstep =>
  step_keeps (P := State.restRule) (fun _ _ h => h) (fun _ _ h => h.rest) hstep hs

theorem stopped_of_service {s : State} (hservice : s.serviceRule) (hs : s.lockoutStopRule) : s.Stopped :=
  ⟨fun h hmode => (((hoistsReady_iff s _).mp (hservice.2 _ hmode).2) h (hoist_of_gate rfl)).1, hs⟩

theorem lockoutHoldsStops : Sys2Proof.Claim.LockoutHoldsStops := fun s t hservice hs hstep => by
  have hstopped := stopped_of_service hservice hs
  unfold step at hstep
  split at hstep
  · obtain rfl := Host.Outcome.next.inj hstep
    exact hs
  · exact (exec_run hstep).lockoutStop ⟨hstopped.1, hstopped.2⟩

/-- Settles O11: a gate sets out in RUN with the HOLD line negated alone, and whatever ends either stops every gate; the
entry into LOCKOUT posts STOP to every hoist in service, and no MOVE is posted there. -/
theorem motionNeedsRunAndRelease : Obligations.MotionNeedsRunAndRelease := ⟨noMotionHeldOrLocked, lockoutHoldsStops⟩

end Sys2Proof.Machine
end

section
/-!
PROOFS. Frames on the ring: read back as laid out, counted, ignored, and requests at their intake (R2, R5 to R10, R179,
R180).
-/

namespace Sys2Proof.Machine

/-! ### Frames as words -/

/-- The two bytes of a word, laid out again, are the word (11.1). -/
theorem pack_addresses_field (w : Word) : pack [((BitVec.ofNat 8 (field w 8 8)).toNat, 8), ((BitVec.ofNat 8 (field w 0 8)).toNat, 0)] = w := by
  apply BitVec.eq_of_toNat_eq
  rw [pack_addresses_toNat]
  have hw : w.toNat < 65536 := w.isLt
  simp only [BitVec.toNat_ofNat, field]
  omega

theorem pack_header_field (w : Word) :
    pack [((BitVec.ofNat 4 (field w 12 4)).toNat, 12), (field w 8 4, 8), ((BitVec.ofNat 8 (field w 0 8)).toNat, 0)] = w := by
  apply BitVec.eq_of_toNat_eq
  have hw : w.toNat < 65536 := w.isLt
  have hlen : field w 8 4 ≤ 15 := by
    unfold field
    omega
  rw [pack_header_toNat _ _ _ hlen]
  simp only [BitVec.toNat_ofNat, field]
  omega

theorem take_append_getD {l : List Word} {n : Nat} (h : l.length = n + 1) : l.take n ++ [l.getD n 0#16] = l := by
  have hn : n < l.length := by omega
  rw [List.getD_eq_getElem _ _ hn, ← List.take_succ_eq_append_getElem hn, ← h, List.take_length]

/-- A frame read is word for word what was received (R2, R5). -/
theorem words_of_parseFrame {ws : List Word} {n : Nat} {f : Frame} (h : parseFrame ws n = some f) : f.words = ws ∧ n = 0 := by
  unfold parseFrame at h
  split at h
  next w0 w1 rest =>
    split at h
    next hlen =>
      obtain rfl := Option.some.inj h
      refine ⟨?_, hlen.1⟩
      have htake : (rest.take (field w1 8 4)).length = field w1 8 4 := by
        rw [List.length_take]
        omega
      simp only [Frame.words, Frame.body, htake, pack_addresses_field, pack_header_field, List.cons_append,
        take_append_getD hlen.2]
    next => cases h
  next => cases h

/-- Settles O13: the fields of the two header words and the words behind them make up the frame. -/
theorem frameRoundTrip : Obligations.FrameRoundTrip :=
  ⟨parseFrame_words, fun _ _ _ h => words_of_parseFrame h, checkedFrame_sealFrame⟩

/-! ### Frames of which the part makes no use -/

/-- A saturating count (R7, R14, R26). -/
theorem bump_eq (n : Nat) : bump n = min 65535 (n + 1) := by
  unfold bump
  split <;> omega

theorem countCheckError_eq (s : State) :
    countCheckError s = { s with ring := { s.ring with checkErrors := min 65535 (s.ring.checkErrors + 1) } } := by
  simp only [countCheckError, State.onRing, bump_eq]

theorem badFrameCounted : Sys2Proof.Claim.BadFrameCounted := fun ws n s hbad hs => by
  have harrives : frameArrives ws n s = countCheckError s := by simp [frameArrives, hbad]
  have hsettled : (countCheckError s).Settled := hs
  rw [exec_frameArrival, harrives, settle_of_settled _ hsettled, countCheckError_eq]

theorem earlyStartMarkCounted : Sys2Proof.Claim.EarlyStartMarkCounted := fun s => by
  rw [← countCheckError_eq]
  rfl

/-- An arriving frame addressed to the part is dispatched (R9). -/
theorem exec_frameArrival_of_own_dest {ws : List Word} {n : Nat} {f : Frame} {s : State} (hf : s.Arrives ws n f)
    (hdest : f.dest = s.ring.own) : exec (.frameArrival ws n) s = .next (settle (dispatch f s)) := by
  rw [exec_frameArrival, frameArrives_of_checked s hf.1]
  simp [classify, hf.2, hdest]

/-- An arriving frame addressed to one other station is judged (R12). -/
theorem exec_frameArrival_of_transit {ws : List Word} {n : Nat} {f : Frame} {s : State} (hf : s.Arrives ws n f)
    (hdest : f.dest ≠ s.ring.own) (hbroadcast : f.dest ≠ 255#8) :
    exec (.frameArrival ws n) s = .next (settle (judge f s)) := by
  rw [exec_frameArrival, frameArrives_of_checked s hf.1]
  simp [classify, hf.2, hdest, hbroadcast, broadcast]

/-- An arriving broadcast is read and then judged (R11). -/
theorem exec_frameArrival_of_broadcast {ws : List Word} {n : Nat} {f : Frame} {s : State} (hf : s.Arrives ws n f)
    (hdest : f.dest ≠ s.ring.own) (hbroadcast : f.dest = 255#8) :
    exec (.frameArrival ws n) s = .next (settle (judge f (consumeData f s))) := by
  have hown : ¬(255#8 = s.ring.own) := hbroadcast ▸ hdest
  rw [exec_frameArrival, frameArrives_of_checked s hf.1]
  simp [classify, hf.2, hown, hbroadcast, broadcast]

theorem readSample_of_short {f : Frame} (h : f.payload.length < 3) : readSample f = none := by
  simp [readSample, Nat.not_le.mpr h]

theorem readStatus_eq_none {f : Frame} (h : f.payload.length < 3 ∨ 4 ≤ field (f.word 2) 8 3) : readStatus f = none := by
  unfold readStatus
  split
  next hlen =>
    have hcode : 4 ≤ field (f.word 2) 8 3 := h.resolve_left (by omega)
    have hnone : driveOfCode (field (f.word 2) 8 3) = none := by
      unfold driveOfCode
      split <;> first | omega | rfl
    rw [hnone]
  next => rfl

/-- Data from no mapped source, and data that cannot be read, are ignored (R10, R37, R126). -/
theorem consumeData_of_unread {f : Frame} {s : State}
    (hsample : f.kind = kindSample → s.isLevelStation f.src = false ∨ f.payload.length < 3)
    (hstatus : f.kind = kindHoistStatus → s.hoistsAt f.src = [] ∨ f.payload.length < 3 ∨ 4 ≤ field (f.word 2) 8 3) :
    consumeData f s = s := by
  unfold consumeData
  split
  next hk =>
    rcases hsample hk with h | h
    · simp [h]
    · simp [receiveSample, readSample_of_short h]
  next =>
    split
    next hk =>
      unfold receiveStatus
      rcases hstatus hk with h | h
      · rw [h]
        split <;> rfl
      · rw [readStatus_eq_none h]
    next => rfl

theorem ignoredFrameChangesNothing : Sys2Proof.Claim.IgnoredFrameChangesNothing := fun ws n f s hf hdest hs hcase => by
  have hdispatch : dispatch f s = s := by
    unfold dispatch
    split
    next hrequest =>
      have hsrc : f.src = 0#8 ∨ f.src = 255#8 := by
        rcases hcase with ⟨_, _, h1, h2⟩ | ⟨_, h⟩ | ⟨h, _⟩ | ⟨h, _⟩
        · exact absurd hrequest (by simp [h1, h2])
        · exact h
        · rw [h] at hrequest
          exact absurd hrequest (by decide)
        · rw [h] at hrequest
          exact absurd hrequest (by decide)
      exact if_pos hsrc
    next hrequest =>
      refine consumeData_of_unread (fun hk => ?_) (fun hk => ?_)
      · rcases hcase with ⟨h, _⟩ | ⟨h, _⟩ | ⟨_, h⟩ | ⟨h, _⟩
        · exact absurd hk h
        · exact absurd h hrequest
        · exact h
        · rw [hk] at h
          exact absurd h (by decide)
      · rcases hcase with ⟨_, h, _⟩ | ⟨h, _⟩ | ⟨h, _⟩ | ⟨_, h⟩
        · exact absurd hk h
        · exact absurd h hrequest
        · rw [hk] at h
          exact absurd h (by decide)
        · exact h
  rw [exec_frameArrival_of_own_dest hf hdest, hdispatch, settle_of_settled s hs]

/-- Settles O15: what is counted and what is ignored leaves nothing for the end of the command to do. -/
theorem unusableFramesChangeNothing : Obligations.UnusableFramesChangeNothing :=
  ⟨badFrameCounted, earlyStartMarkCounted, ignoredFrameChangesNothing⟩

/-! ### Requests at their intake (R179, R180) -/

theorem not_mayExecute_of_busy {s : State} (h : s.req.executing.isSome = true ∨ 16 ≤ s.req.report.length) :
    s.mayExecute = false := by
  rcases h with h | h
  · simp [State.mayExecute, Option.isNone_eq_false_iff.mpr h]
  · simp [State.mayExecute, Nat.not_lt.mpr h]

/-- With none under way and an entry free, a settled part holds no request back (R180). -/
theorem intake_of_settled {s : State} (hs : s.Settled) (hfree : s.req.executing = none) (hroom : s.req.report.length < 16) :
    s.req.intake = [] := by
  have hmay := hs.1
  simpa [State.mayExecute, hfree, hroom] using hmay

/-- The start of an execution takes the head of the intake FIFO and reserves an entry (R180). -/
theorem startExecution_eq {f : Frame} {rest : List Frame} {s : State} (h : s.req.intake = f :: rest) :
    startExecution s = s.onReq (fun q =>
      { q with intake := rest, executing := some f, report := q.report ++ [.reserved] }) := by
  simp [startExecution, h]

theorem nextExecution_of_listed {n : Nat} {f : Frame} {rest : List Frame} {s : State} (hmay : s.mayExecute = true)
    (hintake : s.req.intake = f :: rest) (hname : (requestName f).isSome = true) :
    nextExecution (n + 1) s = startExecution s := by
  simp [nextExecution, hmay, hintake, hname]

theorem nextExecution_of_unlisted {n : Nat} {f : Frame} {rest : List Frame} {s : State} (hmay : s.mayExecute = true)
    (hintake : s.req.intake = f :: rest) (hname : requestName f = none) :
    nextExecution (n + 1) s = nextExecution n (answerUnlisted f (startExecution s)) := by
  simp [nextExecution, hmay, hintake, hname]

section intake

variable {f : Frame} {s : State} (hheard : s.classOf f.src ≠ .unheard)

include hheard

theorem admitRequest_of_room (hroom : s.req.intake.length < 4) :
    admitRequest f s = s.onReq (fun q => { q with intake := q.intake ++ [f] }) := by
  simp [admitRequest, hheard, hroom]

theorem admitRequest_of_full (hfull : 4 ≤ s.req.intake.length) :
    admitRequest f s = s.onReq (fun q => { q with requestLost := true }) := by
  simp [admitRequest, hheard, Nat.not_lt.mpr hfull]

variable (hs : s.Settled) (hfree : s.req.executing = none) (hroom : s.req.report.length < 16)

include hs hfree hroom

/-- A frame that finds the intake idle is alone there, and may be executed. -/
theorem admitRequest_mayExecute :
    (admitRequest f s).req.intake = [f] ∧ (admitRequest f s).mayExecute = true := by
  have hintake := intake_of_settled hs hfree hroom
  rw [admitRequest_of_room hheard (by simp [hintake])]
  simp [State.mayExecute, hintake, hfree, hroom]

theorem settle_of_listed (hname : (requestName f).isSome = true) :
    settle (admitRequest f s) =
      { s with req := { s.req with executing := some f, report := s.req.report ++ [.reserved] } } := by
  obtain ⟨hone, hmay⟩ := admitRequest_mayExecute hheard hs hfree hroom
  have hintake := intake_of_settled hs hfree hroom
  unfold settle
  rw [nextExecution_of_listed hmay hone hname, startExecution_eq hone,
    admitRequest_of_room hheard (by simp [hintake])]
  have hline := updateFaultLine_eq_self (((s.onReq (fun q => { q with intake := q.intake ++ [f] })).onReq
    (fun q => { q with intake := [], executing := some f, report := q.report ++ [.reserved] }))) hs.2
  rw [hline, ← hintake]
  rfl

theorem settle_of_unlisted (hname : requestName f = none) :
    OnlyTraffic s (settle (admitRequest f s)) ∧ (settle (admitRequest f s)).Replied f (refuse .malformed) := by
  obtain ⟨hone, hmay⟩ := admitRequest_mayExecute hheard hs hfree hroom
  have hintake := intake_of_settled hs hfree hroom
  have hadmit := admitRequest_of_room hheard (f := f) (by simp [hintake])
  have htraffic : OnlyTraffic s (admitRequest f s) := by
    rw [hadmit]
    exact onReq_traffic s _ rfl rfl
  refine ⟨htraffic.trans (settle_traffic _), ?_⟩
  have hstart := startExecution_eq hone
  have hreserved : .reserved ∈ (startExecution (admitRequest f s)).req.report := by simp [hstart]
  have hclass : (startExecution (admitRequest f s)).classOf f.src ≠ .unheard := by
    rwa [(htraffic.trans (startExecution_traffic _)).classOf]
  unfold settle
  rw [nextExecution_of_unlisted hmay hone hname]
  refine ((nextExecution_flow _ _).trans (updateFaultLine_flow _)).replied ?_
  unfold answerUnlisted
  rw [if_neg hclass]
  exact (endExecution_flow _).replied (placeReply_replied f _ hreserved)

end intake

/-- Settles O16: the outcomes of R179 and R180 one by one; a settled part that could execute holds no other request. -/
theorem requestAdmitted : Obligations.RequestAdmitted := fun ws n f s hf hdest hs hkind h0 h255 => by
  have hdispatch : dispatch f s = admitRequest f s := by simp [dispatch, hkind, h0, h255, broadcast]
  rw [exec_frameArrival_of_own_dest hf hdest, hdispatch]
  refine ⟨fun hunheard => ?_, fun hheard hfull => ?_, fun hheard hroom hbusy => ?_, fun hheard hfree hroom hname => ?_,
    fun hheard hfree hroom hname => ⟨_, rfl, settle_of_unlisted hheard hs hfree hroom hname⟩⟩
  · have hsame : admitRequest f s = s := by simp [admitRequest, hunheard]
    rw [hsame, settle_of_settled s hs]
  · rw [admitRequest_of_full hheard hfull]
    exact congrArg _ (settle_of_settled _ hs)
  · rw [admitRequest_of_room hheard hroom]
    exact congrArg _ (settle_of_settled _ ⟨not_mayExecute_of_busy hbusy, hs.2⟩)
  · rw [settle_of_listed hheard hs hfree hroom hname]

end Sys2Proof.Machine
end

section
/-!
PROOFS. Transit and broadcast frames: the deciding entry, the transit FIFO, SNOOP and POLICE (R11 to R17, R24 to R33).
-/

namespace Sys2Proof.Machine

/-! ### What the data of a frame leave of ring, filter and tables -/

/-- The Pass Filter, the tables and a busy RING-OUT are as they were. -/
structure Undisturbed (s t : State) : Prop where
  ring : s.ring.out ≠ .idle → t.ring = { s.ring with consecutive := t.ring.consecutive }
  pass : t.pass = s.pass
  store : t.store = s.store
  pending : t.pending = s.pending

theorem Undisturbed.refl (s : State) : Undisturbed s s := ⟨fun _ => rfl, rfl, rfl, rfl⟩

theorem Undisturbed.trans {s t u : State} (h : Undisturbed s t) (k : Undisturbed t u) : Undisturbed s u :=
  ⟨busy_trans h.ring k.ring, k.pass.trans h.pass, k.store.trans h.store, k.pending.trans h.pending⟩

theorem Within.undisturbed {G : GateNo → Prop} {s t : State} (h : Within G s t) : Undisturbed s t :=
  ⟨h.busy, h.surroundings.pass, h.surroundings.store, h.surroundings.pending⟩

theorem Flow.undisturbed {s t : State} (h : Flow s t) : Undisturbed s t := (h.within fun _ => True).undisturbed

theorem Event.undisturbed {s t : State} (h : Event s t) : Undisturbed s t := by
  cases h with
  | work h => exact h.within.undisturbed
  | lockout c g =>
    exact Undisturbed.trans (t := s.onSup _) ⟨fun _ => rfl, rfl, rfl, rfl⟩ (enterLockout_works c g s).within.undisturbed
  | _ => exact ⟨fun _ => rfl, rfl, rfl, rfl⟩

theorem Events.undisturbed {s t : State} (h : Events s t) : Undisturbed s t :=
  h.relates Undisturbed.refl (fun _ _ _ => Undisturbed.trans) fun _ _ => Event.undisturbed

/-! ### The transit FIFO (R13, R14) -/

/-- RING-OUT busy, a frame joins the transit FIFO or is lost and counted. -/
def RingInterface.joined (r : RingInterface) (f : Frame) : RingInterface :=
  if r.transit.length < 8 then { r with transit := r.transit ++ [f] }
  else { r with transitLosses := min 65535 (r.transitLosses + 1) }

theorem joined_consecutive (r : RingInterface) (f : Frame) (n : Nat) :
    RingInterface.joined { r with consecutive := n } f = { r.joined f with consecutive := n } := by
  unfold RingInterface.joined
  split <;> rfl

theorem joined_out (r : RingInterface) (f : Frame) : (r.joined f).out = r.out := by
  unfold RingInterface.joined
  split <;> rfl

theorem joinTransit_of_busy (f : Frame) {s : State} (hbusy : s.ring.out ≠ .idle) :
    joinTransit f s = s.onRing (fun r => r.joined f) := by
  unfold joinTransit
  split
  next hroom =>
    refine (arbitrate_of_sending (s.onRing fun r => { r with transit := r.transit ++ [f] }) hbusy).trans ?_
    simp [State.onRing, RingInterface.joined, hroom]
  next hfull => simp [State.onRing, RingInterface.joined, hfull, bump_eq]

theorem joinTransit_of_full (f : Frame) {s : State} (hfull : 8 ≤ s.ring.transit.length) :
    joinTransit f s = s.onRing (fun r => { r with transitLosses := min 65535 (r.transitLosses + 1) }) := by
  simp [joinTransit, Nat.not_lt.mpr hfull, State.onRing, bump_eq]

/-- A transit frame for which nothing else waits is granted, and the count is 0 (R17). -/
theorem arbitrate_of_transit_alone {f : Frame} {rest : List Frame} {s : State} (hidle : s.ring.out = .idle)
    (htransit : s.ring.transit = f :: rest) (hown : s.ownWaiting = false) :
    arbitrate s = s.onRing (fun r => { r with out := .transit f, transit := rest, consecutive := 0 }) := by
  simp [arbitrate, grant, grantTransit, hidle, htransit, hown]

/-- A frame that finds RING-OUT idle and nothing waiting is granted at once (R16, R17). -/
theorem joinTransit_of_idle (f : Frame) {s : State} (hempty : s.ring.transit = []) (hidle : s.ring.out = .idle)
    (hown : s.ownWaiting = false) :
    joinTransit f s = s.onRing (fun r => { r with out := .transit f, consecutive := 0 }) := by
  have hroom : s.ring.transit.length < 8 := by simp [hempty]
  unfold joinTransit
  rw [if_pos hroom]
  refine (arbitrate_of_transit_alone (f := f) (rest := []) (s := s.onRing fun r => { r with transit := r.transit ++ [f] })
    hidle (by simp [hempty]) hown).trans ?_
  simp [State.onRing, hempty]

/-! ### The deciding entry (R24 to R26) -/

/-- The hit counts replaced. -/
def State.counted (s : State) (hits : List Nat) : State := { s with pass := { s.pass with hits := hits } }

theorem counted_self (s : State) : s.counted s.pass.hits = s := rfl

theorem countHit_eq (e : Nat) (s : State) :
    countHit e s = s.counted (s.pass.hits.set e (min 65535 (s.pass.hits.getD e 0 + 1))) := by
  simp [countHit, State.onPass, State.counted, bump_eq]

/-- An entry, or the default pass action, decides the frame with action `a`, and leaves the hit counts `hits`. -/
def State.Decides (s : State) (f : Frame) (a : PassAction) (hits : List Nat) : Prop :=
  (∃ e, s.decidingEntry f = some e ∧ (passEntry s.store.passActive e).action = some a ∧
      hits = s.pass.hits.set e (min 65535 (s.pass.hits.getD e 0 + 1))) ∨
    (s.decidingEntry f = none ∧ a = (if defaultDrop s.store.control then .drop else .forward) ∧ hits = s.pass.hits)

theorem judge_of_entry {f : Frame} {s : State} {e : Nat} {a : PassAction} (he : s.decidingEntry f = some e)
    (ha : (passEntry s.store.passActive e).action = some a) :
    judge f s = actOnEntry (some a) f (s.counted (s.pass.hits.set e (min 65535 (s.pass.hits.getD e 0 + 1)))) := by
  simp only [judge, he, ha, countHit_eq]

theorem judge_of_decides {f : Frame} {s : State} {a : PassAction} {hits : List Nat} (h : s.Decides f a hits) :
    judge f s = actOnEntry (some a) f (s.counted hits) := by
  rcases h with ⟨e, he, ha, rfl⟩ | ⟨hnone, rfl, rfl⟩
  · exact judge_of_entry he ha
  · rw [counted_self]
    simp only [judge, hnone]
    split <;> rfl

/-- The decision reads the tables and the hit counts alone. -/
theorem Undisturbed.decides {s t : State} (h : Undisturbed s t) {f : Frame} {a : PassAction} {hits : List Nat}
    (hs : s.Decides f a hits) : t.Decides f a hits := by
  unfold State.Decides State.decidingEntry
  rw [h.store, h.pass]
  exact hs

theorem actOnEntry_drop (f : Frame) (s : State) : actOnEntry (some .drop) f s = s := rfl

theorem actOnEntry_forward (f : Frame) (s : State) : actOnEntry (some .forward) f s = joinTransit f s := rfl

theorem transitFrameDecided : Sys2Proof.Claim.TransitFrameDecided := fun ws n f s hf hown hbroadcast hs forwards hits hd => by
  have hdecides : s.Decides f (if forwards then .forward else .drop) hits := by
    refine hd.imp_right fun ⟨hnone, hdefault, hhits⟩ => ⟨hnone, ?_, hhits⟩
    rw [hdefault]
    cases forwards <;> rfl
  rw [exec_frameArrival_of_transit hf hown hbroadcast, judge_of_decides hdecides]
  refine ⟨?_, ?_, ?_, ?_⟩
  · rintro rfl
    exact congrArg _ (settle_of_settled (s.counted hits) hs)
  · rintro rfl hfull
    have h := joinTransit_of_full f (s := s.counted hits) hfull
    rw [if_pos rfl, actOnEntry_forward, h]
    exact congrArg _ (settle_of_settled _ hs)
  · rintro rfl hroom hbusy
    have h := joinTransit_of_busy f (s := s.counted hits) hbusy
    rw [if_pos rfl, actOnEntry_forward, h]
    refine congrArg _ ((settle_of_settled ((s.counted hits).onRing fun r => r.joined f) hs).trans ?_)
    simp [State.onRing, State.counted, RingInterface.joined, hroom]
  · rintro rfl hempty hidle hwaiting
    have h := joinTransit_of_idle f (s := s.counted hits) hempty hidle hwaiting
    rw [if_pos rfl, actOnEntry_forward, h]
    exact congrArg _ (settle_of_settled _ hs)

/-! ### Frames whose data are read, too (R11, R28) -/

/-- The ring as the deciding action leaves it while RING-OUT is busy. -/
def RingInterface.after (r : RingInterface) (a : PassAction) (f : Frame) : RingInterface :=
  if a = .drop then r else r.joined f

/-- What a change of the ring to `φ` and the reading of data leave together. -/
structure Passed (φ : RingInterface → RingInterface) (s t : State) : Prop where
  ring : t.ring = { φ s.ring with consecutive := t.ring.consecutive }
  pass : t.pass = s.pass
  store : t.store = s.store
  pending : t.pending = s.pending

theorem Undisturbed.passed_of {φ : RingInterface → RingInterface} {s t u : State} (h : Undisturbed s t)
    (hbusy : s.ring.out ≠ .idle) (hφ : ∀ r n, φ { r with consecutive := n } = { φ r with consecutive := n })
    (k : Passed φ t u) : Passed φ s u where
  ring := by
    rw [k.ring, h.ring hbusy, hφ]
  pass := k.pass.trans h.pass
  store := k.store.trans h.store
  pending := k.pending.trans h.pending

theorem Passed.undisturbed {φ : RingInterface → RingInterface} {s t u : State} (h : Passed φ s t)
    (hbusy : t.ring.out ≠ .idle) (k : Undisturbed t u) : Passed φ s u where
  ring := by
    rw [k.ring hbusy, h.ring]
  pass := k.pass.trans h.pass
  store := k.store.trans h.store
  pending := k.pending.trans h.pending

theorem passed_onRing (φ : RingInterface → RingInterface) (s : State) : Passed φ s (s.onRing φ) := ⟨rfl, rfl, rfl, rfl⟩

theorem passed_id {s t : State} (h : Undisturbed s t) (hbusy : s.ring.out ≠ .idle) : Passed id s t :=
  ⟨h.ring hbusy, h.pass, h.store, h.pending⟩

theorem joinTransit_passed (f : Frame) {s : State} (hbusy : s.ring.out ≠ .idle) :
    Passed (fun r => r.joined f) s (joinTransit f s) := by
  rw [joinTransit_of_busy f hbusy]
  exact passed_onRing _ s

theorem busy_of_undisturbed {s t : State} (h : Undisturbed s t) (hbusy : s.ring.out ≠ .idle) : t.ring.out ≠ .idle := by
  rwa [out_of_busy (h.ring hbusy)]

theorem busy_of_joined {s t : State} {f : Frame} (h : Passed (fun r => r.joined f) s t) (hbusy : s.ring.out ≠ .idle) :
    t.ring.out ≠ .idle := by
  rw [h.ring]
  exact (joined_out s.ring f).symm ▸ hbusy

/-- SNOOP reads and forwards, in either order (R28). -/
theorem snoopAndForward_passed (f : Frame) {s : State} (hbusy : s.ring.out ≠ .idle) :
    Passed (fun r => r.joined f) s (snoopAndForward f s) := by
  have hchoose := (chooseOrder_events 2 s).undisturbed
  have hbusy' := busy_of_undisturbed hchoose hbusy
  have hjoined (r : RingInterface) (n : Nat) := joined_consecutive r f n
  unfold snoopAndForward
  dsimp only
  refine hchoose.passed_of hbusy hjoined ?_
  split
  · have hsnoop := (snoop_events f (chooseOrder 2 s).2).undisturbed
    exact hsnoop.passed_of hbusy' hjoined (joinTransit_passed f (busy_of_undisturbed hsnoop hbusy'))
  · have hjoin := joinTransit_passed f hbusy'
    exact hjoin.undisturbed (busy_of_joined hjoin hbusy') (snoop_events f _).undisturbed

theorem actOnEntry_passed {a : PassAction} (f : Frame) {s : State} (hbusy : s.ring.out ≠ .idle) (ha : a ≠ .police) :
    Passed (fun r => r.after a f) s (actOnEntry (some a) f s) := by
  cases a with
  | drop => exact passed_id (.refl s) hbusy
  | forward => exact joinTransit_passed f hbusy
  | snoop => exact snoopAndForward_passed f hbusy
  | police => exact absurd rfl ha

theorem after_consecutive (r : RingInterface) (a : PassAction) (f : Frame) (n : Nat) :
    RingInterface.after { r with consecutive := n } a f = { r.after a f with consecutive := n } := by
  unfold RingInterface.after
  split
  · rfl
  · exact joined_consecutive r f n

theorem after_out (r : RingInterface) (a : PassAction) (f : Frame) : (r.after a f).out = r.out := by
  unfold RingInterface.after
  split
  · rfl
  · exact joined_out r f

/-- What the part reads of a frame that is not addressed to it alone: a broadcast's data (R11). -/
def State.readBroadcast (s : State) (f : Frame) : State := if f.dest = 255#8 then consumeData f s else s

theorem exec_frameArrival_of_judged {ws : List Word} {n : Nat} {f : Frame} {s : State} (hf : s.Arrives ws n f)
    (hdest : f.dest ≠ s.ring.own) : exec (.frameArrival ws n) s = .next (settle (judge f (s.readBroadcast f))) := by
  unfold State.readBroadcast
  split
  next h => exact exec_frameArrival_of_broadcast hf hdest h
  next h => exact exec_frameArrival_of_transit hf hdest h

theorem readBroadcast_undisturbed (s : State) (f : Frame) : Undisturbed s (s.readBroadcast f) := by
  unfold State.readBroadcast
  split
  · exact (consumeData_events f s).undisturbed
  · exact .refl s

theorem readBroadcast_of_unread {f : Frame} {s : State} (hsample : f.kind = kindSample → s.isLevelStation f.src = false)
    (hstatus : f.kind = kindHoistStatus → s.hoistsAt f.src = []) : s.readBroadcast f = s := by
  unfold State.readBroadcast
  split
  · exact consumeData_of_unread (fun h => .inl (hsample h)) fun h => .inl (hstatus h)
  · rfl

theorem snoop_of_unread {f : Frame} {s : State} (hsample : f.kind = kindSample → s.isLevelStation f.src = false)
    (hstatus : f.kind = kindHoistStatus → s.hoistsAt f.src = []) : snoop f s = s := by
  unfold snoop
  split
  · rfl
  · split
    next h =>
      unfold receiveStatus
      rw [hstatus h]
      split <;> rfl
    · split
      next h =>
        simp only [Bool.and_eq_true, decide_eq_true_eq] at h
        rw [hsample h.1] at h
        exact absurd h.2 Bool.false_ne_true
      next => rfl

/-- A frame of which no data are read changes the ring alone, and the orders drawn under SNOOP. -/
theorem actOnEntry_of_unread {a : PassAction} {f : Frame} {s : State} (hbusy : s.ring.out ≠ .idle) (ha : a ≠ .police)
    (hsample : f.kind = kindSample → s.isLevelStation f.src = false)
    (hstatus : f.kind = kindHoistStatus → s.hoistsAt f.src = []) :
    ∃ o, actOnEntry (some a) f s = { s with ring := s.ring.after a f, orders := o } ∧ (a ≠ .snoop → o = s.orders) := by
  cases a with
  | drop => exact ⟨s.orders, rfl, fun _ => rfl⟩
  | forward => exact ⟨s.orders, joinTransit_of_busy f hbusy, fun _ => rfl⟩
  | snoop =>
    obtain ⟨o, hchoose⟩ : ∃ o, (chooseOrder 2 s).2 = { s with orders := o } := ⟨_, chooseOrder_eq 2 s⟩
    refine ⟨o, ?_, fun h => absurd rfl h⟩
    have hjoin : joinTransit f { s with orders := o } = { s with ring := s.ring.after .snoop f, orders := o } :=
      joinTransit_of_busy f (s := { s with orders := o }) hbusy
    have hunread (u : State) (hu : u.store = s.store) : snoop f u = u :=
      snoop_of_unread (fun h => by rw [← hsample h]; unfold State.isLevelStation; rw [hu])
        fun h => by rw [← hstatus h]; unfold State.hoistsAt State.driveOf; rw [hu]
    unfold actOnEntry snoopAndForward
    dsimp only
    rw [hchoose]
    split
    · rw [hunread { s with orders := o } rfl]
      exact hjoin
    · rw [hjoin]
      exact hunread { s with ring := s.ring.after .snoop f, orders := o } rfl
  | police => exact absurd rfl ha

theorem transitFrameJoinsWhateverItCarries : Sys2Proof.Claim.TransitFrameJoinsWhateverItCarries :=
  fun ws n f s a hits hf hdest hbusy ha hdecides => by
  have hread := readBroadcast_undisturbed s f
  have hjudge := judge_of_decides (hread.decides hdecides)
  have hcounted : ((s.readBroadcast f).counted hits).ring.out ≠ .idle :=
    busy_of_undisturbed (t := s.readBroadcast f) hread hbusy
  have hacted := actOnEntry_passed f hcounted ha
  have hbusy' : (actOnEntry (some a) f ((s.readBroadcast f).counted hits)).ring.out ≠ .idle := by
    rw [hacted.ring]
    exact (after_out _ a f).symm ▸ hcounted
  have hsettled := hacted.undisturbed hbusy' (settle_flow _).undisturbed
  refine ⟨_, exec_frameArrival_of_judged hf hdest, ?_⟩
  rw [hjudge]
  refine ⟨?_, ?_, ?_, ?_, fun hsample hstatus hs => ?_⟩
  · have hring := hsettled.ring
    rw [show ((s.readBroadcast f).counted hits).ring = (s.readBroadcast f).ring from rfl, hread.ring hbusy,
      after_consecutive] at hring
    exact hring
  · rw [hsettled.pass]
    simp only [State.counted, hread.pass]
  · exact hsettled.store.trans hread.store
  · exact hsettled.pending.trans hread.pending
  · rw [readBroadcast_of_unread hsample hstatus]
    obtain ⟨o, heq, ho⟩ := actOnEntry_of_unread (s := s.counted hits) (f := f) (a := a) hbusy ha hsample hstatus
    have hfinal := settle_of_settled (actOnEntry (some a) f (s.counted hits)) (by rw [heq]; exact hs)
    rw [hfinal, heq]
    exact ⟨rfl, ho⟩

/-- Settles O17: whoever decides counts its hit, and a frame forwarded finds the FIFO full, RING-OUT busy or idle; what
the part reads of it leaves the ring, the filter and the tables alone. -/
theorem transitFrameForwardedOrDropped : Obligations.TransitFrameForwardedOrDropped :=
  ⟨transitFrameDecided, transitFrameJoinsWhateverItCarries⟩

/-! ### POLICE (R30 to R33) -/

theorem settle_of_not_settled_flag {s u : State} (hs : s.Settled) (hreq : u.req = s.req) : settle u = updateFaultLine u :=
  settle_of_not_mayExecute u (by
    have h := hs.1
    unfold State.mayExecute at h ⊢
    rwa [hreq])

/-- A frame that POLICE passes joins the FIFO; one it stops leaves what `police` leaves. -/
theorem actOnEntry_police (f : Frame) (s : State) :
    actOnEntry (some .police) f s = if (police f s).1 then joinTransit f (police f s).2 else (police f s).2 := rfl

/-- A frame that is no setpoint of R30 passes in RUN (R32). -/
theorem police_of_other {f : Frame} {s : State} (h : s.policedAsSetpoint f = false) :
    police f s = (decide (s.sup.device = .run), s) := by
  simp [police, h]

theorem actOnEntry_police_of_other {f : Frame} {s : State} (h : s.policedAsSetpoint f = false) (hbusy : s.ring.out ≠ .idle) :
    actOnEntry (some .police) f s = if s.sup.device = .run then s.onRing (fun r => r.joined f) else s := by
  rw [actOnEntry_police, police_of_other h, joinTransit_of_busy f hbusy]
  simp

/-- The conditions of R30 at every hoist a MOVE reaches. -/
def State.MoveFree (s : State) (hs : List HoistNo) (target : Int) : Prop :=
  s.sup.device = .run ∧ s.sup.holdLine = false ∧ ∀ h ∈ hs, (s.gate (gateOf h)).mode = .off ∧
    (recordValid (s.record (gateOf h)) = true →
      lowerLimit (s.record (gateOf h)) ≤ target ∧ target ≤ upperLimit (s.record (gateOf h)))

theorem moveAllowed_iff (s : State) (h : HoistNo) (target : Int) :
    s.moveAllowed h target = true ↔ s.sup.device = .run ∧ s.sup.holdLine = false ∧ (s.gate (gateOf h)).mode = .off ∧
      (recordValid (s.record (gateOf h)) = true →
        lowerLimit (s.record (gateOf h)) ≤ target ∧ target ≤ upperLimit (s.record (gateOf h))) := by
  rw [← inWindow_iff]
  cases hv : recordValid (s.record (gateOf h)) <;> simp [State.moveAllowed, hv, and_assoc]

theorem moveFree_nil (s : State) (target : Int) :
    s.MoveFree [] target ↔ s.sup.device = .run ∧ s.sup.holdLine = false := by
  simp [State.MoveFree]

theorem moveFree_iff {s : State} {hs : List HoistNo} (hne : hs ≠ []) (target : Int) :
    s.MoveFree hs target ↔ hs.all (fun h => s.moveAllowed h target) = true := by
  obtain ⟨k, hk⟩ := List.exists_mem_of_ne_nil hs hne
  simp only [List.all_eq_true, moveAllowed_iff]
  refine ⟨fun ⟨hrun, hfree, hall⟩ h hh => ⟨hrun, hfree, hall h hh⟩, fun h => ?_⟩
  obtain ⟨hrun, hfree, _⟩ := h k hk
  exact ⟨hrun, hfree, fun j hj => (h j hj).2.2⟩

section setpoint

variable {f : Frame} {s : State} (hpoliced : s.policedAsSetpoint f = true)

include hpoliced

theorem police_of_stop {x : Int} (hread : readSetpoint f = some (.stop, x)) : police f s = (true, s) := by
  simp [police, hpoliced, hread]

theorem police_of_unreadable (hread : readSetpoint f = none) : police f s = (false, setPolicedDrop s) := by
  simp [police, hpoliced, hread]

theorem police_of_move_free {x : Int} (hread : readSetpoint f = some (.move, x)) (hfree : s.MoveFree (s.policedHoists f) x) :
    police f s = (true, s) := by
  by_cases hne : s.policedHoists f = []
  · rw [hne, moveFree_nil] at hfree
    simp [police, hpoliced, hread, hne, hfree.1, hfree.2]
  · rw [moveFree_iff hne] at hfree
    simp only [police, hpoliced, hread, if_true, List.isEmpty_iff, hne, if_false, hfree]

theorem police_of_move_barred {x : Int} (hread : readSetpoint f = some (.move, x))
    (hbarred : ¬s.MoveFree (s.policedHoists f) x) (hne : s.policedHoists f ≠ []) :
    police f s = (false, setPolicedDrop s) := by
  rw [moveFree_iff hne] at hbarred
  simp only [police, hpoliced, hread, if_true, List.isEmpty_iff, hne, if_false, hbarred]
  rfl

theorem police_of_move_nowhere {x : Int} (hread : readSetpoint f = some (.move, x))
    (hbarred : ¬s.MoveFree (s.policedHoists f) x) (hnone : s.policedHoists f = []) : police f s = (false, s) := by
  rw [hnone, moveFree_nil] at hbarred
  have h : (decide (s.sup.device = .run) && !s.sup.holdLine) = false := by
    rw [Bool.eq_false_iff]
    simpa using hbarred
  simp only [police, hpoliced, hread, hnone, h, if_true, List.isEmpty_nil]

end setpoint

theorem readSetpoint_stop {f : Frame} (h : 2 ≤ f.payload.length ∧ field (f.word 0) 8 8 = 2) :
    readSetpoint f = some (.stop, ((f.word 1).toNat : Int)) := by
  simp [readSetpoint, h.1, h.2]

theorem readSetpoint_move {f : Frame} (h : 2 ≤ f.payload.length) (hc : field (f.word 0) 8 8 = 1) :
    readSetpoint f = some (.move, ((f.word 1).toNat : Int)) := by
  simp [readSetpoint, h, hc]

theorem readSetpoint_none {f : Frame}
    (h : ¬2 ≤ f.payload.length ∨ (field (f.word 0) 8 8 ≠ 1 ∧ field (f.word 0) 8 8 ≠ 2)) : readSetpoint f = none := by
  rcases h with h | ⟨h1, h2⟩
  · exact if_neg h
  · simp [readSetpoint, h1, h2]

/-- A SETPOINT carries no data the part reads (R9). -/
theorem readBroadcast_of_setpoint {f : Frame} (s : State) (h : f.kind = kindSetpoint) : s.readBroadcast f = s :=
  readBroadcast_of_unread (fun hk => by rw [h] at hk; exact absurd hk (by decide))
    fun hk => by rw [h] at hk; exact absurd hk (by decide)

theorem setpointPoliced : Sys2Proof.Claim.SetpointPoliced := by
  intro ws n f s e hf hdest hkind hs hbusy hroom he haction reached hreached readable command target free counted
    forwarded dropped
  have hcounted : counted = s.counted (s.pass.hits.set e (min 65535 (s.pass.hits.getD e 0 + 1))) := rfl
  have hhoists : counted.policedHoists f = reached := rfl
  have hpoliced : counted.policedAsSetpoint f = true := by
    simp only [State.policedAsSetpoint, hkind, decide_true, Bool.true_and, Bool.or_eq_true, decide_eq_true_eq]
    rcases hreached with h | h
    · exact .inl h
    · by_cases hb : f.dest = 255#8
      · exact .inl hb
      · refine .inr ?_
        have h' : s.hoistsAt f.dest ≠ [] := by simpa [reached, hb] using h
        rw [← show counted.hoistsAt f.dest = s.hoistsAt f.dest from rfl] at h'
        simpa [List.isEmpty_iff] using h'
  have hfree : counted.MoveFree (counted.policedHoists f) target ↔ free := Iff.rfl
  rw [exec_frameArrival_of_judged hf hdest, readBroadcast_of_setpoint s hkind, judge_of_entry he haction, ← hcounted,
    actOnEntry_police]
  have hpass (h : police f counted = (true, counted)) :
      Host.Outcome.next (settle (if (police f counted).1 then joinTransit f (police f counted).2 else (police f counted).2)) =
        (.next forwarded : Host.Outcome State Fault Refusal) := by
    rw [h, if_pos rfl]
    refine congrArg _ ((congrArg settle (joinTransit_of_busy f (s := counted) hbusy)).trans ?_)
    refine (settle_of_settled (counted.onRing fun r => r.joined f) hs).trans ?_
    simp [State.onRing, RingInterface.joined, hroom, forwarded, counted]
  have hdrop (h : police f counted = (false, setPolicedDrop counted)) :
      Host.Outcome.next (settle (if (police f counted).1 then joinTransit f (police f counted).2 else (police f counted).2)) =
        (.next (updateFaultLine dropped) : Host.Outcome State Fault Refusal) := by
    rw [h, if_neg Bool.false_ne_true]
    exact congrArg _ (settle_of_not_settled_flag hs rfl)
  refine ⟨fun h => hpass (police_of_stop hpoliced (readSetpoint_stop h)), fun ⟨hr, hc, hmay⟩ => ?_,
    fun ⟨hr, hc, hbar, hne⟩ => ?_, fun ⟨hr, hc, hbar, hnone⟩ => ?_,
    fun h => hdrop (police_of_unreadable hpoliced (readSetpoint_none h))⟩
  · exact hpass (police_of_move_free hpoliced (readSetpoint_move hr hc) hmay)
  · exact hdrop (police_of_move_barred hpoliced (readSetpoint_move hr hc) hbar hne)
  · rw [police_of_move_nowhere hpoliced (readSetpoint_move hr hc) hbar hnone, if_neg Bool.false_ne_true]
    exact congrArg _ (settle_of_settled counted hs)

theorem otherFramePolicedByDeviceState : Sys2Proof.Claim.OtherFramePolicedByDeviceState := by
  intro ws n f s e hf hdest hbroadcast hother hs hbusy hroom he haction counted
  have hcounted : counted = s.counted (s.pass.hits.set e (min 65535 (s.pass.hits.getD e 0 + 1))) := rfl
  have hpoliced : counted.policedAsSetpoint f = false := by
    simp only [State.policedAsSetpoint, broadcast, hbroadcast, decide_false, Bool.false_or]
    rcases hother with h | h
    · simp [h]
    · have h' : counted.hoistsAt f.dest = [] := h
      simp [h']
  rw [exec_frameArrival_of_transit hf hdest hbroadcast, judge_of_entry he haction, ← hcounted,
    actOnEntry_police_of_other hpoliced hbusy]
  split
  next hrun =>
    refine congrArg _ ((settle_of_settled (counted.onRing fun r => r.joined f) hs).trans ?_)
    simp [State.onRing, RingInterface.joined, hroom, counted]
  next hrun => exact congrArg _ (settle_of_settled counted hs)

/-- The ring after POLICE has judged a frame that is no setpoint by the device state. -/
def RingInterface.policed (r : RingInterface) (run : Bool) (f : Frame) : RingInterface := if run then r.joined f else r

theorem policed_consecutive (r : RingInterface) (run : Bool) (f : Frame) (n : Nat) :
    RingInterface.policed { r with consecutive := n } run f = { r.policed run f with consecutive := n } := by
  unfold RingInterface.policed
  split
  · exact joined_consecutive r f n
  · rfl

theorem policed_out (r : RingInterface) (run : Bool) (f : Frame) : (r.policed run f).out = r.out := by
  unfold RingInterface.policed
  split
  · exact joined_out r f
  · rfl

theorem broadcastPolicedByDeviceState : Sys2Proof.Claim.BroadcastPolicedByDeviceState := by
  intro ws n f s e hf hdest hbroadcast hkind hbusy he haction pass joined
  have hread := (consumeData_events f s).undisturbed
  have hjoined : joined = s.ring.joined f := rfl
  generalize hu : consumeData f s = u at hread
  have hbusy' : u.ring.out ≠ .idle := busy_of_undisturbed hread hbusy
  have hpoliced (v : State) : v.policedAsSetpoint f = false := by simp [State.policedAsSetpoint, hkind]
  have hjudge : judge f u = (u.counted pass.hits).onRing (fun r => r.policed (decide (u.sup.device = .run)) f) := by
    have he' : u.decidingEntry f = some e := by
      unfold State.decidingEntry
      rw [hread.store]
      exact he
    rw [judge_of_entry he' (by rw [hread.store]; exact haction), hread.pass]
    refine (actOnEntry_police_of_other (s := u.counted pass.hits) (hpoliced _) hbusy').trans ?_
    by_cases hrun : u.sup.device = .run
    · simp [hrun, State.counted, RingInterface.policed, State.onRing, pass]
    · simp [hrun, State.counted, RingInterface.policed, State.onRing, pass]
  have hflow := settle_flow (judge f u)
  have hout : (judge f u).ring.out ≠ .idle := by
    rw [hjudge]
    exact (policed_out u.ring _ f).symm ▸ hbusy'
  have hsettled := hflow.undisturbed
  refine ⟨_, exec_frameArrival_of_broadcast hf hdest hbroadcast, ?_⟩
  rw [hu]
  refine ⟨?_, ?_, ?_, ?_, fun hsample hstatus hs => ?_⟩
  · have hsup : (settle (judge f u)).sup = u.sup := by rw [hflow.sup, hjudge]; rfl
    have hring : (judge f u).ring = u.ring.policed (decide (u.sup.device = .run)) f := by rw [hjudge]; rfl
    rw [hsettled.ring hout, hring, hread.ring hbusy, policed_consecutive, hsup, hjoined]
    by_cases hrun : u.sup.device = .run <;> simp [hrun, RingInterface.policed]
  · rw [hsettled.pass, hjudge]
    simp only [State.onRing_pass, State.counted, hread.pass]
    rfl
  · rw [hsettled.store, hjudge]
    exact hread.store
  · rw [hsettled.pending, hjudge]
    exact hread.pending
  · have hsame : u = s := by
      rw [← hu]
      exact consumeData_of_unread (fun h => .inl (hsample h)) fun h => .inl (hstatus h)
    subst hsame
    rw [hjudge]
    refine (settle_of_settled ((u.counted pass.hits).onRing fun r => r.policed (decide (u.sup.device = .run)) f) hs).trans ?_
    by_cases hrun : u.sup.device = .run <;> simp [hrun, RingInterface.policed, State.onRing, State.counted, pass, hjoined]

/-- Settles O18: setpoints by what they reach and the conditions of R30, every other frame by the device state. -/
theorem transitFramesPoliced : Obligations.TransitFramesPoliced :=
  ⟨setpointPoliced, otherFramePolicedByDeviceState, broadcastPolicedByDeviceState⟩

end Sys2Proof.Machine
end

section
/-!
PROOFS. The ring-out arbiter at the end of a transmission, and the acknowledgement timer of the post that ends (R16 to
R19, R133).
-/

namespace Sys2Proof.Machine

/-! ### The table of R17 -/

section table

variable {s : State} (hidle : s.ring.out = .idle)

include hidle

theorem arbitrate_of_nothing (htransit : s.ring.transit = []) (hown : s.ownWaiting = false) :
    arbitrate s = s.onRing (fun r => { r with consecutive := 0 }) := by
  simp [arbitrate, grant, hidle, htransit, hown]

theorem arbitrate_of_no_rotation {f : Frame} {rest : List Frame} (htransit : s.ring.transit = f :: rest)
    (hrotation : rotation s.store.control = 0) :
    arbitrate s = s.onRing (fun r => { r with out := .transit f, transit := rest, consecutive := 0 }) := by
  simp [arbitrate, grant, grantTransit, hidle, htransit, hrotation]

theorem arbitrate_of_transit_turn {f : Frame} {rest : List Frame} (htransit : s.ring.transit = f :: rest)
    (hown : s.ownWaiting = true) (hcount : s.ring.consecutive < rotation s.store.control) :
    arbitrate s =
      s.onRing (fun r => { r with out := .transit f, transit := rest, consecutive := s.ring.consecutive + 1 }) := by
  have hrotation : rotation s.store.control ≠ 0 := by omega
  simp [arbitrate, grant, grantTransit, hidle, htransit, hown, hcount, hrotation]

theorem arbitrate_of_own_turn (hown : s.ownWaiting = true)
    (hturn : s.ring.transit = [] ∨ (rotation s.store.control ≠ 0 ∧ rotation s.store.control ≤ s.ring.consecutive)) :
    arbitrate s = grantOwn s := by
  rcases hturn with h | ⟨hrotation, hcount⟩
  · simp [arbitrate, grant, hidle, h, hown]
  · simp [arbitrate, grant, hidle, hown, hrotation, Nat.not_lt.mpr hcount]

end table

theorem grantOwn_of_post {h : HoistNo} {rest : List HoistNo} {sl : Slot} {s : State} (hqueue : s.post.queue = h :: rest)
    (hslot : (s.hoist h).slot = some sl) :
    grantOwn s = ((s.onPost (fun p => { p with queue := rest })).onHoist h
        (fun x => { x with slot := some { sl with phase := .sending } })).onRing
      (fun r => { r with out := .post h (sealFrame r.own sl.frame), consecutive := 0 }) := by
  simp [grantOwn, hqueue, hslot]

theorem grantOwn_of_report {f : OwnFrame} {s : State} (hqueue : s.post.queue = [])
    (hreport : offeredReport s.req.report = some f) :
    grantOwn s = (s.onReq (fun q => { q with report := q.report.tail })).onRing
      (fun r => { r with out := .report (sealFrame r.own f), consecutive := 0 }) := by
  simp [grantOwn, hqueue, hreport]

/-! ### A busy RING-OUT with the count at 0 -/

/-- Whatever the requests do, a busy RING-OUT goes on, and a count of 0 stays. -/
def ZeroKept (s t : State) : Prop := s.ring.out ≠ .idle → s.ring.consecutive = 0 → t.ring = s.ring

theorem ZeroKept.refl (s : State) : ZeroKept s s := fun _ _ => rfl

theorem ZeroKept.trans {s t u : State} (h : ZeroKept s t) (k : ZeroKept t u) : ZeroKept s u := fun hbusy hzero => by
  have ht := h hbusy hzero
  rw [k (by rwa [ht]) (by rwa [ht]), ht]

theorem ZeroKept.of_ring {s t : State} (h : t.ring = s.ring) : ZeroKept s t := fun _ _ => h

theorem arbitrate_zeroKept (s : State) : ZeroKept s (arbitrate s) := fun hbusy _ => by rw [arbitrate_of_sending s hbusy]

theorem settleRotation_zeroKept (s : State) : ZeroKept s (settleRotation s) := fun _ hzero => by
  unfold settleRotation
  split
  · rfl
  · simp [← hzero]

theorem placeReply_zeroKept (f : Frame) (a : Answer) (s : State) : ZeroKept s (placeReply f a s) :=
  ZeroKept.trans (t := s.onReq _) (.of_ring rfl) (arbitrate_zeroKept _)

theorem releaseReservation_zeroKept (s : State) : ZeroKept s (releaseReservation s) :=
  (ZeroKept.trans (t := s.onReq _) (.of_ring rfl) (settleRotation_zeroKept _)).trans (arbitrate_zeroKept _)

theorem answerUnlisted_zeroKept (f : Frame) (s : State) : ZeroKept s (answerUnlisted f s) := by
  unfold answerUnlisted
  split
  · exact (releaseReservation_zeroKept s).trans (.of_ring rfl)
  · exact (placeReply_zeroKept f _ s).trans (.of_ring rfl)

theorem startExecution_zeroKept (s : State) : ZeroKept s (startExecution s) := .of_ring (by
  unfold startExecution
  split <;> rfl)

theorem nextExecution_zeroKept (n : Nat) (s : State) : ZeroKept s (nextExecution n s) := by
  induction n generalizing s with
  | zero => exact .refl s
  | succ n ih =>
    unfold nextExecution
    split
    · split
      · split
        · exact startExecution_zeroKept s
        · exact ((startExecution_zeroKept s).trans (answerUnlisted_zeroKept _ _)).trans (ih _)
      · exact .refl s
    · exact .refl s

theorem settle_zeroKept (s : State) : ZeroKept s (settle s) := (nextExecution_zeroKept _ s).trans (.of_ring rfl)

/-! ### The end of a transmission -/

/-- The part with its transmission over, before the arbiter chooses: RING-OUT idle, and no hoist that waits in the queue
changed. -/
structure Released (s u : State) : Prop where
  ring : u.ring = { s.ring with out := .idle }
  req : u.req = s.req
  post : u.post = s.post
  store : u.store = s.store
  queued : ∀ h ∈ s.post.queue, u.hoist h = s.hoist h

theorem postSent_of_not_sending {h : HoistNo} {tag : Byte} {s : State}
    (hnot : ∀ sl, (s.hoist h).slot = some sl → ¬(sl.phase = .sending ∧ sl.tag = tag)) : postSent h tag s = s := by
  unfold postSent
  split
  next sl hsl => exact if_neg (hnot sl hsl)
  next => rfl

theorem postSent_of_sending {h : HoistNo} {tag : Byte} {s : State} {sl : Slot} (hsl : (s.hoist h).slot = some sl)
    (hphase : sl.phase = .sending) (htag : sl.tag = tag) :
    postSent h tag s = s.onHoist h (fun x =>
      { x with slot := some { sl with phase := .sent, ackTimer := some (ackTimeout s.store.control) } }) := by
  simp [postSent, hsl, hphase, htag]

theorem ringOutIdle_released (s : State) : Released s (ringOutIdle s) := ⟨rfl, rfl, rfl, rfl, fun _ _ => rfl⟩

theorem postSent_released {s : State} {h : HoistNo} (tag : Byte)
    (hwaits : h ∈ s.post.queue → (s.hoist h).phase = some .waiting) : Released s (postSent h tag (ringOutIdle s)) := by
  by_cases hsent : ∃ sl, (s.hoist h).slot = some sl ∧ sl.phase = .sending ∧ sl.tag = tag
  · obtain ⟨sl, hsl, hphase, htag⟩ := hsent
    rw [postSent_of_sending (s := ringOutIdle s) hsl hphase htag]
    refine ⟨rfl, rfl, rfl, rfl, fun k hk => State.hoist_onHoist_ne _ _ _ _ ?_⟩
    rintro rfl
    have hwaiting := hwaits hk
    simp [Hoist.phase, hsl, hphase] at hwaiting
  · rw [postSent_of_not_sending (s := ringOutIdle s) fun sl hsl hs => hsent ⟨sl, hsl, hs⟩]
    exact ringOutIdle_released s

theorem transmissionCompletes_of_busy {s : State} {x : Frame}
    (hout : s.ring.out = .transit x ∨ s.ring.out = .report x ∨
      ∃ h, s.ring.out = .post h x ∧ (h ∈ s.post.queue → (s.hoist h).phase = some .waiting)) :
    ∃ u, Released s u ∧ transmissionCompletes s = arbitrate u := by
  rcases hout with h | h | ⟨k, h, hwaits⟩
  · exact ⟨_, ringOutIdle_released s, by simp [transmissionCompletes, h]⟩
  · exact ⟨_, ringOutIdle_released s, by simp [transmissionCompletes, h]⟩
  · exact ⟨_, postSent_released x.tag hwaits, by simp [transmissionCompletes, h]⟩

theorem exec_transmissionComplete (s : State) :
    exec .transmissionComplete s = .next (settle (transmissionCompletes s)) := rfl

/-- A change that leaves the requests of a settled part alone gives none the chance to start. -/
theorem settle_of_same_req {s u : State} (hs : s.Settled) (hreq : u.req = s.req) : settle u = updateFaultLine u :=
  settle_of_not_settled_flag hs hreq

theorem Released.ownWaiting {s u : State} (h : Released s u) : u.ownWaiting = s.ownWaiting := by
  unfold State.ownWaiting
  rw [h.post, h.req]

/-- Settles O19: the rows of the table of R17 at the end of a transmission, with the order of R18 among own frames. -/
theorem arbiterTable : Obligations.ArbiterTable := fun s x hs hout => by
  obtain ⟨u, hu, hcompletes⟩ := transmissionCompletes_of_busy hout
  have hidle : u.ring.out = .idle := by rw [hu.ring]
  have htransit : u.ring.transit = s.ring.transit := by rw [hu.ring]
  have hcount : u.ring.consecutive = s.ring.consecutive := by rw [hu.ring]
  have hring {φ : RingInterface → RingInterface} (harb : arbitrate u = u.onRing φ) :
      (settle (arbitrate u)).ring = φ { s.ring with out := .idle } := by
    rw [harb, settle_of_same_req (u := u.onRing φ) hs hu.req, ← hu.ring]
    rfl
  refine ⟨_, exec_transmissionComplete s, ?_⟩
  rw [hcompletes]
  refine ⟨fun hnone hown => ?_, fun f rest hf hown => ?_, fun f rest hf hown hrot => ?_, fun f rest hf hown hlt => ?_,
    fun hown hturn => ?_⟩
  · exact hring (arbitrate_of_nothing hidle (htransit.trans hnone) (hu.ownWaiting.trans hown))
  · exact hring (arbitrate_of_transit_alone hidle (htransit.trans hf) (hu.ownWaiting.trans hown))
  · exact hring (arbitrate_of_no_rotation hidle (htransit.trans hf) (by rw [hu.store, hrot]))
  · have h := hring (arbitrate_of_transit_turn hidle (htransit.trans hf) (hu.ownWaiting.trans hown)
      (by rw [hcount, hu.store]; exact hlt))
    rw [h, hcount]
  · have hgrant := arbitrate_of_own_turn hidle (hu.ownWaiting.trans hown) (by rw [htransit, hcount, hu.store]; exact hturn)
    refine ⟨fun h rest sl hqueue hslot => ?_, fun f rest hqueue hreport => ?_⟩
    · have hposted := hgrant.trans (grantOwn_of_post (h := h) (rest := rest) (sl := sl) (by rw [hu.post, hqueue])
        (by rw [hu.queued h (by simp [hqueue]), hslot]))
      rw [settle_of_same_req hs (by rw [hposted]; exact hu.req), hposted]
      refine ⟨?_, rfl, ?_⟩
      · simp only [updateFaultLine, State.onMonitor_ring, State.onRing_ring, State.onHoist_ring, State.onPost_ring, hu.ring]
      · simp [updateFaultLine]
    · have hoffered : offeredReport u.req.report = some f := by
        rw [hu.req]
        rcases hreport with h | h <;> rw [h] <;> rfl
      have hreported := hgrant.trans (grantOwn_of_report (by rw [hu.post, hqueue]) hoffered)
      have hkept := settle_zeroKept (arbitrate u) (by rw [hreported]; exact nofun) (by rw [hreported]; rfl)
      rw [hkept, hreported]
      simp only [State.onRing_ring, State.onReq_ring, hu.ring]

/-! ### The acknowledgement timer (R19, R133) -/

theorem ringOutIdle_traffic (s : State) : OnlyTraffic s (ringOutIdle s) := onRing_traffic s _ rfl rfl rfl rfl

theorem ringOutIdle_hoist (s : State) (h : HoistNo) : (ringOutIdle s).hoist h = s.hoist h := rfl

/-- A change of a hoist and the end of a transmission may change places. -/
theorem ringOutIdle_onHoist (s : State) (h : HoistNo) (φ : Hoist → Hoist) :
    (ringOutIdle s).onHoist h φ = ringOutIdle (s.onHoist h φ) := rfl

/-- Settles O20: the slot is compared with the frame that ends; after that there is traffic alone. -/
theorem postCompletionStartsAckTimer : Obligations.PostCompletionStartsAckTimer := fun s h x hout => by
  have hcompletes : transmissionCompletes s = arbitrate (postSent h x.tag (ringOutIdle s)) := by
    simp [transmissionCompletes, hout]
  refine ⟨_, exec_transmissionComplete s, fun sl hsl hphase htag hqueue => ?_, fun hnot => ?_⟩
  · have hsent := postSent_of_sending (s := ringOutIdle s) hsl hphase htag
    rw [ringOutIdle_onHoist] at hsent
    rw [hcompletes, hsent]
    have hflow := (arbitrate_flow (ringOutIdle (s.onHoist h fun y =>
      { y with slot := some { sl with phase := .sent, ackTimer := some (ackTimeout s.store.control) } }))).trans
        (settle_flow _)
    refine ⟨?_, (ringOutIdle_traffic _).trans hflow.traffic⟩
    refine (hflow.outside h hqueue).trans ?_
    rw [ringOutIdle_hoist, State.hoist_onHoist_self]
    rfl
  · rw [hcompletes, postSent_of_not_sending (s := ringOutIdle s) hnot]
    have hflow := (arbitrate_flow (ringOutIdle s)).trans (settle_flow _)
    exact ⟨(ringOutIdle_traffic s).trans hflow.traffic, fun hqueue => hflow.outside h hqueue⟩

end Sys2Proof.Machine
end

section
/-!
PROOFS. The arithmetic of an automatic target (R67 to R73), and the settle timer's expiry (R149).
-/

namespace Sys2Proof.Machine

/-! ### Clamps and quotients -/

theorem clamp_eq {lo hi : Int} (h : lo ≤ hi) (x : Int) : clamp lo hi x = max lo (min hi x) := by
  unfold clamp
  split_ifs <;> omega

/-- Division toward 0 of what is not negative is division downward. -/
theorem tdiv_of_nonneg {x : Int} (n : Nat) (h : 0 ≤ x) : Int.tdiv x n = x / n := Int.tdiv_eq_ediv_of_nonneg h

theorem tdiv_of_nonpos {x : Int} (n : Nat) (h : x ≤ 0) : Int.tdiv x n = -(-x / n) := by
  rw [← tdiv_of_nonneg n (Int.neg_nonneg.mpr h), Int.neg_tdiv, Int.neg_neg]

/-! ### The stage index (R67) -/

theorem stageIndexWithinSchedule : Sys2Proof.Claim.StageIndexWithinSchedule := fun forced length d hlength => by
  refine ⟨?_, ?_, ?_, ?_⟩
  · rintro v rfl
    exact ⟨rfl, rfl⟩
  · rintro rfl hlow
    have h : d + 4000 < 0 := by omega
    simp [stageIndex, h]
  · rintro rfl hlow hhigh
    have h : ¬d + 4000 < 0 := by omega
    simp [stageIndex, h, hhigh]
  · rintro rfl hlow hhigh
    have h : ¬d + 4000 < 0 := by omega
    have h' : ¬((length : Int) - 1) * 200 ≤ d + 4000 := by omega
    have hq : 0 ≤ (d + 4000) / 200 := by omega
    simp only [stageIndex, h, h', if_false]
    refine ⟨Int.toNat_of_nonneg hq, trivial, ?_⟩
    omega

/-! ### The base opening (R69) -/

theorem baseOpening_between {image : ScheduleImage} {i : Nat} (r : Int) (hi : i + 1 < scheduleLength image) :
    baseOpening image i r = baseRow image i + Int.tdiv ((baseRow image (i + 1) - baseRow image i) * r) (200 : Nat) := by
  have hlast : i ≠ scheduleLength image - 1 := by omega
  simp [baseOpening, hlast]

theorem openingInterpolates : Sys2Proof.Claim.OpeningInterpolates := by
  refine ⟨fun image i r hr _ hi => ⟨fun hup => ?_, fun hdown => ?_⟩, fun image r _ => by simp [baseOpening]⟩
  · rw [baseOpening_between r hi, tdiv_of_nonneg 200 (Int.mul_nonneg (by omega) hr)]
    rfl
  · have hneg : (baseRow image (i + 1) - baseRow image i) * r ≤ 0 := Int.mul_nonpos_of_nonpos_of_nonneg (by omega) hr
    have hsign : -((baseRow image (i + 1) - baseRow image i) * r) = (baseRow image i - baseRow image (i + 1)) * r := by ring
    rw [baseOpening_between r hi, tdiv_of_nonpos 200 hneg, hsign]
    rfl

/-! ### The pool correction (R70) -/

theorem gain_nonneg (i : ScheduleImage) : 0 ≤ gain i := Int.natCast_nonneg _

theorem correctionLimit_nonneg (i : ScheduleImage) : 0 ≤ correctionLimit i := Int.natCast_nonneg _

theorem correctionProportional : Sys2Proof.Claim.CorrectionProportional := fun image e he => by
  have hproduct : 0 ≤ e * gain image := Int.mul_nonneg he (gain_nonneg image)
  have hlimit := correctionLimit_nonneg image
  have habove : poolSetpoint image + e - poolSetpoint image = e := by ring
  have hbelow : (poolSetpoint image - e - poolSetpoint image) * gain image = -(e * gain image) := by ring
  have hup := tdiv_of_nonneg 16 hproduct
  have hdown : Int.tdiv (-(e * gain image)) (16 : Nat) = -(e * gain image / (16 : Nat)) := by
    rw [tdiv_of_nonpos 16 (by omega), Int.neg_neg]
  constructor
  · rw [poolCorrection, habove, clamp_eq (by omega)]
    simp only [Nat.cast_ofNat] at hup
    rw [hup]
    omega
  · rw [poolCorrection, hbelow, clamp_eq (by omega)]
    simp only [Nat.cast_ofNat] at hdown
    rw [hdown]
    omega

/-! ### The target (R71 to R73) -/

theorem poolAlarm_iff (s : State) (u : Int) :
    s.poolAlarm u = true ↔ floodOnPoolAlarm s.store.control = true ∧ threshold s.store.thresholds .levelU 0 < u := by
  simp [State.poolAlarm]

theorem automaticTargetInWindow : Sys2Proof.Claim.AutomaticTargetInWindow := fun g u d s hwindow => by
  refine ⟨clamp_mem hwindow _, fun hflood => ?_, fun hmode hcalm => ?_⟩
  · rw [← poolAlarm_iff] at hflood
    have hraw : s.rawTarget g u d = upperLimit (s.record g) := by
      unfold State.rawTarget
      exact if_pos (by simpa using hflood)
    rw [State.autoTarget, hraw, clamp_eq hwindow]
    omega
  · rw [← poolAlarm_iff] at hcalm
    have hraw : s.rawTarget g u d =
        baseOpening (s.scheduleOf g) (stageIndex s.forcedIndex (scheduleLength (s.scheduleOf g)) d).1
          (stageIndex s.forcedIndex (scheduleLength (s.scheduleOf g)) d).2 + poolCorrection (s.scheduleOf g) u +
            trimOffset (s.record g) := by
      unfold State.rawTarget
      exact if_neg (by simp [hmode, hcalm])
    rw [State.autoTarget, hraw, clamp_eq hwindow]
    rfl

/-- Settles O25: division toward 0 is division downward of what is not negative, and changes its sign with the other. -/
theorem automaticTargetArithmetic : Obligations.AutomaticTargetArithmetic :=
  ⟨stageIndexWithinSchedule, openingInterpolates, correctionProportional, automaticTargetInWindow⟩

/-! ### The settle timer -/

/-- Settles O36: the expiry is one change of one hoist. -/
theorem settleTimerStops : Obligations.SettleTimerStops := fun h s =>
  ⟨s.onHoist h (fun x => { x with settleTimer := none }), rfl, State.hoist_onHoist_self _ _ _,
    fun j hj => State.hoist_onHoist_ne s h _ j hj, rfl⟩

end Sys2Proof.Machine
end

section
/-!
PROOFS. How the data of a frame reach the part: by address, by broadcast or under SNOOP, with traffic alone around their
reading (R9 to R11, R28).
-/

namespace Sys2Proof.Machine

/-! ### What happens around the reading of a frame -/

/-- Between `s` and `t` there was traffic, the judgement of a frame and an order drawn: what a frame's data may concern is
as it was. -/
structure Aside (s t : State) : Prop where
  own : t.ring.own = s.ring.own
  commissioning : t.ring.commissioning = s.ring.commissioning
  checkErrors : t.ring.checkErrors = s.ring.checkErrors
  levels : t.levels = s.levels
  forcedIndex : t.forcedIndex = s.forcedIndex
  gates : t.gates = s.gates
  hoists : ∀ h, (s.hoist h).GrantedFrom (t.hoist h)
  tagCounter : t.post.tagCounter = s.post.tagCounter
  queue : ∀ h, h ∈ t.post.queue → h ∈ s.post.queue
  up : t.monitor.up = s.monitor.up
  down : t.monitor.down = s.monitor.down
  head : t.monitor.head = s.monitor.head
  sup : t.sup = s.sup
  requestLost : t.req.requestLost = s.req.requestLost
  noticeLost : t.req.noticeLost = s.req.noticeLost
  store : t.store = s.store
  pending : t.pending = s.pending
  placed : KeepsPlaced s t

theorem Flow.aside {s t : State} (h : Flow s t) : Aside s t where
  own := h.traffic.own
  commissioning := h.traffic.commissioning
  checkErrors := h.traffic.checkErrors
  levels := h.traffic.levels
  forcedIndex := h.traffic.forcedIndex
  gates := h.traffic.gates
  hoists := h.hoists
  tagCounter := h.traffic.tagCounter
  queue := h.queue
  up := h.traffic.up
  down := h.traffic.down
  head := h.traffic.head
  sup := h.traffic.sup
  requestLost := h.traffic.requestLost
  noticeLost := h.traffic.noticeLost
  store := h.traffic.store
  pending := h.traffic.pending
  placed := h.placed

theorem Aside.refl (s : State) : Aside s s := (Flow.refl s).aside

theorem Aside.trans {s t u : State} (h : Aside s t) (k : Aside t u) : Aside s u where
  own := k.own.trans h.own
  commissioning := k.commissioning.trans h.commissioning
  checkErrors := k.checkErrors.trans h.checkErrors
  levels := k.levels.trans h.levels
  forcedIndex := k.forcedIndex.trans h.forcedIndex
  gates := k.gates.trans h.gates
  hoists := fun x => (h.hoists x).trans (k.hoists x)
  tagCounter := k.tagCounter.trans h.tagCounter
  queue := fun x hx => h.queue x (k.queue x hx)
  up := k.up.trans h.up
  down := k.down.trans h.down
  head := k.head.trans h.head
  sup := k.sup.trans h.sup
  requestLost := k.requestLost.trans h.requestLost
  noticeLost := k.noticeLost.trans h.noticeLost
  store := k.store.trans h.store
  pending := k.pending.trans h.pending
  placed := h.placed.trans k.placed

section aside

variable {s t : State} (h : Aside s t)

include h

theorem Aside.gate (g : GateNo) : t.gate g = s.gate g := by simp [State.gate, h.gates]

theorem Aside.record (g : GateNo) : t.record g = s.record g := by simp [State.record, h.store]

theorem Aside.driveOf (k : HoistNo) : t.driveOf k = s.driveOf k := by simp [State.driveOf, h.store]

theorem Aside.exceptPhase (k : HoistNo) : (t.hoist k).exceptPhase = (s.hoist k).exceptPhase := (h.hoists k).exceptPhase

theorem Aside.posted {k : HoistNo} {sp : Setpoint} (hp : s.Posted k sp) : t.Posted k sp :=
  posted_of_granted (h.hoists k) (h.driveOf k) hp

end aside

theorem onPass_aside (s : State) (φ : PassFilter → PassFilter) : Aside s (s.onPass φ) where
  own := rfl
  commissioning := rfl
  checkErrors := rfl
  levels := rfl
  forcedIndex := rfl
  gates := rfl
  hoists := fun _ => .refl _
  tagCounter := rfl
  queue := fun _ h => h
  up := rfl
  down := rfl
  head := rfl
  sup := rfl
  requestLost := rfl
  noticeLost := rfl
  store := rfl
  pending := rfl
  placed := .refl _

theorem orders_aside (s : State) (o : Orders) : Aside s { s with orders := o } :=
  { onPass_aside s id with }

/-- A change of the ring's FIFO or counts. -/
theorem onRing_aside (s : State) (φ : RingInterface → RingInterface) (hown : (φ s.ring).own = s.ring.own)
    (hcom : (φ s.ring).commissioning = s.ring.commissioning) (herr : (φ s.ring).checkErrors = s.ring.checkErrors)
    (hout : (φ s.ring).out = s.ring.out) : Aside s (s.onRing φ) :=
  { onPass_aside s id with
    own := hown, commissioning := hcom, checkErrors := herr
    placed := fun _ _ _ hp => by
      simp only [State.Placed, State.onRing_req, State.onRing_ring, hout, hown]
      exact hp }

theorem chooseOrder_aside (n : Nat) (s : State) : Aside s (chooseOrder n s).2 := by
  rw [chooseOrder_eq]
  exact orders_aside s _

theorem joinTransit_aside (f : Frame) (s : State) : Aside s (joinTransit f s) := by
  unfold joinTransit
  split
  · exact (onRing_aside s _ rfl rfl rfl rfl).trans (arbitrate_flow _).aside
  · exact onRing_aside s _ rfl rfl rfl rfl

theorem setPolicedDrop_aside (s : State) : Aside s (setPolicedDrop s) := onPass_aside s _

theorem countHit_aside (e : Nat) (s : State) : Aside s (countHit e s) := onPass_aside s _

theorem police_aside (f : Frame) (s : State) : Aside s (police f s).2 := by
  unfold police
  split
  · split
    · exact .refl s
    · dsimp only
      split_ifs
      · exact .refl s
      · exact .refl s
      · exact setPolicedDrop_aside s
    · exact setPolicedDrop_aside s
  · exact .refl s

theorem settle_aside (s : State) : Aside s (settle s) := (settle_flow s).aside

/-! ### Room for a notice -/

theorem grantOwn_room (s : State) :
    (grantOwn s).req.report.length ≤ s.req.report.length ∧
      noticeCount (grantOwn s).req.report ≤ noticeCount s.req.report := by
  unfold grantOwn
  split
  · split <;> exact ⟨le_rfl, le_rfl⟩
  · split
    · exact ⟨by simp, (List.tail_sublist _).countP_le⟩
    · exact ⟨le_rfl, le_rfl⟩

/-- The arbiter takes entries from the report FIFO at most (R18). -/
theorem arbitrate_room (s : State) :
    (arbitrate s).req.report.length ≤ s.req.report.length ∧
      noticeCount (arbitrate s).req.report ≤ noticeCount s.req.report := by
  have htransit (n : Nat) : (grantTransit n s).req.report.length ≤ s.req.report.length ∧
      noticeCount (grantTransit n s).req.report ≤ noticeCount s.req.report := by
    rw [grantTransit_report]
    exact ⟨le_rfl, le_rfl⟩
  unfold arbitrate grant
  split
  · split_ifs
    · exact grantOwn_room s
    · exact ⟨le_rfl, le_rfl⟩
    · exact htransit _
    · exact htransit _
    · exact htransit _
    · exact grantOwn_room s
  · exact ⟨le_rfl, le_rfl⟩

theorem noticeRoom_of_le {s t : State} (hstore : t.store = s.store)
    (hle : t.req.report.length ≤ s.req.report.length ∧ noticeCount t.req.report ≤ noticeCount s.req.report)
    (h : s.NoticeRoom) : t.NoticeRoom :=
  ⟨by rw [hstore]; exact h.1, by have := h.2.1; omega, by have := h.2.2; omega⟩

theorem arbitrate_noticeRoom {s : State} (h : s.NoticeRoom) : (arbitrate s).NoticeRoom :=
  noticeRoom_of_le (arbitrate_flow s).traffic.store (arbitrate_room s) h

theorem joinTransit_noticeRoom (f : Frame) {s : State} (h : s.NoticeRoom) : (joinTransit f s).NoticeRoom := by
  unfold joinTransit
  split
  · exact arbitrate_noticeRoom (s := s.onRing _) h
  · exact h

theorem chooseOrder_noticeRoom (n : Nat) {s : State} (h : s.NoticeRoom) : (chooseOrder n s).2.NoticeRoom := by
  rw [chooseOrder_eq]
  exact h

/-! ### The reading itself -/

/-- The data of a frame taken by their block: with acknowledgement matching, or without it under SNOOP (R10, R28). -/
def readData (f : Frame) (matching : Bool) (s : State) : State :=
  if f.kind = kindSample then if s.isLevelStation f.src then receiveSample f s else s
  else if f.kind = kindHoistStatus then receiveStatus f matching s
  else s

theorem consumeData_eq (f : Frame) (s : State) : consumeData f s = readData f true s := rfl

theorem snoop_eq {f : Frame} (s : State) (h : f.dest ≠ 255#8) : snoop f s = readData f false s := by
  have hdest : ¬f.dest = broadcast := h
  unfold snoop readData
  rw [if_neg hdest]
  by_cases hs : f.kind = kindSample
  · have hne : ¬kindSample = kindHoistStatus := by decide
    simp [hs, hne]
  · rw [if_neg hs]
    simp [hs]

theorem snoop_of_broadcast {f : Frame} (s : State) (h : f.dest = 255#8) : snoop f s = s := if_pos h

theorem decidingEntry_congr {s t : State} (h : t.store = s.store) (f : Frame) : t.decidingEntry f = s.decidingEntry f := by
  simp [State.decidingEntry, h]

/-- A broadcast frame, or one that no SNOOP entry decides, is judged without a reading. -/
theorem judge_aside {f : Frame} {s : State}
    (h : f.dest = 255#8 ∨
      ∀ e, s.decidingEntry f = some e → (passEntry s.store.passActive e).action ≠ some .snoop) : Aside s (judge f s) := by
  have hread (u : State) (hsnoop : f.dest = 255#8) : Aside u (snoopAndForward f u) := by
    unfold snoopAndForward
    dsimp only
    split
    · rw [snoop_of_broadcast _ hsnoop]
      exact (chooseOrder_aside 2 u).trans (joinTransit_aside f _)
    · rw [snoop_of_broadcast _ hsnoop]
      exact (chooseOrder_aside 2 u).trans (joinTransit_aside f _)
  unfold judge
  split
  next e he =>
    refine (countHit_aside e s).trans ?_
    unfold actOnEntry
    split
    · exact joinTransit_aside f _
    next hsnoop =>
      refine hread _ (h.resolve_right fun hno => hno e he ?_)
      exact hsnoop
    · exact .refl _
    · dsimp only
      split
      · exact (police_aside f _).trans (joinTransit_aside f _)
      · exact police_aside f _
    · exact .refl _
  next =>
    split
    · exact .refl s
    · exact joinTransit_aside f s

/-- A SNOOP entry reads the data, before or after the frame is forwarded (R28). -/
theorem judge_of_snoop {f : Frame} {s : State} {e : Nat} (hdest : f.dest ≠ 255#8) (he : s.decidingEntry f = some e)
    (haction : (passEntry s.store.passActive e).action = some .snoop) :
    ∃ u, Aside s u ∧ (s.NoticeRoom → u.NoticeRoom) ∧ Aside (readData f false u) (judge f s) := by
  have hjudge : judge f s = snoopAndForward f (countHit e s) := by
    simp only [judge, he, haction]
    rfl
  rw [hjudge]
  have hcount := countHit_aside e s
  have hcountRoom (h : s.NoticeRoom) : (countHit e s).NoticeRoom := h
  have hchoose := hcount.trans (chooseOrder_aside 2 (countHit e s))
  have hchooseRoom (h : s.NoticeRoom) := chooseOrder_noticeRoom 2 (hcountRoom h)
  unfold snoopAndForward
  dsimp only
  rw [snoop_eq _ hdest, snoop_eq _ hdest]
  split
  · exact ⟨_, hchoose, hchooseRoom, joinTransit_aside f _⟩
  · exact ⟨_, hchoose.trans (joinTransit_aside f _), fun h => joinTransit_noticeRoom f (hchooseRoom h), .refl _⟩

/-- Acknowledgements are matched in frames addressed to the part or broadcast (R11, R28). -/
def State.matches (s : State) (f : Frame) : Bool := decide (f.dest = s.ring.own ∨ f.dest = 255#8)

theorem not_request_of_data {f : Frame} (h : f.kind = kindSample ∨ f.kind = kindHoistStatus) :
    ¬(f.kind = kindOrder ∨ f.kind = kindManage) := by
  rcases h with h | h <;> rw [h] <;> decide

/-- A frame addressed to the part is read, and the command settled (R9). -/
theorem exec_frameArrival_own_data {ws : List Word} {n : Nat} {f : Frame} {s : State} (hf : s.Arrives ws n f)
    (hkind : f.kind = kindSample ∨ f.kind = kindHoistStatus) (hdest : f.dest = s.ring.own) :
    exec (.frameArrival ws n) s = .next (settle (readData f true s)) := by
  have hdispatch : dispatch f s = readData f true s := by
    unfold dispatch
    rw [if_neg (not_request_of_data hkind), consumeData_eq]
  rw [exec_frameArrival_of_own_dest hf hdest, hdispatch]

/-- Data that reach the part are read, with traffic alone before and after. -/
theorem exec_frameArrival_consumed {ws : List Word} {n : Nat} {f : Frame} {s : State} (hf : s.Arrives ws n f)
    (hkind : f.kind = kindSample ∨ f.kind = kindHoistStatus) (hc : s.Consumes f) :
    ∃ t u, exec (.frameArrival ws n) s = .next t ∧ Aside s u ∧ (s.NoticeRoom → u.NoticeRoom) ∧
      Aside (readData f (s.matches f) u) t := by
  by_cases hown : f.dest = s.ring.own
  · have hmatch : s.matches f = true := by simp [State.matches, hown]
    rw [hmatch]
    exact ⟨_, s, exec_frameArrival_own_data hf hkind hown, .refl s, id, settle_aside _⟩
  · by_cases hb : f.dest = 255#8
    · have hmatch : s.matches f = true := by simp [State.matches, hb]
      rw [hmatch]
      exact ⟨_, s, exec_frameArrival_of_broadcast hf hown hb, .refl s, id, (judge_aside (.inl hb)).trans (settle_aside _)⟩
    · have hmatch : s.matches f = false := by simp [State.matches, hb, hown]
      rw [hmatch]
      obtain ⟨e, he, haction⟩ := (hc.resolve_left hown).resolve_left hb
      obtain ⟨u, hu, hroom, ht⟩ := judge_of_snoop hb he haction
      exact ⟨_, u, exec_frameArrival_of_transit hf hown hb, hu, hroom, ht.trans (settle_aside _)⟩

/-- Data that do not reach the part change nothing they may concern. -/
theorem exec_frameArrival_unread {ws : List Word} {n : Nat} {f : Frame} {s : State} (hf : s.Arrives ws n f)
    (hc : ¬s.Consumes f) : ∃ t, exec (.frameArrival ws n) s = .next t ∧ Aside s t := by
  have hown : f.dest ≠ s.ring.own := fun h => hc (.inl h)
  have hb : f.dest ≠ 255#8 := fun h => hc (.inr (.inl h))
  refine ⟨_, exec_frameArrival_of_transit hf hown hb, (judge_aside (.inr fun e he haction => ?_)).trans (settle_aside _)⟩
  exact hc (.inr (.inr ⟨e, he, haction⟩))

/-! ### What samples leave alone -/

/-- Gates, lines, tables and hoists are as they were, but for grants. -/
structure Gateless (s t : State) : Prop where
  gates : t.gates = s.gates
  sup : t.sup = s.sup
  store : t.store = s.store
  hoists : ∀ h, (t.hoist h).exceptPhase = (s.hoist h).exceptPhase

theorem Gateless.refl (s : State) : Gateless s s := ⟨rfl, rfl, rfl, fun _ => rfl⟩

theorem Gateless.trans {s t u : State} (h : Gateless s t) (k : Gateless t u) : Gateless s u :=
  ⟨k.gates.trans h.gates, k.sup.trans h.sup, k.store.trans h.store, fun j => (k.hoists j).trans (h.hoists j)⟩

theorem Aside.gateless {s t : State} (h : Aside s t) : Gateless s t := ⟨h.gates, h.sup, h.store, h.exceptPhase⟩

theorem OnlyNotices.gateless {s t : State} (h : OnlyNotices s t) : Gateless s t := ⟨h.gates, h.sup, h.store, h.hoists⟩

theorem onLevels_gateless (s : State) (φ : LevelUnit → LevelUnit) : Gateless s (s.onLevels φ) := ⟨rfl, rfl, rfl, fun _ => rfl⟩

theorem onMonitor_gateless (s : State) (φ : Monitor → Monitor) : Gateless s (s.onMonitor φ) := ⟨rfl, rfl, rfl, fun _ => rfl⟩

theorem notifySide_notices (n : SideName) (p : SideState) (s : State) : OnlyNotices s (notifySide n p s) := by
  unfold notifySide
  split
  · exact .refl s
  · exact notify_notices _ s

theorem notifyAlarm_notices (c : ThresholdClass) (k q : Nat) (v : Int) (b a : Bool) (s : State) :
    OnlyNotices s (notifyAlarm c k q v b a s) := by
  unfold notifyAlarm
  split
  · exact notify_notices _ s
  · exact .refl s

theorem notifyAlarms_notices (c : ThresholdClass) (q : Nat) (v : Int) (b a : Quad) (s : State) :
    OnlyNotices s (notifyAlarms c q v b a s) :=
  (notifyAlarm_notices _ _ _ _ _ _ s).trans (notifyAlarm_notices _ _ _ _ _ _ _)

theorem compareUp_gateless (v : Int) (s : State) : Gateless s (compareUp v s) :=
  (onMonitor_gateless s _).trans (notifyAlarms_notices _ _ _ _ _ _).gateless

theorem compareDown_gateless (v : Int) (s : State) : Gateless s (compareDown v s) :=
  (onMonitor_gateless s _).trans (notifyAlarms_notices _ _ _ _ _ _).gateless

theorem compareHead_gateless (v : Int) (s : State) : Gateless s (compareHead v s) :=
  (onMonitor_gateless s _).trans (notifyAlarms_notices _ _ _ _ _ _).gateless

theorem handToMonitor_gateless (up down : Bool) (s : State) : Gateless s (handToMonitor up down s) := by
  have hup (t : State) : Gateless t (if up then compareUp s.levels.up.level t else t) := by
    split
    · exact compareUp_gateless _ _
    · exact .refl t
  have hdown (t : State) : Gateless t (if down then compareDown s.levels.down.level t else t) := by
    split
    · exact compareDown_gateless _ _
    · exact .refl t
  have hhead (t : State) : Gateless t (if s.levels.bothValid then compareHead s.levels.head t else t) := by
    split
    · exact compareHead_gateless _ _
    · exact .refl t
  exact ((hup s).trans (hdown _)).trans (hhead _)

/-- Outside RUN a formation is discarded by the evaluator (R64). -/
theorem evaluate_of_not_run (u d : Int) {s : State} (h : s.sup.device ≠ .run) : evaluate u d s = s := if_neg h

theorem handToEvaluator_of_not_run {s : State} (h : s.sup.device ≠ .run) : handToEvaluator s = s := by
  unfold handToEvaluator
  rw [evaluate_of_not_run _ _ h]
  exact ite_self _

theorem handOnFormation_gateless (up down : Bool) {s : State} (h : s.sup.device ≠ .run) :
    Gateless s (handOnFormation up down s) := by
  have hchoose := (chooseOrder_aside 2 s).gateless
  have hdevice : (chooseOrder 2 s).2.sup.device ≠ .run := by rwa [hchoose.sup]
  have hmonitor := handToMonitor_gateless up down (chooseOrder 2 s).2
  unfold handOnFormation
  dsimp only
  split
  · rw [handToEvaluator_of_not_run (by rwa [hmonitor.sup])]
    exact hchoose.trans hmonitor
  · rw [handToEvaluator_of_not_run hdevice]
    exact hchoose.trans hmonitor

theorem goodSample_gateless (d : SampleData) (cs : List ChannelName) {s : State} (h : s.sup.device ≠ .run) :
    Gateless s (goodSample d cs s) := by
  rw [goodSample_eq, formHead_eq]
  have hbefore := (((onLevels_gateless s (LevelUnit.sampled s.store.control d cs)).trans
    (notifySide_notices .up s.levels.up.state _).gateless).trans
      (notifySide_notices .down s.levels.down.state _).gateless).trans (onLevels_gateless _ LevelUnit.withHead)
  exact hbefore.trans (handOnFormation_gateless _ _ (by rwa [hbefore.sup]))

/-- A fault sample is a change of the Level Unit, and notices (R39). -/
theorem faultSample_eq (cs : List ChannelName) (s : State) :
    faultSample cs s =
      notifySide .down s.levels.down.state (notifySide .up s.levels.up.state
        (s.onLevels fun l => (l.mapChannels (fun _ x => { x with state := .faulted, ageTimer := none }) cs).recomputedFor cs)) := by
  unfold faultSample
  rw [foldl_faultChannel, recomputeSides_eq]
  have hup := side_mapChannels (φ := fun _ x => { x with state := .faulted, ageTimer := none }) cs s.levels .up
  have hdown := side_mapChannels (φ := fun _ x => { x with state := .faulted, ageTimer := none }) cs s.levels .down
  simp only [LevelUnit.side] at hup hdown
  simp only [State.onLevels_levels, hup, hdown]
  rfl

theorem faultSample_gateless (cs : List ChannelName) (s : State) : Gateless s (faultSample cs s) := by
  rw [faultSample_eq]
  exact ((onLevels_gateless s _).trans (notifySide_notices _ _ _).gateless).trans (notifySide_notices _ _ _).gateless

theorem readData_gateless {f : Frame} (m : Bool) {s : State} (hkind : f.kind = kindSample) (h : s.sup.device ≠ .run) :
    Gateless s (readData f m s) := by
  unfold readData receiveSample
  rw [if_pos hkind]
  split
  · split
    · split
      · exact faultSample_gateless _ s
      · exact goodSample_gateless _ _ h
    · exact .refl s
  · exact .refl s

/-- Settles O24: the formation is discarded by the evaluator, and nothing else of a sample concerns a gate. -/
theorem sampleMovesNoGateOutsideRun : Obligations.SampleMovesNoGateOutsideRun := fun ws n f s hchecked hkind hdevice => by
  have hgateless : ∃ t, exec (.frameArrival ws n) s = .next t ∧ Gateless s t := by
    by_cases hsrc : f.src = s.ring.own
    · refine ⟨_, exec_frameArrival ws n s, ?_⟩
      rw [frameArrives_of_checked s hchecked, classify_of_own f s hsrc]
      exact (settle_aside s).gateless
    · by_cases hc : s.Consumes f
      · obtain ⟨t, u, hexec, hu, _, ht⟩ := exec_frameArrival_consumed ⟨hchecked, hsrc⟩ (.inl hkind) hc
        exact ⟨t, hexec, (hu.gateless.trans (readData_gateless _ hkind (by rwa [hu.sup]))).trans ht.gateless⟩
      · obtain ⟨t, hexec, ht⟩ := exec_frameArrival_unread ⟨hchecked, hsrc⟩ hc
        exact ⟨t, hexec, ht.gateless⟩
  obtain ⟨t, hexec, ht⟩ := hgateless
  exact ⟨t, hexec, ht.gates, ht.sup, ht.store, ht.hoists⟩

end Sys2Proof.Machine
end

section
/-!
PROOFS. Notices offered, and what an expired age timer and a fault sample make of the levels (R39, R42 to R45, R187 to
R189).
-/

namespace Sys2Proof.Machine

/-! ### One notice offered (R187, R188) -/

/-- A notice to `dest` with the tag it would take now. -/
def State.nextNotice (s : State) (dest : Byte) (p : List Word) : OwnFrame :=
  ⟨dest, kindNotice, nextTag s.post.tagCounter, p⟩

theorem offerNotice_of_no_dest {s : State} (dest : Byte) (p : List Word) (h : noticeDest s.store.control = 0#8) :
    offerNotice dest p s = s := if_pos h

theorem offerNotice_of_room {s : State} (dest : Byte) (p : List Word) (h : s.NoticeRoom) :
    offerNotice dest p s =
      arbitrate ((takeTag s).onReq (fun q => { q with report := q.report ++ [.notice (s.nextNotice dest p)] })) := by
  unfold offerNotice
  rw [if_neg h.1]
  exact if_pos h.2

theorem offerNotice_of_no_room {s : State} (dest : Byte) (p : List Word) (hdest : noticeDest s.store.control ≠ 0#8)
    (h : ¬s.NoticeRoom) :
    offerNotice dest p s = (takeTag s).onReq (fun q => { q with noticeLost := true }) := by
  unfold offerNotice
  rw [if_neg hdest]
  exact if_neg fun hroom => h ⟨hdest, hroom⟩

/-- A notice with room takes a tag and is placed. -/
theorem offerNotice_placed {s : State} (dest : Byte) (p : List Word) (h : s.NoticeRoom) :
    (offerNotice dest p s).post.tagCounter = nextTag s.post.tagCounter ∧
      (offerNotice dest p s).Placed (.notice (s.nextNotice dest p)) (s.nextNotice dest p) := by
  rw [offerNotice_of_room dest p h]
  have hflow := arbitrate_flow ((takeTag s).onReq fun q => { q with report := q.report ++ [.notice (s.nextNotice dest p)] })
  exact ⟨hflow.traffic.tagCounter, hflow.placed _ _ rfl (.inl (List.mem_append_right _ (List.mem_singleton_self _)))⟩

/-- After one notice there is room for another when there was room for two. -/
theorem offerNotice_noticeRoom {s : State} (dest : Byte) (p : List Word) (h : s.TwoNoticesRoom) :
    (offerNotice dest p s).NoticeRoom := by
  obtain ⟨hdest, hcount, hlength⟩ := h
  rw [offerNotice_of_room dest p ⟨hdest, by omega, by omega⟩]
  refine arbitrate_noticeRoom ⟨hdest, ?_, ?_⟩
  · have happend := noticeCount_append s.req.report [.notice (s.nextNotice dest p)]
    have hone : noticeCount [.notice (s.nextNotice dest p)] = 1 := rfl
    simp only [takeTag, State.onReq_req, State.onPost_req]
    omega
  · simp only [takeTag, State.onReq_req, State.onPost_req, List.length_append, List.length_singleton]
    omega

theorem TwoNoticesRoom.one {s : State} (h : s.TwoNoticesRoom) : s.NoticeRoom := by
  obtain ⟨hdest, hcount, hlength⟩ := h
  exact ⟨hdest, by omega, by omega⟩

/-! ### The SIDE-STATE notice (R45) -/

theorem notifySide_of_same {n : SideName} {p : SideState} {s : State} (h : (s.levels.side n).state = p) :
    notifySide n p s = s := if_pos h

theorem notifySide_of_changed {n : SideName} {p : SideState} {s : State} (h : (s.levels.side n).state ≠ p) :
    notifySide n p s = offerNotice (noticeDest s.store.control) (sideStatePayload n s.levels p) s := if_neg h

theorem pack_sideStates (a b : SideState) (c d : ChannelState) :
    pack [(a.code, 0), (b.code, 2), (c.code, 4), (d.code, 6)] =
      BitVec.ofNat 16 (a.code + 4 * b.code + 16 * c.code + 64 * d.code) := by
  simp only [pack, List.foldl_cons, List.foldl_nil]
  congr 1
  omega

/-- The words of a SIDE-STATE notice (11.3). -/
theorem nextNotice_side (s : State) (n : SideName) (p : SideState) :
    s.nextNotice (noticeDest s.store.control) (sideStatePayload n s.levels p) =
      s.sideNotice n s.levels p (nextTag s.post.tagCounter) := by
  have hhead : noticeHead 4 n.code = if n = .up then 0x0400#16 else 0x0401#16 := by cases n <;> rfl
  unfold State.nextNotice sideStatePayload
  rw [hhead, pack_sideStates]
  rfl

/-- The notice reads nothing but the sides and their channels. -/
theorem sideNotice_congr (s : State) {n : SideName} {l m : LevelUnit} (hside : m.side n = l.side n) (hpair : m.pair n = l.pair n)
    (p : SideState) (tag : Byte) : s.sideNotice n m p tag = s.sideNotice n l p tag := by
  simp only [State.sideNotice, hside, hpair]

/-! ### AGE_TIMER_EXPIRY -/

theorem recomputedFor_single (c : ChannelName) (l : LevelUnit) :
    l.recomputedFor [c] =
      l.setSide (sideOf c) { l.side (sideOf c) with state := l.sideState (sideOf c) } := by
  cases c <;> rfl

/-- One channel's side is recomputed, and announced when it changed (R43, R45). -/
theorem recomputeSides_single (c : ChannelName) (s : State) :
    recomputeSides [c] s =
      notifySide (sideOf c) (s.levels.side (sideOf c)).state (s.onLevels (LevelUnit.recomputedFor [c])) := by
  have hlevels (n : SideName) (p : SideState) (u : State) := (notifySide_notices n p u).levels
  rw [recomputeSides_eq]
  cases hc : sideOf c with
  | up =>
    refine notifySide_of_same ?_
    rw [hlevels, State.onLevels_levels, recomputedFor_single, hc]
    rfl
  | down =>
    rw [notifySide_of_same (n := .up)]
    · rfl
    · rw [State.onLevels_levels, recomputedFor_single, hc]
      rfl

/-- The Level Unit with the timer of a channel run out (R42, R43). -/
def LevelUnit.agedAt (l : LevelUnit) (c : ChannelName) : LevelUnit :=
  (l.setChannel c { l.channel c with state := .aged, ageTimer := none }).recomputedFor [c]

theorem ageExpires_of_running {c : ChannelName} {s : State} (h : (s.levels.channel c).ageTimer.isSome = true) :
    ageExpires c s = notifySide (sideOf c) (s.levels.side (sideOf c)).state (s.onLevels fun l => l.agedAt c) := by
  have hnone : ¬(s.levels.channel c).ageTimer.isNone = true := by
    rw [Option.isNone_eq_false_iff.mpr h]
    nofun
  unfold ageExpires
  rw [if_neg hnone, recomputeSides_single]
  have hside := side_setChannel s.levels c { s.levels.channel c with state := .aged, ageTimer := none } (sideOf c)
  have hlevels (φ : Channel → Channel) : (s.onChannel c φ).levels = s.levels.setChannel c (φ (s.levels.channel c)) := rfl
  rw [hlevels, hside]
  rfl

theorem exec_ageTimerExpiry (c : ChannelName) (s : State) :
    exec (.ageTimerExpiry c) s = .next (settle (ageExpires c s)) := rfl

/-- The side's state as the claim writes it (R43). -/
theorem agedAt_eq (l : LevelUnit) (c : ChannelName) :
    let aged := l.setChannel c { l.channel c with state := .aged, ageTimer := none }
    l.agedAt c = aged.setSide (sideOf c) { l.side (sideOf c) with
      state := if (aged.pair (sideOf c)).1.state = .fresh ∨ (aged.pair (sideOf c)).2.state = .fresh then .valid
        else if (l.side (sideOf c)).formed = true then .stale else .noData } := by
  unfold LevelUnit.agedAt
  rw [recomputedFor_single]
  simp only [LevelUnit.sideState, side_setChannel, Bool.or_eq_true, decide_eq_true_eq]

/-- Settles O21: the side is recomputed once, and its notice has room, no room, or no destination. -/
theorem ageTimerAgesChannel : Obligations.AgeTimerAgesChannel := fun c s => by
  refine ⟨fun hstopped hs => ?_, fun hrunning => ?_⟩
  · have hsame : ageExpires c s = s := by simp [ageExpires, hstopped]
    rw [exec_ageTimerExpiry, hsame, settle_of_settled s hs]
  · intro n aged fresh after levels
    have hlevels : levels = s.levels.agedAt c := (agedAt_eq s.levels c).symm
    have hstate : (levels.side n).state = after := by simp [levels, side_setSide]
    have hexec := exec_ageTimerExpiry c s
    rw [ageExpires_of_running hrunning, show (s.onLevels fun l => l.agedAt c) = { s with levels := levels } by
      rw [hlevels]; rfl] at hexec
    have hnotices := notifySide_notices n (s.levels.side n).state { s with levels := levels }
    refine ⟨_, hexec, hnotices.trans (settle_traffic _).onlyNotices, fun hsame => ?_, fun hchanged hroom => ?_,
      fun hchanged hdest hroom => ?_, fun hdest => ?_⟩
    · rw [notifySide_of_same (s := { s with levels := levels }) (hstate.trans hsame)]
      exact settle_traffic _
    · rw [notifySide_of_changed (s := { s with levels := levels }) (by rwa [hstate])]
      have hroom' : State.NoticeRoom { s with levels := levels } := hroom
      obtain ⟨htag, hplaced⟩ := offerNotice_placed (noticeDest s.store.control)
        (sideStatePayload n levels (s.levels.side n).state) hroom'
      have hflow := settle_flow (offerNotice (noticeDest s.store.control)
        (sideStatePayload n levels (s.levels.side n).state) { s with levels := levels })
      refine ⟨hflow.traffic.tagCounter.trans htag, hflow.placed _ _ rfl ?_⟩
      have hnotice := nextNotice_side { s with levels := levels } n (s.levels.side n).state
      rw [hnotice] at hplaced
      exact hplaced
    · rw [notifySide_of_changed (s := { s with levels := levels }) (by rwa [hstate]),
        offerNotice_of_no_room (s := { s with levels := levels }) _ _ hdest hroom]
      refine ⟨settle_traffic _, fun hs => ?_⟩
      have hmay : State.mayExecute ((takeTag { s with levels := levels }).onReq fun q => { q with noticeLost := true }) = false :=
        hs.1
      rw [settle_of_not_mayExecute _ hmay]
      rfl
    · by_cases hsame : after = (s.levels.side n).state
      · rw [notifySide_of_same (s := { s with levels := levels }) (hstate.trans hsame)]
        exact settle_traffic _
      · rw [notifySide_of_changed (s := { s with levels := levels }) (by rwa [hstate]),
          offerNotice_of_no_dest (s := { s with levels := levels }) _ _ hdest]
        exact settle_traffic _

/-! ### Fault samples -/

/-- What data leave besides levels and monitors: all but the Pass Filter, the orders and the transit losses. -/
structure Apart (s t : State) : Prop where
  own : t.ring.own = s.ring.own
  commissioning : t.ring.commissioning = s.ring.commissioning
  checkErrors : t.ring.checkErrors = s.ring.checkErrors
  forcedIndex : t.forcedIndex = s.forcedIndex
  gates : t.gates = s.gates
  hoists : ∀ h, (t.hoist h).exceptPhase = (s.hoist h).exceptPhase
  up : t.monitor.up = s.monitor.up
  down : t.monitor.down = s.monitor.down
  head : t.monitor.head = s.monitor.head
  sup : t.sup = s.sup
  requestLost : t.req.requestLost = s.req.requestLost
  store : t.store = s.store
  pending : t.pending = s.pending

theorem Apart.trans {s t u : State} (h : Apart s t) (k : Apart t u) : Apart s u where
  own := k.own.trans h.own
  commissioning := k.commissioning.trans h.commissioning
  checkErrors := k.checkErrors.trans h.checkErrors
  forcedIndex := k.forcedIndex.trans h.forcedIndex
  gates := k.gates.trans h.gates
  hoists := fun x => (k.hoists x).trans (h.hoists x)
  up := k.up.trans h.up
  down := k.down.trans h.down
  head := k.head.trans h.head
  sup := k.sup.trans h.sup
  requestLost := k.requestLost.trans h.requestLost
  store := k.store.trans h.store
  pending := k.pending.trans h.pending

theorem OnlyNotices.apart {s t : State} (h : OnlyNotices s t) : Apart s t :=
  ⟨h.own, h.commissioning, h.checkErrors, h.forcedIndex, h.gates, h.hoists, h.up, h.down, h.head, h.sup, h.requestLost,
    h.store, h.pending⟩

theorem Aside.apart {s t : State} (h : Aside s t) : Apart s t :=
  ⟨h.own, h.commissioning, h.checkErrors, h.forcedIndex, h.gates, h.exceptPhase, h.up, h.down, h.head, h.sup, h.requestLost,
    h.store, h.pending⟩

theorem onLevels_apart (s : State) (φ : LevelUnit → LevelUnit) : Apart s (s.onLevels φ) :=
  ⟨rfl, rfl, rfl, rfl, rfl, fun _ => rfl, rfl, rfl, rfl, rfl, rfl, rfl, rfl⟩

/-- With the figures that may have moved filled in, only notices are left. -/
theorem Apart.onlyNotices {s t : State} (h : Apart s t) :
    OnlyNotices { s with levels := t.levels, pass := t.pass, orders := t.orders,
                         ring := { s.ring with transitLosses := t.ring.transitLosses } } t :=
  { h with transitLosses := rfl, pass := rfl, levels := rfl, orders := rfl }

/-- The Level Unit as a fault sample leaves it (R39). -/
def LevelUnit.faultedAt (l : LevelUnit) (cs : List ChannelName) : LevelUnit :=
  (l.mapChannels (fun _ x => { x with state := .faulted, ageTimer := none }) cs).recomputedFor cs

theorem faultSample_levels (cs : List ChannelName) (s : State) :
    (faultSample cs s).levels = s.levels.faultedAt cs ∧ OnlyNotices (s.onLevels fun l => l.faultedAt cs) (faultSample cs s) := by
  rw [faultSample_eq]
  have h := (notifySide_notices .up s.levels.up.state (s.onLevels fun l => l.faultedAt cs)).trans
    (notifySide_notices .down s.levels.down.state _)
  exact ⟨h.levels, h⟩

theorem readSample_of_long {f : Frame} (h : 3 ≤ f.payload.length) :
    readSample f = some ⟨(f.word 0).toInt, (f.word 1).toInt, (f.word 2).getLsbD 0, (f.word 2).getLsbD 1⟩ := by
  simp [readSample, h]

theorem isLevelStation_iff (s : State) {a : Byte} (h : a ≠ 0#8) :
    s.isLevelStation a = true ↔ ∃ c, binding s.store.control c = a := by
  simp only [State.isLevelStation, h, ne_eq, not_false_eq_true, decide_true, Bool.true_and, List.any_eq_true,
    decide_eq_true_eq]
  exact ⟨fun ⟨c, _, hc⟩ => ⟨c, hc⟩, fun ⟨c, hc⟩ => ⟨c, by cases c <;> simp, hc⟩⟩

/-- A fault sample from no level station names no channel. -/
theorem channelsAt_of_no_station {s : State} {a : Byte} (ha : a ≠ 0#8) (h : s.isLevelStation a = false) : s.channelsAt a = [] := by
  rw [List.eq_nil_iff_forall_not_mem]
  intro c hc
  rw [mem_channelsAt] at hc
  rw [(isLevelStation_iff s ha).mpr ⟨c, hc⟩] at h
  cases h

theorem faultedAt_nil (l : LevelUnit) : l.faultedAt [] = l := rfl

/-- A fault sample read is a change of the Level Unit and notices, whoever sends it. -/
theorem readData_of_fault {f : Frame} (m : Bool) {s : State} (hkind : f.kind = kindSample) (hsrc : f.src ≠ 0#8)
    (hlen : 3 ≤ f.payload.length) (hfault : (f.word 2).getLsbD 1 = true) :
    (readData f m s).levels = s.levels.faultedAt (s.channelsAt f.src) ∧
      OnlyNotices (s.onLevels fun l => l.faultedAt (s.channelsAt f.src)) (readData f m s) := by
  unfold readData receiveSample
  rw [if_pos hkind, readSample_of_long hlen]
  simp only [hfault, if_true]
  split
  · exact faultSample_levels _ s
  next hstation =>
    rw [channelsAt_of_no_station hsrc (by simpa using hstation)]
    exact ⟨(faultedAt_nil _).symm, .refl s⟩

section faulted

variable {cs : List ChannelName} (hcs : cs.Nodup) (l : LevelUnit)

include hcs

theorem channel_faultedAt (c : ChannelName) :
    (l.faultedAt cs).channel c = if c ∈ cs then { l.channel c with state := .faulted, ageTimer := none } else l.channel c := by
  rw [LevelUnit.faultedAt, channel_recomputedFor, channel_mapChannels _ hcs]

omit hcs in
theorem side_faultedAt (n : SideName) :
    (l.faultedAt cs).side n = if reaches cs n then { l.side n with state := (l.faultedAt cs).sideState n } else l.side n := by
  unfold LevelUnit.faultedAt
  rw [side_recomputedFor, side_mapChannels, sideState_recomputedFor]

end faulted

/-- Settles O23: the channels of the source are faulted and their sides recomputed; all else is notices and traffic. -/
theorem faultSampleFormsNothing : Obligations.FaultSampleFormsNothing := fun ws k f s hf hc hkind hsrc hlen hfault => by
  obtain ⟨t, u, hexec, hu, _, ht⟩ := exec_frameArrival_consumed hf (.inl hkind) hc
  obtain ⟨hread, hnotices⟩ := readData_of_fault (s.matches f) (s := u) hkind hsrc hlen hfault
  have hchannels : u.channelsAt f.src = s.channelsAt f.src := by simp [State.channelsAt, hu.store]
  have hlevels : t.levels = s.levels.faultedAt (s.channelsAt f.src) := by
    rw [ht.levels, hread, hu.levels, hchannels]
  have hcs := channelsAt_nodup s f.src
  have hreach (n : SideName) : reaches (s.channelsAt f.src) n = true ↔ ∃ c, sideOf c = n ∧ binding s.store.control c = f.src := by
    rw [reaches_iff]
    simp only [mem_channelsAt]
    exact ⟨fun ⟨c, h1, h2⟩ => ⟨c, h2, h1⟩, fun ⟨c, h1, h2⟩ => ⟨c, h2, h1⟩⟩
  have hapart : Apart s t := ((hu.apart.trans (onLevels_apart u _)).trans hnotices.apart).trans ht.apart
  refine ⟨t, hexec, fun c hc => ?_, fun c hc => ?_, fun n => ?_, ?_, hapart.onlyNotices, fun hown => ?_⟩
  · rw [hlevels, channel_faultedAt hcs, if_pos ((mem_channelsAt s f.src c).mpr hc)]
  · rw [hlevels, channel_faultedAt hcs, if_neg fun h => hc ((mem_channelsAt s f.src c).mp h)]
  · have hside := side_faultedAt (cs := s.channelsAt f.src) s.levels n
    rw [← hlevels] at hside
    refine ⟨?_, fun hn => ?_, fun hn => ?_⟩
    · split at hside <;> rw [hside]
    · rw [if_pos ((hreach n).mpr hn)] at hside
      rw [hside]
    · rw [if_neg fun h => by obtain ⟨c, h1, h2⟩ := (hreach n).mp h; exact hn c h1 h2] at hside
      rw [hside]
  · rw [hlevels]
    unfold LevelUnit.faultedAt
    simp
  · have hexec' := exec_frameArrival_own_data hf (.inl hkind) hown
    obtain rfl := Host.Outcome.next.inj (hexec.symm.trans hexec')
    obtain ⟨hread', hnotices'⟩ := readData_of_fault true (s := s) hkind hsrc hlen hfault
    have h := hnotices'.trans (settle_traffic _).onlyNotices
    rw [hlevels]
    exact h

end Sys2Proof.Machine
end

section
/-!
PROOFS. What a sequencer and the evaluator make of a gate is a matter of that gate, its hoists' figures, the tables and the
device state: in states alike in these they do the same (R66, R105 to R119).
-/

namespace Sys2Proof.Machine

/-! ### States alike for a gate -/

/-- `s` and `t` are alike in all that the sequencer of gate `g` and the evaluator look at for it. -/
structure AlikeAt (g : GateNo) (s t : State) : Prop where
  gate : t.gate g = s.gate g
  store : t.store = s.store
  sup : t.sup = s.sup
  forcedIndex : t.forcedIndex = s.forcedIndex
  position : ∀ h, (t.hoist h).position = (s.hoist h).position
  drive : ∀ h, (t.hoist h).drive = (s.hoist h).drive

theorem AlikeAt.refl (g : GateNo) (s : State) : AlikeAt g s s := ⟨rfl, rfl, rfl, rfl, fun _ => rfl, fun _ => rfl⟩

theorem AlikeAt.symm {g : GateNo} {s t : State} (h : AlikeAt g s t) : AlikeAt g t s :=
  ⟨h.gate.symm, h.store.symm, h.sup.symm, h.forcedIndex.symm, fun k => (h.position k).symm, fun k => (h.drive k).symm⟩

theorem AlikeAt.trans {g : GateNo} {s t u : State} (h : AlikeAt g s t) (k : AlikeAt g t u) : AlikeAt g s u :=
  ⟨k.gate.trans h.gate, k.store.trans h.store, k.sup.trans h.sup, k.forcedIndex.trans h.forcedIndex,
    fun j => (k.position j).trans (h.position j), fun j => (k.drive j).trans (h.drive j)⟩

theorem SameSurroundings.alikeAt {g : GateNo} {s t : State} (h : SameSurroundings s t) (hgate : t.gate g = s.gate g)
    (hsup : t.sup = s.sup) : AlikeAt g s t :=
  ⟨hgate, h.store, hsup, h.forcedIndex, h.position, h.drive⟩

theorem OnlyNotices.alikeAt {s t : State} (h : OnlyNotices s t) (g : GateNo) : AlikeAt g s t :=
  h.surroundings.alikeAt (h.gate g) h.sup

theorem Aside.alikeAt {s t : State} (h : Aside s t) (g : GateNo) : AlikeAt g s t where
  gate := h.gate g
  store := h.store
  sup := h.sup
  forcedIndex := h.forcedIndex
  position := fun k => Hoist.position_of_exceptPhase (h.exceptPhase k)
  drive := fun k => Hoist.drive_of_exceptPhase (h.exceptPhase k)

/-- Work at other gates leaves this one alike (R66). -/
theorem Within.alikeAt {G : GateNo → Prop} {s t : State} (h : Within G s t) {g : GateNo} (hg : ¬G g)
    (hdevice : s.sup.device ≠ .drain) : AlikeAt g s t :=
  h.surroundings.alikeAt (h.gates g hg) (h.sup_of_not_drain hdevice)

section reads

variable {g : GateNo} {s t : State} (h : AlikeAt g s t)

include h

theorem AlikeAt.record (k : GateNo) : t.record k = s.record k := by simp [State.record, h.store]

theorem AlikeAt.gatePosition (k : GateNo) : t.gatePosition k = s.gatePosition k := by
  simp [State.gatePosition, State.leftOf, State.rightOf, h.position]

theorem AlikeAt.bothStill (k : GateNo) : t.bothStill k = s.bothStill k := by
  unfold State.bothStill State.leftOf State.rightOf
  rw [h.drive, h.drive]

theorem AlikeAt.withinTolerance (k : GateNo) (x : Int) : t.withinTolerance k x = s.withinTolerance k x := by
  unfold State.withinTolerance State.leftOf State.rightOf
  rw [h.position, h.position, h.record]

theorem AlikeAt.inWindow (k : GateNo) (x : Int) : t.inWindow k x = s.inWindow k x := by
  simp [State.inWindow, h.record]

theorem AlikeAt.mayIssue : t.mayIssue g = s.mayIssue g := by
  simp [State.mayIssue, h.gate, h.sup, h.bothStill]

theorem AlikeAt.capture (k : GateNo) (x : Int) (v : Speed) (o : Origin) : t.capture k x v o = s.capture k x v o := by
  simp [State.capture, h.gatePosition]

theorem AlikeAt.resolveSpeed (k : GateNo) (v : Option Speed) : t.resolveSpeed k v = s.resolveSpeed k v := by
  simp [State.resolveSpeed, h.record]

theorem AlikeAt.scheduleOf (k : GateNo) : t.scheduleOf k = s.scheduleOf k := by
  simp [State.scheduleOf, State.schedule, State.record, h.store]

theorem AlikeAt.autoTarget (u d : Int) : t.autoTarget g u d = s.autoTarget g u d := by
  simp [State.autoTarget, State.rawTarget, State.poolAlarm, h.record, h.gate, h.scheduleOf, h.store, h.forcedIndex]

theorem AlikeAt.closureDropped : t.closureDropped g = s.closureDropped g := by
  simp [State.closureDropped, h.gate, h.record]

theorem AlikeAt.closureCondition (u d : Int) : t.closureCondition g u d = s.closureCondition g u d := by
  simp [State.closureCondition, h.scheduleOf]

theorem AlikeAt.takenUp : t.takenUp g = s.takenUp g := by
  simp [State.takenUp, h.gate, h.scheduleOf]

/-- The same change of the gate keeps the states alike. -/
theorem AlikeAt.onGate (φ : Gate → Gate) : AlikeAt g (s.onGate g φ) (t.onGate g φ) :=
  { h with gate := by rw [State.gate_onGate_self, State.gate_onGate_self, h.gate] }

end reads

/-! ### Operations as changes of the gate -/

theorem notify_alikeAt (g : GateNo) (p : List Word) (s : State) : AlikeAt g s (notify p s) := (notify_notices p s).alikeAt g

theorem postStops_alikeAt (g k : GateNo) (s : State) : AlikeAt g s (postStops k s) :=
  (postStops_surroundings k s).alikeAt (postStops_gate k g s) (postStops_sup k s)

/-- For the gate a start is its change of the gate (R110). -/
theorem startMove_alikeAt (g : GateNo) (c : MoveContext) (s : State) :
    AlikeAt g (s.onGate g fun x => x.started c (moveTimeLimit (s.record g))) (startMove g c s) := by
  rw [startMove_eq]
  have hposts := (postMoves_surroundings g c.target c.speed
    (s.onGate g fun x => x.started c (moveTimeLimit (s.record g)))).alikeAt (g := g) (postMoves_gate _ _ _ _ _)
      (postMoves_sup _ _ _ _)
  exact hposts.trans ((startSettle_surroundings g _).alikeAt rfl rfl)

/-- For the gate a completion is its change of the gate, in RUN (R113). -/
theorem completeMove_alikeAt (g : GateNo) (c : MoveContext) {s : State} (hdevice : s.sup.device ≠ .drain) :
    AlikeAt g (s.onGate g fun x => x.completed c.target c.origin) (completeMove g c s) := by
  have hdrain : testDrain (s.onGate g fun x => x.completed c.target c.origin) =
      s.onGate g fun x => x.completed c.target c.origin := by simp [testDrain, hdevice]
  rw [completeMove_eq, hdrain]
  exact (notifyArrived_notices g c.target c.origin _).alikeAt g

section congruences

variable {g : GateNo} {s t : State} (h : AlikeAt g s t)

include h

theorem AlikeAt.startMove (c : MoveContext) : AlikeAt g (startMove g c s) (startMove g c t) := by
  have hchange := h.onGate fun x => x.started c (moveTimeLimit (s.record g))
  rw [← h.record g] at hchange
  have hs := startMove_alikeAt g c s
  rw [← h.record g] at hs
  exact (hs.symm.trans hchange).trans (startMove_alikeAt g c t)

theorem AlikeAt.completeMove (c : MoveContext) (hdevice : s.sup.device ≠ .drain) :
    AlikeAt g (completeMove g c s) (completeMove g c t) :=
  ((completeMove_alikeAt g c hdevice).symm.trans (h.onGate _)).trans
    (completeMove_alikeAt g c (by rwa [h.sup]))

theorem AlikeAt.issueMove (c : MoveContext) (hdevice : s.sup.device ≠ .drain) :
    AlikeAt g (issueMove g c s) (issueMove g c t) := by
  rw [issueMove_eq, issueMove_eq, h.withinTolerance]
  split
  · exact h.completeMove c hdevice
  · exact h.startMove c

theorem AlikeAt.issueClosure (hdevice : s.sup.device ≠ .drain) : AlikeAt g (issueClosure g s) (issueClosure g t) := by
  unfold Machine.issueClosure
  dsimp only
  rw [h.record, h.capture]
  refine ((notify_alikeAt g _ _).symm.trans ?_).trans (notify_alikeAt g _ _)
  exact (h.onGate fun x => { x with closurePending := false }).issueMove _ hdevice

theorem AlikeAt.takeEntry (e : Entry) (hdevice : s.sup.device ≠ .drain) : AlikeAt g (takeEntry g e s) (takeEntry g e t) := by
  have htail := h.onGate fun x => { x with queue := x.queue.tail }
  unfold Machine.takeEntry
  dsimp only
  rw [h.gate, h.inWindow, h.capture, h.resolveSpeed]
  split
  · exact htail.issueMove _ hdevice
  · exact (((notifyRange_notices _ _ _ _).alikeAt g).symm.trans (htail.onGate fun x => { x with rangeFlag := true })).trans
      ((notifyRange_notices _ _ _ _).alikeAt g)

theorem AlikeAt.examineFor (n : Nat) : AlikeAt g (examineFor n g s) (examineFor n g t) := by
  induction n generalizing s t with
  | zero => exact h
  | succ n ih =>
    unfold Machine.examineFor
    rw [h.mayIssue, h.gate]
    split
    next hmay =>
      have hdevice : s.sup.device ≠ .drain := by
        rw [((mayIssue_iff s g).mp hmay).2.1]
        nofun
      split
      · exact ih (h.issueClosure hdevice)
      · split
        · exact h
        · split
          · exact h
          · exact ih (h.takeEntry _ hdevice)
    next => exact h

/-- An examination is a matter of the gate (R108). -/
theorem AlikeAt.examine : AlikeAt g (examine g s) (examine g t) := by
  unfold Machine.examine
  rw [h.gate]
  exact h.examineFor _

theorem AlikeAt.takeRequest (e : Entry) : AlikeAt g (takeRequest g e s) (takeRequest g e t) := (h.onGate _).examine

theorem AlikeAt.takeNoClosure : AlikeAt g (takeNoClosure g s) (takeNoClosure g t) := by
  unfold Machine.takeNoClosure
  dsimp only
  rw [h.gate]
  split
  · exact (h.onGate _).examine
  · exact h.onGate _

theorem AlikeAt.takeClosureHeld : AlikeAt g (takeClosureHeld g s) (takeClosureHeld g t) := by
  unfold Machine.takeClosureHeld
  rw [h.gate]
  split
  · exact h.onGate _
  · exact h

theorem AlikeAt.takeClosure : AlikeAt g (takeClosure g s) (takeClosure g t) := by
  unfold Machine.takeClosure
  dsimp only
  rw [h.gate, h.record]
  split
  · refine ((notify_alikeAt g _ _).symm.trans ?_).trans (notify_alikeAt g _ _)
    have hclear := h.onGate fun y => { y with closurePending := false }
    unfold retarget
    rw [hclear.capture]
    exact hclear.startMove _
  · split
    · exact (h.onGate _).examine
    · exact h.onGate _
    · exact h

theorem AlikeAt.setBlocked (b : Bool) : AlikeAt g (setBlocked g b s) (setBlocked g b t) := h.onGate _

theorem AlikeAt.evaluateFaulty (u d : Int) : AlikeAt g (evaluateFaulty g u d s) (evaluateFaulty g u d t) := by
  unfold Machine.evaluateFaulty
  dsimp only
  rw [h.closureCondition, h.gate, h.scheduleOf]
  split
  · split
    · exact h.takeClosureHeld
    · exact ((((notify_alikeAt g _ _).symm.trans h.takeClosureHeld).trans (notify_alikeAt g _ _))).setBlocked true
  · exact h.takeNoClosure.setBlocked false

theorem AlikeAt.evaluateFull (u d : Int) : AlikeAt g (evaluateFull g u d s) (evaluateFull g u d t) := by
  have hclear := h.setBlocked false
  unfold Machine.evaluateFull
  dsimp only
  rw [hclear.closureCondition, hclear.closureDropped, hclear.autoTarget, hclear.gate, hclear.scheduleOf]
  split
  · split
    · exact hclear.takeClosureHeld
    · exact hclear.takeClosure
  · split
    · exact hclear.takeNoClosure
    · exact hclear.takeRequest _

/-- One gate of an evaluation is a matter of that gate (R65). -/
theorem AlikeAt.evaluateGate (u d : Int) : AlikeAt g (evaluateGate u d g s) (evaluateGate u d g t) := by
  unfold Machine.evaluateGate
  rw [h.takenUp, h.gate]
  split
  · split
    · exact h.evaluateFaulty u d
    · exact h.evaluateFull u d
  · exact h.setBlocked false

end congruences

/-! ### Work handed to every gate -/

/-- Handed to every gate of a list once, work at single gates comes to each gate as if alone (R66). -/
theorem foldl_alikeAt {f : GateNo → State → State} {g : GateNo} (hf : ∀ k s, Works (· = k) s (f k s))
    (hcongr : ∀ s t, AlikeAt g s t → AlikeAt g (f g s) (f g t)) {gs : List GateNo} (hgs : gs.Nodup) {s : State}
    (hdevice : s.sup.device ≠ .drain) :
    AlikeAt g (if g ∈ gs then f g s else s) (gs.foldl (fun acc k => f k acc) s) := by
  induction gs generalizing s with
  | nil => simpa using AlikeAt.refl g s
  | cons k gs ih =>
    obtain ⟨hk, hgs⟩ := List.nodup_cons.mp hgs
    have hdevice' : (f k s).sup.device ≠ .drain := by rwa [(hf k s).within.device]
    have hrest := ih hgs hdevice'
    rw [List.foldl_cons]
    by_cases e : g = k
    · subst e
      rw [if_neg hk] at hrest
      simpa using hrest
    · have hother := (hf k s).within.alikeAt (g := g) e hdevice
      by_cases hmem : g ∈ gs
      · rw [if_pos hmem] at hrest
        rw [if_pos (List.mem_cons_of_mem k hmem)]
        exact (hcongr _ _ hother).trans hrest
      · rw [if_neg hmem] at hrest
        rw [if_neg (by simp [e, hmem])]
        exact hother.trans hrest

/-- In RUN each gate stands after an evaluation as its own evaluation leaves it (R65, R66). -/
theorem evaluate_alikeAt (u d : Int) {s : State} (hrun : s.sup.device = .run) (g : GateNo) :
    AlikeAt g (evaluateGate u d g s) (evaluate u d s) := by
  have h := foldl_alikeAt (f := evaluateGate u d) (g := g) (fun k t => evaluateGate_works (G := (· = k)) rfl u d t)
    (fun _ _ h => h.evaluateGate u d) allGates_nodup (s := s) (by rw [hrun]; nofun)
  rw [if_pos (mem_allGates g)] at h
  unfold evaluate
  rw [if_pos hrun]
  exact h

/-- An evaluation is a matter of gates, tables, figures and the device state. -/
theorem AlikeAt.evaluate {g : GateNo} {s t : State} (h : AlikeAt g s t) (u d : Int) :
    AlikeAt g (evaluate u d s) (evaluate u d t) := by
  by_cases hrun : s.sup.device = .run
  · exact ((evaluate_alikeAt u d hrun g).symm.trans (h.evaluateGate u d)).trans
      (evaluate_alikeAt u d (by rwa [h.sup]) g)
  · rw [evaluate_of_not_run u d hrun, evaluate_of_not_run u d (by rwa [h.sup])]
    exact h

end Sys2Proof.Machine
end

section
/-!
PROOFS. A good sample: channels, sides, head, comparisons and the evaluation, in either order of the hand-on (R40 to R52,
R145 to R147).
-/

namespace Sys2Proof.Machine

/-! ### Comparisons (R146, R147) -/

theorem compared_from (q : Quantity) (t : Vector Word 19) (c : ThresholdClass) (v : Int) (inhibited : Bool) :
    ComparedFrom q (q.compared t c v inhibited) t c v inhibited :=
  ⟨rfl, rfl, rfl, rfl, rfl, rfl, rfl, rfl⟩

/-- What a comparison of a level leaves: the surroundings, gates and hoists. -/
structure Unmoved (s t : State) : Prop where
  surroundings : SameSurroundings s t
  gateless : Gateless s t

theorem Unmoved.refl (s : State) : Unmoved s s := ⟨.refl s, .refl s⟩

theorem Unmoved.trans {s t u : State} (h : Unmoved s t) (k : Unmoved t u) : Unmoved s u :=
  ⟨h.surroundings.trans k.surroundings, h.gateless.trans k.gateless⟩

theorem OnlyNotices.unmoved {s t : State} (h : OnlyNotices s t) : Unmoved s t := ⟨h.surroundings, h.gateless⟩

theorem onMonitor_unmoved (s : State) (φ : Monitor → Monitor) : Unmoved s (s.onMonitor φ) :=
  ⟨by constructor <;> simp, onMonitor_gateless s φ⟩

/-- Each comparison changes its own quantity. -/
theorem compareUp_monitor (v : Int) (s : State) :
    (compareUp v s).monitor.up = s.monitor.up.compared s.store.thresholds .levelU v false ∧
      (compareUp v s).monitor.down = s.monitor.down ∧ (compareUp v s).monitor.head = s.monitor.head :=
  have h := notifyAlarms_notices .levelU 0 v s.monitor.up.flags (s.monitor.up.compared s.store.thresholds .levelU v false).flags
    (s.onMonitor fun m => { m with up := s.monitor.up.compared s.store.thresholds .levelU v false })
  ⟨h.up, h.down, h.head⟩

theorem compareDown_monitor (v : Int) (s : State) :
    (compareDown v s).monitor.up = s.monitor.up ∧
      (compareDown v s).monitor.down = s.monitor.down.compared s.store.thresholds .levelD v false ∧
      (compareDown v s).monitor.head = s.monitor.head :=
  have h := notifyAlarms_notices .levelD 1 v s.monitor.down.flags
    (s.monitor.down.compared s.store.thresholds .levelD v false).flags
    (s.onMonitor fun m => { m with down := s.monitor.down.compared s.store.thresholds .levelD v false })
  ⟨h.up, h.down, h.head⟩

theorem compareHead_monitor (v : Int) (s : State) :
    (compareHead v s).monitor.up = s.monitor.up ∧ (compareHead v s).monitor.down = s.monitor.down ∧
      (compareHead v s).monitor.head = s.monitor.head.compared s.store.thresholds .head v false :=
  have h := notifyAlarms_notices .head 2 v s.monitor.head.flags (s.monitor.head.compared s.store.thresholds .head v false).flags
    (s.onMonitor fun m => { m with head := s.monitor.head.compared s.store.thresholds .head v false })
  ⟨h.up, h.down, h.head⟩

theorem compareUp_unmoved (v : Int) (s : State) : Unmoved s (compareUp v s) :=
  (onMonitor_unmoved s _).trans (notifyAlarms_notices _ _ _ _ _ _).unmoved

theorem compareDown_unmoved (v : Int) (s : State) : Unmoved s (compareDown v s) :=
  (onMonitor_unmoved s _).trans (notifyAlarms_notices _ _ _ _ _ _).unmoved

theorem compareHead_unmoved (v : Int) (s : State) : Unmoved s (compareHead v s) :=
  (onMonitor_unmoved s _).trans (notifyAlarms_notices _ _ _ _ _ _).unmoved

/-- The quantities of the levels after a formation: each level formed compared, and no other (R145). -/
structure FormedFrom (s t : State) (l : LevelUnit) (up down : Bool) : Prop where
  up : t.monitor.up = if up then s.monitor.up.compared s.store.thresholds .levelU l.up.level false else s.monitor.up
  down : t.monitor.down =
    if down then s.monitor.down.compared s.store.thresholds .levelD l.down.level false else s.monitor.down
  head : t.monitor.head =
    if l.bothValid then s.monitor.head.compared s.store.thresholds .head l.head false else s.monitor.head

theorem handToMonitor_effects (up down : Bool) (s : State) :
    Unmoved s (handToMonitor up down s) ∧ FormedFrom s (handToMonitor up down s) s.levels up down := by
  unfold handToMonitor
  dsimp only
  generalize h1 : (if up then compareUp s.levels.up.level s else s) = s1
  generalize h2 : (if down then compareDown s.levels.down.level s1 else s1) = s2
  generalize h3 : (if s.levels.bothValid then compareHead s.levels.head s2 else s2) = s3
  have hfirst : Unmoved s s1 ∧ s1.monitor.up =
      (if up then s.monitor.up.compared s.store.thresholds .levelU s.levels.up.level false else s.monitor.up) ∧
        s1.monitor.down = s.monitor.down ∧ s1.monitor.head = s.monitor.head := by
    rw [← h1]
    split
    · exact ⟨compareUp_unmoved _ _, compareUp_monitor _ _⟩
    · exact ⟨.refl s, rfl, rfl, rfl⟩
  obtain ⟨hu1, hup1, hdown1, hhead1⟩ := hfirst
  have hsecond : Unmoved s1 s2 ∧ s2.monitor.up = s1.monitor.up ∧ s2.monitor.down =
      (if down then s1.monitor.down.compared s1.store.thresholds .levelD s.levels.down.level false else s1.monitor.down) ∧
        s2.monitor.head = s1.monitor.head := by
    rw [← h2]
    split
    · exact ⟨compareDown_unmoved _ _, compareDown_monitor _ _⟩
    · exact ⟨.refl s1, rfl, rfl, rfl⟩
  obtain ⟨hu2, hup2, hdown2, hhead2⟩ := hsecond
  have hthird : Unmoved s2 s3 ∧ s3.monitor.up = s2.monitor.up ∧ s3.monitor.down = s2.monitor.down ∧ s3.monitor.head =
      (if s.levels.bothValid then s2.monitor.head.compared s2.store.thresholds .head s.levels.head false
        else s2.monitor.head) := by
    rw [← h3]
    split
    · exact ⟨compareHead_unmoved _ _, compareHead_monitor _ _⟩
    · exact ⟨.refl s2, rfl, rfl, rfl⟩
  obtain ⟨hu3, hup3, hdown3, hhead3⟩ := hthird
  have hstore1 := hu1.surroundings.store
  have hstore2 := hu2.surroundings.store.trans hstore1
  exact ⟨(hu1.trans hu2).trans hu3,
    ⟨by rw [hup3, hup2, hup1], by rw [hdown3, hdown2, hdown1, hstore1],
      by rw [hhead3, hhead2, hhead1, hstore2]⟩⟩

/-! ### The hand-on (R52) -/

/-- What an evaluation leaves, besides gates and posts. -/
structure Evaluated (s t : State) : Prop where
  surroundings : SameSurroundings s t
  sup : t.sup = s.sup
  up : t.monitor.up = s.monitor.up
  down : t.monitor.down = s.monitor.down
  head : t.monitor.head = s.monitor.head
  monitors : ∀ h, (t.hoist h).monitor = (s.hoist h).monitor

theorem evaluate_evaluated (u d : Int) (s : State) : Evaluated s (evaluate u d s) := by
  by_cases hrun : s.sup.device = .run
  · have h := (evaluate_works u d s).within
    exact ⟨h.surroundings, h.sup_of_not_drain (by rw [hrun]; nofun), h.up, h.down, h.head, h.monitors⟩
  · rw [evaluate_of_not_run u d hrun]
    exact ⟨.refl s, rfl, rfl, rfl, rfl, fun _ => rfl⟩

theorem handToEvaluator_eq (s : State) :
    handToEvaluator s = if s.levels.bothValid then evaluate s.levels.up.level s.levels.down.level s else s := rfl

theorem handToEvaluator_evaluated (s : State) : Evaluated s (handToEvaluator s) := by
  rw [handToEvaluator_eq]
  split
  · exact evaluate_evaluated _ _ s
  · exact ⟨.refl s, rfl, rfl, rfl, rfl, fun _ => rfl⟩

/-- What a formation handed on leaves, whichever block takes it first. -/
structure HandedOn (s t : State) (up down : Bool) : Prop where
  surroundings : SameSurroundings s t
  sup : t.sup = s.sup
  monitors : ∀ h, (t.hoist h).monitor = (s.hoist h).monitor
  formed : FormedFrom s t s.levels up down
  gates : ∀ g, AlikeAt g (handToEvaluator s) t

theorem Unmoved.alikeAt {s t : State} (h : Unmoved s t) (g : GateNo) : AlikeAt g s t :=
  h.surroundings.alikeAt (by simp [State.gate, h.gateless.gates]) h.gateless.sup

theorem AlikeAt.handToEvaluator {g : GateNo} {s t : State} (h : AlikeAt g s t) (hlevels : t.levels = s.levels) :
    AlikeAt g (handToEvaluator s) (handToEvaluator t) := by
  rw [handToEvaluator_eq, handToEvaluator_eq, hlevels]
  split
  · exact h.evaluate _ _
  · exact h

theorem handOnFormation_handedOn (up down : Bool) (s : State) : HandedOn s (handOnFormation up down s) up down := by
  have hchoose := chooseOrder_surroundings 2 s
  have hsup := chooseOrder_sup 2 s
  have hhoist (h : HoistNo) : (chooseOrder 2 s).2.hoist h = s.hoist h := by rw [chooseOrder_eq]; rfl
  have hmonitor : (chooseOrder 2 s).2.monitor = s.monitor := by rw [chooseOrder_eq]
  have halike (g : GateNo) : AlikeAt g s (chooseOrder 2 s).2 := hchoose.alikeAt (chooseOrder_gate 2 s g) hsup
  unfold handOnFormation
  dsimp only
  generalize (chooseOrder 2 s).2 = c at hchoose hsup hhoist hmonitor halike
  split
  · obtain ⟨hmoved, hformed⟩ := handToMonitor_effects up down c
    have heval := handToEvaluator_evaluated (handToMonitor up down c)
    rw [hchoose.levels] at hformed
    refine ⟨(hchoose.trans hmoved.surroundings).trans heval.surroundings, ?_, fun h => ?_, ⟨?_, ?_, ?_⟩, fun g => ?_⟩
    · rw [heval.sup, hmoved.gateless.sup, hsup]
    · rw [heval.monitors, Hoist.monitor_of_exceptPhase (hmoved.gateless.hoists h), hhoist]
    · rw [heval.up, hformed.up, hmonitor, hchoose.store]
    · rw [heval.down, hformed.down, hmonitor, hchoose.store]
    · rw [heval.head, hformed.head, hmonitor, hchoose.store]
    · exact ((halike g).trans (hmoved.alikeAt g)).handToEvaluator (hmoved.surroundings.levels.trans hchoose.levels)
  · have heval := handToEvaluator_evaluated c
    obtain ⟨hmoved, hformed⟩ := handToMonitor_effects up down (handToEvaluator c)
    rw [heval.surroundings.levels, hchoose.levels] at hformed
    have hstore : (handToEvaluator c).store = s.store := heval.surroundings.store.trans hchoose.store
    refine ⟨(hchoose.trans heval.surroundings).trans hmoved.surroundings, ?_, fun h => ?_, ⟨?_, ?_, ?_⟩, fun g => ?_⟩
    · rw [hmoved.gateless.sup, heval.sup, hsup]
    · rw [Hoist.monitor_of_exceptPhase (hmoved.gateless.hoists h), heval.monitors, hhoist]
    · rw [hformed.up, heval.up, hmonitor, hstore]
    · rw [hformed.down, heval.down, hmonitor, hstore]
    · rw [hformed.head, heval.head, hmonitor, hstore]
    · exact ((halike g).handToEvaluator hchoose.levels).trans (hmoved.alikeAt g)

/-! ### A good sample -/

theorem OnlyNotices.onLevels {s t : State} (h : OnlyNotices s t) (φ : LevelUnit → LevelUnit) :
    OnlyNotices (s.onLevels φ) (t.onLevels φ) :=
  { h with levels := by simp only [State.onLevels_levels, h.levels] }

/-- The Level Unit as a good sample from `src` leaves it (R40 to R51). -/
def State.levelsSampled (s : State) (d : SampleData) (src : Byte) : LevelUnit :=
  (s.levels.sampled s.store.control d (s.channelsAt src)).withHead

/-- The formation of a good sample, with its SIDE-STATE notices, before it is handed on. -/
def formedSample (d : SampleData) (cs : List ChannelName) (s : State) : State :=
  formHead (notifySide .down s.levels.down.state (notifySide .up s.levels.up.state
    (s.onLevels (LevelUnit.sampled s.store.control d cs))))

theorem goodSample_formed (d : SampleData) (cs : List ChannelName) (s : State) :
    goodSample d cs s = handOnFormation (reaches cs .up) (reaches cs .down) (formedSample d cs s) := goodSample_eq d cs s

theorem formedSample_notices (d : SampleData) (src : Byte) (s : State) :
    OnlyNotices (s.onLevels fun _ => s.levelsSampled d src) (formedSample d (s.channelsAt src) s) := by
  have h := ((notifySide_notices .up s.levels.up.state (s.onLevels (LevelUnit.sampled s.store.control d (s.channelsAt src)))).trans
    (notifySide_notices .down s.levels.down.state _)).onLevels LevelUnit.withHead
  unfold formedSample
  rw [formHead_eq]
  exact h

theorem readData_of_good {f : Frame} (m : Bool) {s : State} (hkind : f.kind = kindSample) (hsrc : f.src ≠ 0#8)
    (hlen : 3 ≤ f.payload.length) (hgood : (f.word 2).getLsbD 1 = false)
    (hbound : ∃ c, binding s.store.control c = f.src) :
    readData f m s =
      goodSample ⟨(f.word 0).toInt, (f.word 1).toInt, (f.word 2).getLsbD 0, (f.word 2).getLsbD 1⟩ (s.channelsAt f.src) s := by
  unfold readData receiveSample
  rw [if_pos hkind, if_pos ((isLevelStation_iff s hsrc).mpr hbound), readSample_of_long hlen]
  simp only [hgood, Bool.false_eq_true, if_false]

theorem reaches_channelsAt (s : State) (a : Byte) (n : SideName) :
    reaches (s.channelsAt a) n = true ↔ ∃ c, sideOf c = n ∧ binding s.store.control c = a := by
  rw [reaches_iff]
  simp only [mem_channelsAt]
  exact ⟨fun ⟨c, h1, h2⟩ => ⟨c, h2, h1⟩, fun ⟨c, h1, h2⟩ => ⟨c, h2, h1⟩⟩

theorem bothValid_iff (l : LevelUnit) : l.bothValid = true ↔ l.up.state = .valid ∧ l.down.state = .valid := by
  simp [LevelUnit.bothValid]

theorem head_withHead (l : LevelUnit) :
    l.withHead.head = if l.bothValid then l.up.level - l.down.level else l.head := by
  unfold LevelUnit.withHead
  split <;> rfl

theorem magnitude_eq (x : Int) : magnitude x = |x| := by
  unfold magnitude
  split
  next h => rw [abs_of_neg h]
  next h => rw [abs_of_nonneg (by omega)]

/-- The table of R47, row by row. -/
theorem workingLevel_table (n : SideName) (a b : Channel) (agree held : Int) :
    (a.state = .fresh → b.state = .fresh → |a.value - b.value| ≤ agree →
      workingLevel n a b agree held = ((a.value + b.value) / 2, false)) ∧
    (a.state = .fresh → b.state = .fresh → agree < |a.value - b.value| →
      workingLevel n a b agree held = (if n = .up then min a.value b.value else max a.value b.value, true)) ∧
    (a.state = .fresh → b.state ≠ .fresh → workingLevel n a b agree held = (a.value, false)) ∧
    (a.state ≠ .fresh → b.state = .fresh → workingLevel n a b agree held = (b.value, false)) := by
  refine ⟨fun ha hb h => ?_, fun ha hb h => ?_, fun ha hb => ?_, fun ha hb => ?_⟩
  · rw [← magnitude_eq] at h
    simp [workingLevel, ha, hb, h, Int.fdiv_eq_ediv_of_nonneg]
  · rw [← magnitude_eq] at h
    cases n <;> simp [workingLevel, ha, hb, Int.not_le.mpr h]
  · simp [workingLevel, ha, hb]
  · simp [workingLevel, ha, hb]

theorem onLevels_alikeAt (s : State) (φ : LevelUnit → LevelUnit) (g : GateNo) : AlikeAt g s (s.onLevels φ) :=
  ⟨rfl, rfl, rfl, rfl, fun _ => rfl, fun _ => rfl⟩

/-- The figures of the hoists that samples leave. -/
theorem hoistFigures_of_surroundings {s t : State} (h : SameSurroundings s t)
    (hmonitor : ∀ k, (t.hoist k).monitor = (s.hoist k).monitor) (k : HoistNo) :
    (t.hoist k).position = (s.hoist k).position ∧ (t.hoist k).load = (s.hoist k).load ∧
      (t.hoist k).drive = (s.hoist k).drive ∧ (t.hoist k).valid = (s.hoist k).valid ∧
      (t.hoist k).monitor = (s.hoist k).monitor :=
  ⟨h.position k, h.load k, h.drive k, h.valid k, hmonitor k⟩

theorem hoistFigures_of_exceptPhase {x y : Hoist} (h : y.exceptPhase = x.exceptPhase) :
    y.position = x.position ∧ y.load = x.load ∧ y.drive = x.drive ∧ y.valid = x.valid ∧ y.monitor = x.monitor :=
  ⟨Hoist.position_of_exceptPhase h, Hoist.load_of_exceptPhase h, Hoist.drive_of_exceptPhase h,
    Hoist.valid_of_exceptPhase h, Hoist.monitor_of_exceptPhase h⟩

/-- What is left at the end of the command that takes a good sample. -/
structure SampleTaken (s t : State) (d : SampleData) (src : Byte) : Prop where
  levels : t.levels = s.levelsSampled d src
  formed : FormedFrom s t t.levels (reaches (s.channelsAt src) .up) (reaches (s.channelsAt src) .down)
  gates : ∀ g, t.gate g =
    if t.levels.bothValid = true ∧ s.sup.device = .run then (evaluate t.levels.up.level t.levels.down.level s).gate g
    else s.gate g
  store : t.store = s.store
  sup : t.sup = s.sup
  forcedIndex : t.forcedIndex = s.forcedIndex
  checkErrors : t.ring.checkErrors = s.ring.checkErrors
  pending : t.pending = s.pending
  figures : ∀ h, (t.hoist h).position = (s.hoist h).position ∧ (t.hoist h).load = (s.hoist h).load ∧
    (t.hoist h).drive = (s.hoist h).drive ∧ (t.hoist h).valid = (s.hoist h).valid ∧
    (t.hoist h).monitor = (s.hoist h).monitor

theorem goodSample_taken (d : SampleData) (src : Byte) {s u t : State} (hu : Aside s u)
    (ht : Aside (goodSample d (u.channelsAt src) u) t) : SampleTaken s t d src := by
  have hnotices := formedSample_notices d src u
  have hon := handOnFormation_handedOn (reaches (u.channelsAt src) .up) (reaches (u.channelsAt src) .down)
    (formedSample d (u.channelsAt src) u)
  rw [← goodSample_formed] at hon
  generalize goodSample d (u.channelsAt src) u = w at hon ht
  generalize formedSample d (u.channelsAt src) u = v at hon hnotices
  have hchannels : u.channelsAt src = s.channelsAt src := by simp [State.channelsAt, hu.store]
  have hsampled : u.levelsSampled d src = s.levelsSampled d src := by
    simp only [State.levelsSampled, hu.levels, hu.store, hchannels]
  have hfl : v.levels = s.levelsSampled d src := hnotices.levels.trans hsampled
  have hfstore : v.store = s.store := hnotices.store.trans hu.store
  have hfsup : v.sup = s.sup := hnotices.sup.trans hu.sup
  have hlevels : t.levels = s.levelsSampled d src := by rw [ht.levels, hon.surroundings.levels, hfl]
  have hformed := hon.formed
  rw [hfl, ← hlevels, hchannels] at hformed
  refine ⟨hlevels, ⟨?_, ?_, ?_⟩, fun g => ?_, ?_, ?_, ?_, ?_, ?_, fun h => ?_⟩
  · rw [ht.up, hformed.up, hfstore, hnotices.up]
    simp only [State.onLevels_monitor, hu.up]
  · rw [ht.down, hformed.down, hfstore, hnotices.down]
    simp only [State.onLevels_monitor, hu.down]
  · rw [ht.head, hformed.head, hfstore, hnotices.head]
    simp only [State.onLevels_monitor, hu.head]
  · have halike : AlikeAt g s v :=
      (hu.alikeAt g).trans ((onLevels_alikeAt u _ g).trans (hnotices.alikeAt g))
    have hgate := (hon.gates g).gate
    rw [ht.gate, hgate, handToEvaluator_eq, hfl, ← hlevels]
    by_cases hvalid : t.levels.bothValid = true
    · rw [if_pos hvalid]
      by_cases hrun : s.sup.device = .run
      · rw [if_pos ⟨hvalid, hrun⟩]
        exact (halike.evaluate _ _).gate
      · rw [if_neg fun h => hrun h.2, evaluate_of_not_run _ _ (by rwa [hfsup])]
        exact halike.gate
    · rw [if_neg hvalid, if_neg fun h => hvalid h.1]
      exact halike.gate
  · rw [ht.store, hon.surroundings.store, hfstore]
  · rw [ht.sup, hon.sup, hfsup]
  · rw [ht.forcedIndex, hon.surroundings.forcedIndex, hnotices.forcedIndex]
    exact hu.forcedIndex
  · rw [ht.checkErrors, hon.surroundings.checkErrors, hnotices.checkErrors]
    exact hu.checkErrors
  · rw [ht.pending, hon.surroundings.pending, hnotices.pending]
    exact hu.pending
  · obtain ⟨a1, a2, a3, a4, a5⟩ := hoistFigures_of_exceptPhase (hu.exceptPhase h)
    obtain ⟨b1, b2, b3, b4, b5⟩ := hoistFigures_of_exceptPhase (hnotices.hoists h)
    obtain ⟨c1, c2, c3, c4, c5⟩ := hoistFigures_of_surroundings hon.surroundings hon.monitors h
    obtain ⟨e1, e2, e3, e4, e5⟩ := hoistFigures_of_exceptPhase (ht.exceptPhase h)
    exact ⟨e1.trans (c1.trans (b1.trans a1)), e2.trans (c2.trans (b2.trans a2)), e3.trans (c3.trans (b3.trans a3)),
      e4.trans (c4.trans (b4.trans a4)), e5.trans (c5.trans (b5.trans a5))⟩

/-! ### What the levels are after a good sample -/

theorem pair_withHead (l : LevelUnit) (n : SideName) : l.withHead.pair n = l.pair n := by simp [pair_eq]

theorem side_levelsSampled (s : State) (d : SampleData) (src : Byte) (n : SideName) :
    (s.levelsSampled d src).side n =
      if reaches (s.channelsAt src) n then
        (s.levels.side n).sampled n ((s.levelsSampled d src).pair n).1 ((s.levelsSampled d src).pair n).2
          (agreeLimit s.store.control)
      else s.levels.side n := by
  unfold State.levelsSampled
  rw [side_withHead, pair_withHead, side_sampled (channelsAt_nodup s src)]

theorem channel_levelsSampled (s : State) (d : SampleData) (src : Byte) (c : ChannelName) :
    (s.levelsSampled d src).channel c =
      if binding s.store.control c = src then d.channel (ageLimit s.store.control c) else s.levels.channel c := by
  unfold State.levelsSampled
  rw [channel_withHead, channel_sampled (channelsAt_nodup s src)]
  simp only [mem_channelsAt]

theorem head_levelsSampled (s : State) (d : SampleData) (src : Byte) :
    (s.levelsSampled d src).head =
      if (s.levelsSampled d src).bothValid then (s.levelsSampled d src).up.level - (s.levelsSampled d src).down.level
      else s.levels.head := by
  have hup := side_withHead (s.levels.sampled s.store.control d (s.channelsAt src)) .up
  have hdown := side_withHead (s.levels.sampled s.store.control d (s.channelsAt src)) .down
  simp only [LevelUnit.side] at hup hdown
  unfold State.levelsSampled
  rw [bothValid_withHead, head_withHead, head_sampled, hup, hdown]

/-- The data of a good sample, as the words carry them (R37). -/
def Frame.sample (f : Frame) : SampleData :=
  ⟨(f.word 0).toInt, (f.word 1).toInt, (f.word 2).getLsbD 0, (f.word 2).getLsbD 1⟩

theorem sample_channel (d : SampleData) (limit : Nat) :
    d.channel limit = ⟨.fresh, max (-8000) (min 12000 d.reading), !d.fineValid,
      decide (max (-8000) (min 12000 d.reading) ≠ d.reading), some limit⟩ := by
  unfold SampleData.channel
  rw [clamp_eq (by norm_num)]

/-- GoodSampleTaken, of O22. -/
theorem goodSampleTaken : Sys2Proof.Claim.GoodSampleTaken := fun ws k f s hf hc hkind hsrc hlen hgood hbound => by
  intro fine reading value formed
  obtain ⟨t, u, hexec, hu, _, ht⟩ := exec_frameArrival_consumed hf (.inl hkind) hc
  rw [readData_of_good _ hkind hsrc hlen hgood (by rwa [hu.store])] at ht
  have h : SampleTaken s t f.sample f.src := goodSample_taken f.sample f.src hu ht
  have hreach (n : SideName) : reaches (s.channelsAt f.src) n = true ↔ formed n := reaches_channelsAt s f.src n
  have hchannel (c : ChannelName) := channel_levelsSampled s f.sample f.src c
  have hside (n : SideName) := side_levelsSampled s f.sample f.src n
  have hhead := head_levelsSampled s f.sample f.src
  rw [← h.levels] at hhead
  simp only [← h.levels] at hchannel hside
  have hup := h.formed.up
  have hdown := h.formed.down
  have hheadQ := h.formed.head
  have hgates := h.gates
  simp only [bothValid_iff] at hheadQ hgates hhead
  have hnot {n : SideName} (hn : ¬formed n) : ¬reaches (s.channelsAt f.src) n = true := fun h => hn ((hreach n).mp h)
  refine ⟨t, hexec, fun c hc => ?_, fun c hc => ?_, fun n hn => ?_, fun n hn => ?_, hhead, fun hn => ?_, fun hn => ?_,
    fun hn => ?_, fun hn => ?_, ?_, hgates, h.store, h.sup, h.forcedIndex, fun hown => ?_, h.checkErrors, h.pending, h.figures⟩
  · rw [hchannel, if_pos hc, sample_channel]
    rfl
  · rw [hchannel, if_neg hc]
  · rw [hside, if_neg (hnot hn)]
  · obtain ⟨t1, t2, t3, t4⟩ := workingLevel_table n (t.levels.pair n).1 (t.levels.pair n).2 (agreeLimit s.store.control)
      (s.levels.side n).level
    rw [hside, if_pos ((hreach n).mpr hn)]
    refine ⟨rfl, rfl, rfl, fun ha hb hle => ?_, fun ha hb hlt => ?_, fun ha hb => ?_, fun ha hb => ?_⟩
    · exact ⟨congrArg Prod.fst (t1 ha hb hle), congrArg Prod.snd (t1 ha hb hle)⟩
    · exact ⟨congrArg Prod.fst (t2 ha hb hlt), congrArg Prod.snd (t2 ha hb hlt)⟩
    · exact ⟨congrArg Prod.fst (t3 ha hb), congrArg Prod.snd (t3 ha hb)⟩
    · exact ⟨congrArg Prod.fst (t4 ha hb), congrArg Prod.snd (t4 ha hb)⟩
  · rw [hup, if_pos ((hreach .up).mpr hn)]
    exact compared_from ..
  · rw [hup, if_neg (hnot hn)]
  · rw [hdown, if_pos ((hreach .down).mpr hn)]
    exact compared_from ..
  · rw [hdown, if_neg (hnot hn)]
  · rw [hheadQ]
    split
    · exact compared_from ..
    · rfl
  · have hown' := exec_frameArrival_own_data hf (.inl hkind) hown
    obtain rfl := Host.Outcome.next.inj (hexec.symm.trans hown')
    rw [readData_of_good _ hkind hsrc hlen hgood hbound]
    exact ((goodSample_events _ (channelsAt_nodup s f.src) s).undisturbed.trans (settle_flow _).undisturbed).pass

end Sys2Proof.Machine
end

section
/-!
PROOFS. The notices of a good sample: SIDE-STATE notices of the sides it makes VALID, THRESHOLD notices of the levels and
the head it forms (R45, R145, R155).
-/

namespace Sys2Proof.Machine

/-! ### Placed frames through events -/

theorem Event.keepsPlaced {s t : State} (h : Event s t) : KeepsPlaced s t := by
  cases h with
  | work h => exact h.within.placed
  | lockout c g =>
    exact KeepsPlaced.trans (t := s.onSup _) (.of_report rfl fun _ h _ => h) (enterLockout_works c g s).within.placed
  | _ => exact .of_report rfl fun _ h _ => h

theorem Events.keepsPlaced {s t : State} (h : Events s t) : KeepsPlaced s t :=
  h.relates KeepsPlaced.refl (fun _ _ _ => KeepsPlaced.trans) fun _ _ => Event.keepsPlaced

/-- A notice placed is a frame of the report FIFO. -/
theorem KeepsPlaced.notice {s t : State} (h : KeepsPlaced s t) {f : OwnFrame} (hf : s.Placed (.notice f) f) :
    t.Placed (.notice f) f := h _ _ rfl hf

/-! ### Steps that offer nothing -/

/-- Nothing is sent, offered or answered: the report FIFO, RING-OUT and the tag counter are as they were. -/
structure Soundless (s t : State) : Prop where
  ring : t.ring = s.ring
  req : t.req = s.req
  tagCounter : t.post.tagCounter = s.post.tagCounter
  store : t.store = s.store

theorem Soundless.refl (s : State) : Soundless s s := ⟨rfl, rfl, rfl, rfl⟩

theorem Soundless.trans {s t u : State} (h : Soundless s t) (k : Soundless t u) : Soundless s u :=
  ⟨k.ring.trans h.ring, k.req.trans h.req, k.tagCounter.trans h.tagCounter, k.store.trans h.store⟩

theorem Soundless.keepsPlaced {s t : State} (h : Soundless s t) : KeepsPlaced s t :=
  .of_report h.ring fun e he _ => by rwa [h.req]

theorem Soundless.noticeRoom {s t : State} (h : Soundless s t) (hs : s.NoticeRoom) : t.NoticeRoom := by
  unfold State.NoticeRoom
  rwa [h.store, h.req]

theorem Soundless.twoNoticesRoom {s t : State} (h : Soundless s t) (hs : s.TwoNoticesRoom) : t.TwoNoticesRoom := by
  unfold State.TwoNoticesRoom
  rwa [h.store, h.req]

theorem onMonitor_soundless (s : State) (φ : Monitor → Monitor) : Soundless s (s.onMonitor φ) := ⟨rfl, rfl, rfl, rfl⟩

theorem onLevels_soundless (s : State) (φ : LevelUnit → LevelUnit) : Soundless s (s.onLevels φ) := ⟨rfl, rfl, rfl, rfl⟩

theorem onGate_soundless (s : State) (g : GateNo) (φ : Gate → Gate) : Soundless s (s.onGate g φ) := ⟨rfl, rfl, rfl, rfl⟩

theorem chooseOrder_soundless (n : Nat) (s : State) : Soundless s (chooseOrder n s).2 := by
  rw [chooseOrder_eq]
  exact ⟨rfl, rfl, rfl, rfl⟩

/-! ### SIDE-STATE notices (R45) -/

/-- A side found changed is announced. -/
theorem notifySide_placed {n : SideName} {p : SideState} {s : State} (h : (s.levels.side n).state ≠ p) (hroom : s.NoticeRoom) :
    let x := s.sideNotice n s.levels p (nextTag s.post.tagCounter)
    (notifySide n p s).post.tagCounter = nextTag s.post.tagCounter ∧ (notifySide n p s).Placed (.notice x) x := by
  rw [notifySide_of_changed h]
  obtain ⟨htag, hplaced⟩ := offerNotice_placed (noticeDest s.store.control) (sideStatePayload n s.levels p) hroom
  rw [nextNotice_side] at hplaced
  exact ⟨htag, hplaced⟩

theorem notifySide_keepsPlaced (n : SideName) (p : SideState) (s : State) : KeepsPlaced s (notifySide n p s) :=
  (notifySide_works (G := fun _ => True) n p s).within.placed

theorem notifySide_noticeRoom {n : SideName} {p : SideState} {s : State} (hroom : s.TwoNoticesRoom) :
    (notifySide n p s).NoticeRoom := by
  unfold notifySide
  split
  · exact TwoNoticesRoom.one hroom
  · exact offerNotice_noticeRoom _ _ hroom

/-- Both sides' notices of one formation, as they are offered: the upstream one first. -/
def notifySides (up down : SideState) (s : State) : State := notifySide .down down (notifySide .up up s)

theorem notifySides_placed_one {n : SideName} {p : SideName → SideState} {s : State} (h : (s.levels.side n).state ≠ p n)
    (hother : ∀ j, j ≠ n → (s.levels.side j).state = p j) (hroom : s.NoticeRoom) :
    let x := s.sideNotice n s.levels (p n) (nextTag s.post.tagCounter)
    (notifySides (p .up) (p .down) s).Placed (.notice x) x := by
  unfold notifySides
  cases n with
  | up => exact (notifySide_keepsPlaced _ _ _).notice (notifySide_placed h hroom).2
  | down =>
    rw [notifySide_of_same (hother .up (by decide))]
    exact (notifySide_placed h hroom).2

theorem notifySides_placed_up {p : SideName → SideState} {s : State} (h : (s.levels.side .up).state ≠ p .up)
    (hroom : s.NoticeRoom) :
    let x := s.sideNotice .up s.levels (p .up) (nextTag s.post.tagCounter)
    (notifySides (p .up) (p .down) s).Placed (.notice x) x :=
  (notifySide_keepsPlaced _ _ _).notice (notifySide_placed h hroom).2

theorem notifySides_placed_down {p : SideName → SideState} {s : State} (hup : (s.levels.side .up).state ≠ p .up)
    (hdown : (s.levels.side .down).state ≠ p .down) (hroom : s.TwoNoticesRoom) :
    let x := s.sideNotice .down s.levels (p .down) (nextTag (nextTag s.post.tagCounter))
    (notifySides (p .up) (p .down) s).Placed (.notice x) x := by
  unfold notifySides
  have hfirst := notifySide_notices .up (p .up) s
  have htag := (notifySide_placed hup (TwoNoticesRoom.one hroom)).1
  have hsecond := (notifySide_placed (n := .down) (p := p .down) (s := notifySide .up (p .up) s) (by rwa [hfirst.levels])
    (notifySide_noticeRoom hroom)).2
  rw [htag, hfirst.levels] at hsecond
  have hcontrol : (notifySide .up (p .up) s).store = s.store := hfirst.store
  simp only [State.sideNotice, hcontrol] at hsecond
  exact hsecond

theorem formedSample_eq (d : SampleData) (cs : List ChannelName) (s : State) :
    formedSample d cs s = (notifySides s.levels.up.state s.levels.down.state
      (s.onLevels (LevelUnit.sampled s.store.control d cs))).onLevels LevelUnit.withHead := formHead_eq _

/-- What is placed before the formation is handed on stays placed to the command's end. -/
theorem goodSample_keepsPlaced (d : SampleData) (cs : List ChannelName) (s : State) :
    KeepsPlaced (notifySides s.levels.up.state s.levels.down.state (s.onLevels (LevelUnit.sampled s.store.control d cs)))
      (settle (goodSample d cs s)) := by
  rw [goodSample_formed, formedSample_eq]
  exact ((onLevels_soundless _ _).keepsPlaced.trans (handOnFormation_events _ _ _).keepsPlaced).trans (settle_keepsPlaced _)

theorem state_sampled (s : State) (d : SampleData) (src : Byte) (n : SideName) :
    ((s.levels.sampled s.store.control d (s.channelsAt src)).side n).state =
      if reaches (s.channelsAt src) n then .valid else (s.levels.side n).state := by
  rw [side_sampled (channelsAt_nodup s src)]
  split <;> rfl

/-- The command that takes a good sample addressed to the part. -/
theorem exec_good_sample {ws : List Word} {k : Nat} {f : Frame} {s : State} (hf : s.Arrives ws k f)
    (hown : f.dest = s.ring.own) (hkind : f.kind = kindSample) (hsrc : f.src ≠ 0#8) (hlen : 3 ≤ f.payload.length)
    (hgood : (f.word 2).getLsbD 1 = false) (hbound : ∃ c, binding s.store.control c = f.src) :
    exec (.frameArrival ws k) s = .next (settle (goodSample f.sample (s.channelsAt f.src) s)) ∧
      SampleTaken s (settle (goodSample f.sample (s.channelsAt f.src) s)) f.sample f.src := by
  have hexec := exec_frameArrival_own_data hf (.inl hkind) hown
  rw [readData_of_good true hkind hsrc hlen hgood hbound] at hexec
  exact ⟨hexec, goodSample_taken f.sample f.src (.refl s) (settle_aside _)⟩

/-- SampleSideStateNoticed, of O22. -/
theorem sampleSideStateNoticed : Sys2Proof.Claim.SampleSideStateNoticed := fun ws k f s hf hown hkind hsrc hlen hgood => by
  intro changed
  by_cases hbound : ∃ c, binding s.store.control c = f.src
  · obtain ⟨hexec, htaken⟩ := exec_good_sample hf hown hkind hsrc hlen hgood hbound
    have hkeeps := goodSample_keepsPlaced f.sample (s.channelsAt f.src) s
    have hstate := state_sampled s f.sample f.src
    have hlevels := htaken.levels
    generalize settle (goodSample f.sample (s.channelsAt f.src) s) = t at hexec hkeeps hlevels
    unfold State.levelsSampled at hlevels
    generalize hl : s.levels.sampled s.store.control f.sample (s.channelsAt f.src) = l at hkeeps hstate hlevels
    have hsound := onLevels_soundless s (LevelUnit.sampled s.store.control f.sample (s.channelsAt f.src))
    have hsampled : (s.onLevels (LevelUnit.sampled s.store.control f.sample (s.channelsAt f.src))).levels = l := hl
    generalize s.onLevels (LevelUnit.sampled s.store.control f.sample (s.channelsAt f.src)) = u at hkeeps hsound hsampled
    have hchanged (n : SideName) (hn : changed n) : (u.levels.side n).state ≠ (s.levels.side n).state := by
      rw [hsampled, hstate, if_pos ((reaches_channelsAt s f.src n).mpr hn.1)]
      exact fun h => hn.2 h.symm
    have hsame (n : SideName) (hn : ¬changed n) : (u.levels.side n).state = (s.levels.side n).state := by
      rw [hsampled, hstate]
      split
      next h => exact (not_not.mp fun hv => hn ⟨(reaches_channelsAt s f.src n).mp h, hv⟩).symm
      next => rfl
    have hnotice (n : SideName) (p : SideState) (tag : Byte) :
        u.sideNotice n u.levels p tag = s.sideNotice n t.levels p tag := by
      have hcongr := sideNotice_congr s (side_withHead l n) (pair_withHead l n) p tag
      rw [hlevels, hcongr, hsampled]
      simp only [State.sideNotice, hsound.store]
    refine ⟨t, hexec, fun n hn hother hroom => ?_, fun hup hdown hroom => ?_, fun hup hdown hroom => ?_⟩
    · have h := notifySides_placed_one (p := fun n => (s.levels.side n).state) (hchanged n hn)
        (fun j hj => hsame j (hother j hj)) (hsound.noticeRoom hroom)
      dsimp only at h ⊢
      rw [hnotice, hsound.tagCounter] at h
      exact hkeeps.notice h
    · have h := notifySides_placed_up (p := fun n => (s.levels.side n).state) (hchanged .up hup) (hsound.noticeRoom hroom)
      dsimp only at h ⊢
      rw [hnotice, hsound.tagCounter] at h
      exact hkeeps.notice h
    · have h := notifySides_placed_down (p := fun n => (s.levels.side n).state) (hchanged .up hup) (hchanged .down hdown)
        (hsound.twoNoticesRoom hroom)
      dsimp only at h ⊢
      rw [hnotice, hsound.tagCounter] at h
      exact hkeeps.notice h
  · have hnone (n : SideName) : ¬changed n := fun ⟨⟨c, _, hc⟩, _⟩ => hbound ⟨c, hc⟩
    exact ⟨_, exec_frameArrival_own_data hf (.inl hkind) hown, fun n hn => absurd hn (hnone n),
      fun hn => absurd hn (hnone .up), fun hn => absurd hn (hnone .up)⟩

/-! ### THRESHOLD notices (R155) -/

/-- An alarm of kind `k` rises, and its group is enabled. -/
def State.rises (s : State) (c : ThresholdClass) (before after : Quad) (k : Nat) : Prop :=
  before.kind k = false ∧ after.kind k = true ∧ groupEnabled s.store.control c k = true

theorem notifyAlarm_of_not_rises {c : ThresholdClass} {k q : Nat} {v : Int} {b a : Bool} {s : State}
    (h : ¬(b = false ∧ a = true ∧ groupEnabled s.store.control c k = true)) : notifyAlarm c k q v b a s = s := by
  unfold notifyAlarm
  rw [if_neg]
  simpa [and_assoc] using h

theorem notifyAlarm_of_rises {c : ThresholdClass} {k q : Nat} {v : Int} {b a : Bool} {s : State}
    (h : b = false ∧ a = true ∧ groupEnabled s.store.control c k = true) (hroom : s.NoticeRoom) :
    let x : OwnFrame := ⟨noticeDest s.store.control, kindNotice, nextTag s.post.tagCounter,
      thresholdPayload s.store.thresholds c k q v⟩
    (notifyAlarm c k q v b a s).Placed (.notice x) x := by
  unfold notifyAlarm
  rw [if_pos (by simpa [and_assoc] using h)]
  exact (offerNotice_placed _ _ hroom).2

theorem notifyAlarm_keepsPlaced (c : ThresholdClass) (k q : Nat) (v : Int) (b a : Bool) (s : State) :
    KeepsPlaced s (notifyAlarm c k q v b a s) := by
  unfold notifyAlarm
  split
  · exact (notify_works (G := fun _ => True) _ s).within.placed
  · exact .refl s

/-- The notices that a comparison offers. -/
theorem notifyAlarms_noticesAlarms (c : ThresholdClass) (q : Nat) (v : Int) (b a : Quad) (s : State) :
    s.NoticesAlarms (notifyAlarms c q v b a s) c q v b a := by
  unfold State.NoticesAlarms notifyAlarms
  intro rises notice
  refine ⟨fun h0 hroom => ?_, fun h0 h3 hroom => ?_, fun h0 h3 => ?_⟩
  · exact KeepsPlaced.notice (notifyAlarm_keepsPlaced _ _ _ _ _ _ _) (notifyAlarm_of_rises (b := b.ha) (a := a.ha) h0 hroom)
  · rw [notifyAlarm_of_not_rises (b := b.ha) (a := a.ha) h0]
    exact notifyAlarm_of_rises (b := b.la) (a := a.la) h3 hroom
  · rw [notifyAlarm_of_not_rises (b := b.ha) (a := a.ha) h0, notifyAlarm_of_not_rises (b := b.la) (a := a.la) h3]

/-- The notices of a comparison stand at the end of a command that offers none before it and takes no tag after it. -/
theorem NoticesAlarms.throughout {s u w t : State} {c : ThresholdClass} {q : Nat} {v : Int} {b a : Quad}
    (h : u.NoticesAlarms w c q v b a) (hbefore : Soundless s u) (hplaced : KeepsPlaced w t)
    (htag : t.post.tagCounter = w.post.tagCounter) : s.NoticesAlarms t c q v b a := by
  unfold State.NoticesAlarms at h ⊢
  rw [hbefore.store, hbefore.tagCounter] at h
  obtain ⟨hhigh, hlow, hnone⟩ := h
  exact ⟨fun h0 hroom => hplaced.notice (hhigh h0 (hbefore.noticeRoom hroom)),
    fun h0 h3 hroom => hplaced.notice (hlow h0 h3 (hbefore.noticeRoom hroom)), fun h0 h3 => htag.trans (hnone h0 h3)⟩

theorem settle_tagCounter (s : State) : (settle s).post.tagCounter = s.post.tagCounter := (settle_aside s).tagCounter

theorem formedSample_of_quiet (d : SampleData) (src : Byte) {s : State}
    (h : ∀ n, reaches (s.channelsAt src) n = true → (s.levels.side n).state = .valid) :
    formedSample d (s.channelsAt src) s = s.onLevels fun _ => s.levelsSampled d src := by
  have hside (n : SideName) :
      ((s.levels.sampled s.store.control d (s.channelsAt src)).side n).state = (s.levels.side n).state := by
    rw [state_sampled]
    split
    next hn => exact (h n hn).symm
    next => rfl
  rw [formedSample_eq]
  unfold notifySides
  rw [notifySide_of_same (n := .up) (hside .up), notifySide_of_same (n := .down) (hside .down)]
  rfl

theorem compareUp_noticesAlarms (v : Int) (s : State) : s.NoticesAlarms (compareUp v s) .levelU 0 v s.monitor.up.flags
    (s.monitor.up.compared s.store.thresholds .levelU v false).flags :=
  NoticesAlarms.throughout (notifyAlarms_noticesAlarms ..) (onMonitor_soundless s _) (.refl _) rfl

theorem compareDown_noticesAlarms (v : Int) (s : State) : s.NoticesAlarms (compareDown v s) .levelD 1 v s.monitor.down.flags
    (s.monitor.down.compared s.store.thresholds .levelD v false).flags :=
  NoticesAlarms.throughout (notifyAlarms_noticesAlarms ..) (onMonitor_soundless s _) (.refl _) rfl

theorem compareHead_noticesAlarms (v : Int) (s : State) : s.NoticesAlarms (compareHead v s) .head 2 v s.monitor.head.flags
    (s.monitor.head.compared s.store.thresholds .head v false).flags :=
  NoticesAlarms.throughout (notifyAlarms_noticesAlarms ..) (onMonitor_soundless s _) (.refl _) rfl

theorem handToMonitor_up {s : State} (h : s.levels.bothValid = false) :
    handToMonitor true false s = compareUp s.levels.up.level s := by simp [handToMonitor, h]

theorem handToMonitor_down {s : State} (h : s.levels.bothValid = false) :
    handToMonitor false true s = compareDown s.levels.down.level s := by simp [handToMonitor, h]

theorem chooseOrder_monitor (n : Nat) (s : State) : (chooseOrder n s).2.monitor = s.monitor := by rw [chooseOrder_eq]

/-- A formation with a side not VALID concerns the Threshold Monitor alone (R52). -/
theorem handOnFormation_of_not_bothValid (up down : Bool) {s : State} (h : s.levels.bothValid = false) :
    handOnFormation up down s = handToMonitor up down (chooseOrder 2 s).2 := by
  have hidle {t : State} (ht : t.levels.bothValid = false) : handToEvaluator t = t := by rw [handToEvaluator_eq, if_neg (by simp [ht])]
  have hl := (chooseOrder_surroundings 2 s).levels
  unfold handOnFormation
  dsimp only
  split
  · exact hidle (by rw [(handToMonitor_effects up down _).1.surroundings.levels, hl, h])
  · rw [hidle (by rw [hl, h])]

/-- A sample that reaches one side, VALID already, while the other is not VALID, is compared once and evaluated not at
all. -/
theorem goodSample_of_one_side (d : SampleData) (src : Byte) {s : State} {n : SideName}
    (hreach : ∀ j, reaches (s.channelsAt src) j = true ↔ j = n) (hvalid : (s.levels.side n).state = .valid)
    (hother : ∀ j, j ≠ n → (s.levels.side j).state ≠ .valid) :
    ∃ c, goodSample d (s.channelsAt src) s =
        handToMonitor (reaches (s.channelsAt src) .up) (reaches (s.channelsAt src) .down) c ∧
      Soundless s c ∧ c.monitor = s.monitor ∧ c.levels = s.levelsSampled d src ∧ c.levels.bothValid = false := by
  have hreached (j : SideName) (hj : reaches (s.channelsAt src) j = true) : (s.levels.side j).state = .valid := by
    rw [(hreach j).mp hj, hvalid]
  have hstates (j : SideName) : ((s.levelsSampled d src).side j).state = (s.levels.side j).state := by
    rw [side_levelsSampled]
    split
    next hj => exact (hreached j hj).symm
    next => rfl
  have hnot : (s.levelsSampled d src).bothValid = false := by
    rw [Bool.eq_false_iff, Ne, bothValid_iff]
    cases n with
    | up => exact fun h => hother .down (by decide) ((hstates .down).symm.trans h.2)
    | down => exact fun h => hother .up (by decide) ((hstates .up).symm.trans h.1)
  have hl := (chooseOrder_surroundings 2 (s.onLevels fun _ => s.levelsSampled d src)).levels
  refine ⟨(chooseOrder 2 (s.onLevels fun _ => s.levelsSampled d src)).2, ?_,
    (onLevels_soundless s fun _ => s.levelsSampled d src).trans (chooseOrder_soundless 2 _), chooseOrder_monitor 2 _, hl, ?_⟩
  · rw [goodSample_formed, formedSample_of_quiet d src hreached]
    exact handOnFormation_of_not_bothValid _ _ hnot
  · rw [hl]
    exact hnot

/-- LevelAlarmNoticed, of O22. -/
theorem levelAlarmNoticed : Sys2Proof.Claim.LevelAlarmNoticed :=
    fun ws k f s n hf hown hkind hsrc hlen hgood hbound honly hvalid hother => by
  obtain ⟨hexec, htaken⟩ := exec_good_sample hf hown hkind hsrc hlen hgood hbound
  have hreach (j : SideName) : reaches (s.channelsAt f.src) j = true ↔ j = n := by
    rw [reaches_channelsAt]
    refine ⟨fun ⟨c, hj, hc⟩ => hj.symm.trans (honly c hc), fun hj => ?_⟩
    obtain ⟨c, hc⟩ := hbound
    exact ⟨c, (honly c hc).trans hj.symm, hc⟩
  obtain ⟨c, hc, hsound, hmonitor, hlevels, hboth⟩ := goodSample_of_one_side f.sample f.src hreach hvalid hother
  rw [hc] at hexec htaken
  refine ⟨_, hexec, ?_⟩
  rw [← htaken.levels] at hlevels
  cases n with
  | up =>
    have hup := htaken.formed.up
    rw [if_pos ((hreach .up).mpr rfl), ← hmonitor, ← hsound.store] at hup
    have hmon := handToMonitor_up hboth
    have h := compareUp_noticesAlarms c.levels.up.level c
    rw [← hmon] at h
    rw [(hreach .up).mpr rfl, Bool.eq_false_iff.mpr fun h => nomatch (hreach .down).mp h] at hup hlevels ⊢
    rw [← hlevels] at hup ⊢
    rw [hup, ← hmonitor]
    exact NoticesAlarms.throughout h hsound (settle_keepsPlaced _) (settle_tagCounter _)
  | down =>
    have hdown := htaken.formed.down
    rw [if_pos ((hreach .down).mpr rfl), ← hmonitor, ← hsound.store] at hdown
    have hmon := handToMonitor_down hboth
    have h := compareDown_noticesAlarms c.levels.down.level c
    rw [← hmon] at h
    rw [(hreach .down).mpr rfl, Bool.eq_false_iff.mpr fun h => nomatch (hreach .up).mp h] at hdown hlevels ⊢
    rw [← hlevels] at hdown ⊢
    rw [hdown, ← hmonitor]
    exact NoticesAlarms.throughout h hsound (settle_keepsPlaced _) (settle_tagCounter _)

/-! ### The head's notices -/

/-- No alarm flag of the quantity rises. -/
def Quiet (before after : Quad) : Prop := (after.ha = true → before.ha = true) ∧ (after.la = true → before.la = true)

theorem notifyAlarms_of_quiet {c : ThresholdClass} {q : Nat} {v : Int} {b a : Quad} (s : State) (h : Quiet b a) :
    notifyAlarms c q v b a s = s := by
  obtain ⟨hhigh, hlow⟩ := h
  unfold notifyAlarms
  rw [notifyAlarm_of_not_rises (k := 0) fun h => ?_, notifyAlarm_of_not_rises (k := 3) fun h => ?_]
  · exact Bool.false_ne_true (h.1.symm.trans (hlow h.2.1))
  · exact Bool.false_ne_true (h.1.symm.trans (hhigh h.2.1))

/-- Two quiet levels and then the head. -/
theorem handToMonitor_head {up down : Bool} {s : State} (hvalid : s.levels.bothValid = true)
    (hup : up = true → Quiet s.monitor.up.flags (s.monitor.up.compared s.store.thresholds .levelU s.levels.up.level false).flags)
    (hdown : down = true →
      Quiet s.monitor.down.flags (s.monitor.down.compared s.store.thresholds .levelD s.levels.down.level false).flags) :
    s.NoticesAlarms (handToMonitor up down s) .head 2 s.levels.head s.monitor.head.flags
      (s.monitor.head.compared s.store.thresholds .head s.levels.head false).flags := by
  unfold handToMonitor
  dsimp only
  rw [if_pos hvalid]
  generalize h1 : (if up = true then compareUp s.levels.up.level s else s) = s1
  generalize h2 : (if down = true then compareDown s.levels.down.level s1 else s1) = s2
  have hfirst : ∃ φ, s1 = s.onMonitor φ ∧ (φ s.monitor).down = s.monitor.down ∧ (φ s.monitor).head = s.monitor.head := by
    split at h1
    next h => exact ⟨_, h1.symm.trans (notifyAlarms_of_quiet _ (hup h)), rfl, rfl⟩
    next => exact ⟨id, h1.symm, rfl, rfl⟩
  obtain ⟨φ, rfl, hφdown, hφhead⟩ := hfirst
  have hsecond : Soundless s s2 ∧ s2.monitor.head = s.monitor.head := by
    split at h2
    next h =>
      have hquiet := hdown h
      rw [← hφdown] at hquiet
      rw [← h2, show compareDown s.levels.down.level (s.onMonitor φ) = _ from notifyAlarms_of_quiet _ hquiet]
      exact ⟨(onMonitor_soundless s φ).trans (onMonitor_soundless _ _), hφhead⟩
    next => exact ⟨h2 ▸ onMonitor_soundless s φ, h2 ▸ hφhead⟩
  obtain ⟨hsound, hhead⟩ := hsecond
  have h := compareHead_noticesAlarms s.levels.head s2
  rw [hhead, hsound.store] at h
  exact NoticesAlarms.throughout h hsound (.refl _) rfl

/-- A gate neither in AUTO nor in FLOOD loses its blocked-notice indicator (R65). -/
theorem evaluateGate_of_not_automatic (u d : Int) {g : GateNo} {s : State} (h : (s.gate g).mode ≠ .auto ∧ (s.gate g).mode ≠ .flood) :
    evaluateGate u d g s = setBlocked g false s := by
  unfold evaluateGate
  rw [if_neg]
  simp [State.takenUp, h.1, h.2]

/-- With no gate in AUTO or FLOOD an evaluation sends and offers nothing. -/
theorem evaluate_soundless (u d : Int) {s : State} (h : ∀ g, (s.gate g).mode ≠ .auto ∧ (s.gate g).mode ≠ .flood) :
    Soundless s (evaluate u d s) := by
  unfold evaluate
  split
  · generalize allGates = gs
    clear * - h
    induction gs generalizing s with
    | nil => exact .refl s
    | cons g gs ih =>
      rw [List.foldl_cons, evaluateGate_of_not_automatic u d (h g)]
      refine Soundless.trans (onGate_soundless s g _) (ih fun j => ?_)
      rw [State.gate_onGate]
      split
      next hj => exact hj ▸ h j
      next => exact h j
  · exact .refl s

theorem handToEvaluator_soundless {s : State} (h : ∀ g, (s.gate g).mode ≠ .auto ∧ (s.gate g).mode ≠ .flood) :
    Soundless s (handToEvaluator s) := by
  rw [handToEvaluator_eq]
  split
  · exact evaluate_soundless _ _ h
  · exact .refl s

/-- HeadAlarmNoticed, of O22. -/
theorem headAlarmNoticed : Sys2Proof.Claim.HeadAlarmNoticed :=
    fun ws k f s hf hown hkind hsrc hlen hgood hbound hvup hvdown hmodes => by
  intro quiet
  obtain ⟨hexec, htaken⟩ := exec_good_sample hf hown hkind hsrc hlen hgood hbound
  refine ⟨_, hexec, fun hqup hqdown => ?_⟩
  have hvalid (n : SideName) : (s.levels.side n).state = .valid := by cases n <;> assumption
  have hformed := formedSample_of_quiet f.sample f.src (s := s) fun j _ => hvalid j
  have hstates (j : SideName) : ((s.levelsSampled f.sample f.src).side j).state = .valid := by
    rw [side_levelsSampled]
    split
    · rfl
    · exact hvalid j
  have hboth : (s.levelsSampled f.sample f.src).bothValid = true := (bothValid_iff _).mpr ⟨hstates .up, hstates .down⟩
  have htag := settle_tagCounter (goodSample f.sample (s.channelsAt f.src) s)
  have hkeeps := settle_keepsPlaced (goodSample f.sample (s.channelsAt f.src) s)
  have hlevels := htaken.levels
  have hup := htaken.formed.up
  have hdown := htaken.formed.down
  have hhead := htaken.formed.head
  generalize settle (goodSample f.sample (s.channelsAt f.src) s) = t at hqup hqdown hlevels hup hdown hhead htag hkeeps ⊢
  rw [goodSample_formed, hformed] at htag hkeeps
  unfold handOnFormation at htag hkeeps
  dsimp only at htag hkeeps
  have hsound := (onLevels_soundless s fun _ => s.levelsSampled f.sample f.src).trans (chooseOrder_soundless 2 _)
  have hmonitor := chooseOrder_monitor 2 (s.onLevels fun _ => s.levelsSampled f.sample f.src)
  have hgate := chooseOrder_gate 2 (s.onLevels fun _ => s.levelsSampled f.sample f.src)
  have hl : _ = s.levelsSampled f.sample f.src :=
    (chooseOrder_surroundings 2 (s.onLevels fun _ => s.levelsSampled f.sample f.src)).levels
  generalize (chooseOrder 2 (s.onLevels fun _ => s.levelsSampled f.sample f.src)).2 = c at htag hkeeps hsound hmonitor hl hgate
  have hcvalid : c.levels.bothValid = true := by rw [hl, hboth]
  have hcmodes (g : GateNo) : (c.gate g).mode ≠ .auto ∧ (c.gate g).mode ≠ .flood := by
    rw [hgate]
    exact hmodes g
  rw [← hlevels] at hl
  rw [if_pos ((bothValid_iff _).mpr (by rw [hlevels]; exact ⟨hstates .up, hstates .down⟩))] at hhead
  rw [hhead]
  have hheard (e : State) (hce : Soundless c e) (hmup : e.monitor.up = c.monitor.up)
      (hmdown : e.monitor.down = c.monitor.down) (hmhead : e.monitor.head = c.monitor.head) (hel : e.levels = c.levels) :
      s.NoticesAlarms (handToMonitor (reaches (s.channelsAt f.src) .up) (reaches (s.channelsAt f.src) .down) e) .head 2
        t.levels.head s.monitor.head.flags
        (s.monitor.head.compared s.store.thresholds .head t.levels.head false).flags := by
    have hse := hsound.trans hce
    have h := handToMonitor_head (s := e) (up := reaches (s.channelsAt f.src) .up)
      (down := reaches (s.channelsAt f.src) .down) (by rw [hel, hcvalid]) (fun hr => ?_) fun hr => ?_
    · rw [hel, hl, hmhead, hmonitor, hse.store] at h
      exact NoticesAlarms.throughout h hse (.refl _) rfl
    · rw [hel, hl, hmup, hmonitor, hse.store]
      rwa [hup, if_pos hr] at hqup
    · rw [hel, hl, hmdown, hmonitor, hse.store]
      rwa [hdown, if_pos hr] at hqdown
  by_cases hfirst : (chooseOrder 2 (s.onLevels fun _ => s.levelsSampled f.sample f.src)).1 = 0
  · rw [if_pos hfirst] at htag hkeeps
    have heffects := (handToMonitor_effects (reaches (s.channelsAt f.src) .up) (reaches (s.channelsAt f.src) .down) c).1
    have hafter := handToEvaluator_soundless fun g => by
      rw [(heffects.alikeAt g).gate]
      exact hcmodes g
    exact NoticesAlarms.throughout (hheard c (.refl c) rfl rfl rfl rfl) (.refl s) (hafter.keepsPlaced.trans hkeeps)
      (htag.trans hafter.tagCounter)
  · rw [if_neg hfirst] at htag hkeeps
    have hevaluated := handToEvaluator_evaluated c
    exact NoticesAlarms.throughout (hheard _ (handToEvaluator_soundless hcmodes) hevaluated.up hevaluated.down
      hevaluated.head hevaluated.surroundings.levels) (.refl s) hkeeps htag

/-- Settles O22: the levels are those of the sample, and both blocks take them, in either order. -/
theorem goodSampleFormsLevels : Obligations.GoodSampleFormsLevels :=
  ⟨goodSampleTaken, sampleSideStateNoticed, levelAlarmNoticed, headAlarmNoticed⟩

end Sys2Proof.Machine
end

section
/-!
PROOFS. The examination for issue, turn by turn (R108, R110, R113, R119).
-/

namespace Sys2Proof.Machine

/-! ### What issuing leaves at the gate -/

theorem AlikeAt.of_gate_eq {g : GateNo} {s t : State} {x : Gate} (h : AlikeAt g (s.onGate g fun _ => x) t) : t.gate g = x := by
  rw [h.gate, State.gate_onGate_self]

theorem startMove_gate_self (g : GateNo) (c : MoveContext) (s : State) :
    (startMove g c s).gate g = (s.gate g).started c (moveTimeLimit (s.record g)) := by
  rw [(startMove_alikeAt g c s).gate, State.gate_onGate_self]

theorem completeMove_gate_self (g : GateNo) (c : MoveContext) {s : State} (h : s.sup.device ≠ .drain) :
    (completeMove g c s).gate g = (s.gate g).completed c.target c.origin := by
  rw [(completeMove_alikeAt g c h).gate, State.gate_onGate_self]

/-- Issuing takes nothing from the queue and leaves the closure flag. -/
theorem issueMove_gate_keeps (g : GateNo) (c : MoveContext) {s : State} (h : s.sup.device ≠ .drain) :
    ((issueMove g c s).gate g).queue = (s.gate g).queue ∧
      ((issueMove g c s).gate g).closurePending = (s.gate g).closurePending := by
  rw [issueMove_eq]
  split
  · rw [completeMove_gate_self g c h]
    exact ⟨rfl, rfl⟩
  · rw [startMove_gate_self]
    exact ⟨rfl, rfl⟩

@[simp] theorem withinTolerance_onGate (s : State) (k g : GateNo) (φ : Gate → Gate) (x : Int) :
    (s.onGate k φ).withinTolerance g x = s.withinTolerance g x := by
  unfold State.withinTolerance State.leftOf State.rightOf
  rw [State.onGate_hoist, State.onGate_hoist, State.onGate_record]

/-- After a change of the gate, a move far from its target starts. -/
theorem issueMove_onGate_of_far {g : GateNo} {c : MoveContext} {s : State} (φ : Gate → Gate)
    (h : s.withinTolerance g c.target = false) : issueMove g c (s.onGate g φ) = startMove g c (s.onGate g φ) := by
  rw [issueMove_eq, withinTolerance_onGate, h, if_neg Bool.false_ne_true]

theorem issueMove_onGate_of_near {g : GateNo} {c : MoveContext} {s : State} (φ : Gate → Gate)
    (h : s.withinTolerance g c.target = true) : issueMove g c (s.onGate g φ) = completeMove g c (s.onGate g φ) := by
  rw [issueMove_eq, withinTolerance_onGate, h, if_pos rfl]

/-- For the gate, a change of it and then a start are one change (R110). -/
theorem startMove_onGate_alikeAt {g : GateNo} {c : MoveContext} {s : State} {φ ψ : Gate → Gate}
    (hψ : ψ (s.gate g) = (φ (s.gate g)).started c (moveTimeLimit (s.record g))) :
    AlikeAt g (s.onGate g ψ) (startMove g c (s.onGate g φ)) := by
  have h := startMove_alikeAt g c (s.onGate g φ)
  rw [State.onGate_record, State.onGate_onGate] at h
  rwa [State.onGate_congr (ψ := fun x => (φ x).started c (moveTimeLimit (s.record g))) hψ]

/-- For the gate, a change of it and then a completion are one change (R113). -/
theorem completeMove_onGate_alikeAt {g : GateNo} {c : MoveContext} {s : State} {φ ψ : Gate → Gate}
    (hψ : ψ (s.gate g) = (φ (s.gate g)).completed c.target c.origin) (hdevice : s.sup.device ≠ .drain) :
    AlikeAt g (s.onGate g ψ) (completeMove g c (s.onGate g φ)) := by
  have h := completeMove_alikeAt g c (s := s.onGate g φ) (by rwa [State.onGate_sup])
  rw [State.onGate_onGate] at h
  rwa [State.onGate_congr (ψ := fun x => (φ x).completed c.target c.origin) hψ]

theorem not_drain_of_mayIssue {g : GateNo} {s : State} (h : s.mayIssue g = true) : s.sup.device ≠ .drain := by
  rw [((mayIssue_iff s g).mp h).2.1]
  nofun

/-! ### The turns are bounded -/

/-- What an examination has to take: the entries and a pending closure. -/
def Gate.work (x : Gate) : Nat := x.queue.length + if x.closurePending then 1 else 0

theorem work_issueClosure {g : GateNo} {s : State} (hmay : s.mayIssue g = true) (hpending : (s.gate g).closurePending = true) :
    ((issueClosure g s).gate g).work + 1 = (s.gate g).work := by
  unfold issueClosure
  dsimp only
  rw [(notify_alikeAt g _ _).gate]
  obtain ⟨hqueue, hclosure⟩ := issueMove_gate_keeps g (s.capture g (lowerLimit (s.record g)) .fast .closure)
    (s := s.onGate g fun x => { x with closurePending := false })
    (by rw [State.onGate_sup]; exact not_drain_of_mayIssue hmay)
  rw [State.gate_onGate_self] at hqueue hclosure
  simp [Gate.work, hqueue, hclosure, hpending]

theorem work_takeEntry {g : GateNo} {e : Entry} {rest : List Entry} {s : State} (hmay : s.mayIssue g = true)
    (hqueue : (s.gate g).queue = e :: rest) : ((takeEntry g e s).gate g).work + 1 = (s.gate g).work := by
  unfold takeEntry
  dsimp only
  split
  · obtain ⟨hq, hclosure⟩ := issueMove_gate_keeps g
      (s.capture g (e.target (s.gate g).standing) (s.resolveSpeed g e.speed) e.origin)
      (s := s.onGate g fun x => { x with queue := x.queue.tail })
      (by rw [State.onGate_sup]; exact not_drain_of_mayIssue hmay)
    rw [State.gate_onGate_self] at hq hclosure
    simp only [Gate.work, hq, hclosure, hqueue, List.tail_cons, List.length_cons]
    omega
  · rw [((notifyRange_notices _ _ _ _).alikeAt g).gate, State.gate_onGate_self, State.gate_onGate_self]
    simp only [Gate.work, hqueue, List.tail_cons, List.length_cons]
    omega

theorem examineFor_of_no_work {g : GateNo} {s : State} (h : (s.gate g).work = 0) (n : Nat) : examineFor n g s = s := by
  have hwork : (s.gate g).queue = [] ∧ (s.gate g).closurePending = false := by simpa [Gate.work] using h
  cases n with
  | zero => rfl
  | succ n => simp [examineFor, hwork.1, hwork.2]

/-- More turns than there is work change nothing. -/
theorem examineFor_of_enough {g : GateNo} {s : State} {n m : Nat} (hn : (s.gate g).work ≤ n) (hm : (s.gate g).work ≤ m) :
    examineFor n g s = examineFor m g s := by
  induction n generalizing s m with
  | zero => rw [examineFor_of_no_work (by omega), examineFor_of_no_work (by omega)]
  | succ n ih =>
    cases m with
    | zero => rw [examineFor_of_no_work (by omega), examineFor_of_no_work (by omega)]
    | succ m =>
      unfold examineFor
      split
      next hmay =>
        split
        next hpending =>
          have hwork := work_issueClosure hmay hpending
          exact ih (by omega) (by omega)
        next =>
          split
          next => rfl
          next e rest hqueue =>
            have hwork := work_takeEntry hmay hqueue
            split
            · rfl
            · exact ih (by omega) (by omega)
      next => rfl

theorem examine_eq_examineFor {g : GateNo} {s : State} {n : Nat} (h : (s.gate g).work ≤ n) : examineFor n g s = examine g s := by
  have hwork : (s.gate g).work ≤ (s.gate g).queue.length + 2 := by
    unfold Gate.work
    split <;> omega
  exact examineFor_of_enough h hwork

/-! ### One turn -/

theorem examine_of_held {g : GateNo} {s : State} (h : s.mayIssue g = false) : examine g s = s := by
  simp [examine, examineFor, h]

theorem examine_of_not_idle {g : GateNo} {s : State} (h : (s.gate g).motion ≠ .idle) : examine g s = s := by
  refine examine_of_held ?_
  simp [State.mayIssue, h]

/-- With nothing but an automatic entry behind the tide-closed flag an examination takes nothing (R108). -/
theorem examine_of_nothing {g : GateNo} {s : State} (hpending : (s.gate g).closurePending = false)
    (h : ∀ e, (s.gate g).queue.head? = some e → e.automatic = true ∧ (s.gate g).tideClosed = true) : examine g s = s := by
  unfold examine examineFor
  rw [hpending]
  cases hqueue : (s.gate g).queue with
  | nil => simp
  | cons e rest =>
    rw [hqueue] at h
    obtain ⟨ha, ht⟩ := h e rfl
    simp [ha, ht]

theorem examine_of_closure {g : GateNo} {s : State} (hmay : s.mayIssue g = true) (hpending : (s.gate g).closurePending = true) :
    examine g s = examine g (issueClosure g s) := by
  have hwork := work_issueClosure hmay hpending
  have hle : (s.gate g).work ≤ (s.gate g).queue.length + 2 := by
    unfold Gate.work
    split <;> omega
  unfold examine
  rw [examineFor, if_pos hmay, if_pos hpending]
  exact examine_eq_examineFor (by omega)

theorem examine_of_entry {g : GateNo} {e : Entry} {rest : List Entry} {s : State} (hmay : s.mayIssue g = true)
    (hpending : (s.gate g).closurePending = false) (hqueue : (s.gate g).queue = e :: rest)
    (hfree : e.automatic = true → (s.gate g).tideClosed = false) : examine g s = examine g (takeEntry g e s) := by
  have hwork := work_takeEntry hmay hqueue
  have hle : (s.gate g).work ≤ (s.gate g).queue.length + 2 := by
    unfold Gate.work
    split <;> omega
  rw [hqueue] at hle
  have htaken : (e.automatic && (s.gate g).tideClosed) = false := by
    cases ha : e.automatic with
    | false => rfl
    | true => simp [hfree ha]
  unfold examine
  rw [examineFor, if_pos hmay, if_neg (by simp [hpending])]
  simp only [hqueue, htaken, Bool.false_eq_true, if_false]
  exact examine_eq_examineFor (by omega)

/-! ### What a turn issues -/

theorem bothStill_iff (s : State) (g : GateNo) :
    s.bothStill g = true ↔ (s.hoist (leftHoist g)).drive = .still ∧ (s.hoist (rightHoist g)).drive = .still := by
  unfold State.bothStill State.leftOf State.rightOf
  rw [Bool.and_eq_true, decide_eq_true_eq, decide_eq_true_eq]

theorem mayIssue_iff_not_held (s : State) (g : GateNo) : s.mayIssue g = true ↔ ¬s.HeldFromIssue g := by
  simp only [mayIssue_iff, State.HeldFromIssue, bothStill_iff, not_or, not_not, Bool.not_eq_true]

theorem mayIssue_of_held {s : State} {g : GateNo} (h : s.HeldFromIssue g) : s.mayIssue g = false := by
  rw [Bool.eq_false_iff, Ne, mayIssue_iff_not_held]
  exact not_not.mpr h

/-- A pending closure far from its target starts, and ends the examination (R119). -/
theorem issueClosure_alikeAt_of_far {g : GateNo} {s : State} (h : s.withinTolerance g (lowerLimit (s.record g)) = false) :
    AlikeAt g (s.onGate g fun x => { x.started (s.contextFor g (lowerLimit (s.record g)) .fast .closure)
      (moveTimeLimit (s.record g)) with closurePending := false }) (issueClosure g s) := by
  unfold issueClosure
  dsimp only
  refine AlikeAt.trans ?_ (notify_alikeAt g _ _)
  rw [contextFor_eq_capture, issueMove_onGate_of_far _ (by exact h)]
  exact startMove_onGate_alikeAt rfl

theorem issueClosure_alikeAt_of_near {g : GateNo} {s : State} (h : s.withinTolerance g (lowerLimit (s.record g)) = true)
    (hdevice : s.sup.device ≠ .drain) :
    AlikeAt g (s.onGate g fun x => { x.completed (lowerLimit (s.record g)) .closure with closurePending := false })
      (issueClosure g s) := by
  unfold issueClosure
  dsimp only
  refine AlikeAt.trans ?_ (notify_alikeAt g _ _)
  rw [issueMove_onGate_of_near _ (by exact h)]
  exact completeMove_onGate_alikeAt rfl hdevice

theorem entryTarget_eq (e : Entry) (x : Int) : e.target x = if e.form = .absolute then e.value else x + e.value := by
  unfold Entry.target
  cases e.form <;> rfl

theorem takeEntry_eq_of_far {g : GateNo} {e : Entry} {s : State}
    (hwindow : s.inWindow g (e.target (s.gate g).standing) = true)
    (h : s.withinTolerance g (e.target (s.gate g).standing) = false) :
    takeEntry g e s = startMove g
      (s.contextFor g (e.target (s.gate g).standing) (e.speed.getD (defaultSpeed (s.record g))) e.origin)
      (s.onGate g fun x => { x with queue := x.queue.tail }) := by
  unfold takeEntry
  dsimp only
  rw [if_pos hwindow, contextFor_eq_capture, issueMove_onGate_of_far _ (by exact h)]
  rfl

section entry

variable {g : GateNo} {e : Entry} {rest : List Entry} {s : State} (hqueue : (s.gate g).queue = e :: rest)

include hqueue

theorem takeEntry_of_outside (h : s.inWindow g (e.target (s.gate g).standing) = false) :
    AlikeAt g (s.onGate g fun x => { x with queue := rest, rangeFlag := true }) (takeEntry g e s) := by
  unfold takeEntry
  dsimp only
  rw [if_neg (by simp [h])]
  refine AlikeAt.trans ?_ ((notifyRange_notices _ _ _ _).alikeAt g)
  have htail : ((s.onGate g fun x => { x with queue := x.queue.tail }).onGate g fun x => { x with rangeFlag := true }) =
      s.onGate g fun x => { x with queue := rest, rangeFlag := true } := by
    rw [State.onGate_onGate]
    exact State.onGate_congr (by rw [hqueue]; rfl)
  rw [htail]
  exact .refl g _

theorem takeEntry_of_near (hwindow : s.inWindow g (e.target (s.gate g).standing) = true)
    (h : s.withinTolerance g (e.target (s.gate g).standing) = true) (hdevice : s.sup.device ≠ .drain) :
    AlikeAt g (s.onGate g fun x => { x.completed (e.target (s.gate g).standing) e.origin with queue := rest })
      (takeEntry g e s) := by
  unfold takeEntry
  dsimp only
  rw [if_pos hwindow, issueMove_onGate_of_near _ (by exact h)]
  exact completeMove_onGate_alikeAt (by rw [hqueue]; rfl) hdevice

theorem takeEntry_of_far (hwindow : s.inWindow g (e.target (s.gate g).standing) = true)
    (h : s.withinTolerance g (e.target (s.gate g).standing) = false) :
    AlikeAt g (s.onGate g fun x => { x.started (s.contextFor g (e.target (s.gate g).standing)
      (e.speed.getD (defaultSpeed (s.record g))) e.origin) (moveTimeLimit (s.record g)) with queue := rest })
      (takeEntry g e s) := by
  rw [takeEntry_eq_of_far hwindow h]
  exact startMove_onGate_alikeAt (by rw [hqueue]; rfl)

end entry

theorem started_motion (x : Gate) (c : MoveContext) (n : Nat) : (x.started c n).motion = .moving := rfl

/-- A turn that starts a move is the last one: the state is the one the start leaves. -/
theorem examine_of_moving {g : GateNo} {s : State} (h : (s.gate g).motion = .moving) : examine g s = s :=
  examine_of_not_idle (by rw [h]; nofun)

/-- The examination whose closure starts (R119). -/
theorem examine_closure_of_far {g : GateNo} {s : State} (hmay : s.mayIssue g = true)
    (hpending : (s.gate g).closurePending = true) (h : s.withinTolerance g (lowerLimit (s.record g)) = false) :
    examine g s = issueClosure g s := by
  rw [examine_of_closure hmay hpending]
  refine examine_of_moving ?_
  rw [(issueClosure_alikeAt_of_far h).gate, State.gate_onGate_self]
  rfl

/-- The examination whose head entry starts (R108, R110). -/
theorem examine_entry_of_far {g : GateNo} {e : Entry} {rest : List Entry} {s : State} (hmay : s.mayIssue g = true)
    (hpending : (s.gate g).closurePending = false) (hqueue : (s.gate g).queue = e :: rest)
    (hfree : e.automatic = true → (s.gate g).tideClosed = false)
    (hwindow : s.inWindow g (e.target (s.gate g).standing) = true)
    (h : s.withinTolerance g (e.target (s.gate g).standing) = false) : examine g s = takeEntry g e s := by
  rw [examine_of_entry hmay hpending hqueue hfree]
  refine examine_of_moving ?_
  rw [(takeEntry_of_far hqueue hwindow h).gate, State.gate_onGate_self]
  rfl

/-- ExaminationTakesHead, of O38. -/
theorem examinationTakesHead : Sys2Proof.Claim.ExaminationTakesHead := fun g s => by
  intro x y lower limit
  refine ⟨fun hheld => examine_of_held (mayIssue_of_held hheld), fun hpending h => examine_of_nothing hpending h,
    fun hfree hpending => ⟨fun hnear => ?_, fun hfar => ?_⟩,
    fun hfree hpending e rest hqueue htide => ?_⟩
  · have hmay := (mayIssue_iff_not_held s g).mpr hfree
    exact (examine_of_closure hmay hpending ▸
      (issueClosure_alikeAt_of_near hnear (not_drain_of_mayIssue hmay)).examine.gate :)
  · have hmay := (mayIssue_iff_not_held s g).mpr hfree
    show (examine g s).gate g = _
    rw [examine_closure_of_far hmay hpending hfar, (issueClosure_alikeAt_of_far hfar).gate, State.gate_onGate_self]
  · intro target
    have hmay := (mayIssue_iff_not_held s g).mpr hfree
    have htarget : e.target (s.gate g).standing = target := entryTarget_eq e x.standing
    rw [← htarget]
    refine ⟨fun hout => ?_, fun hin hnear => ?_, fun hin hfar => ?_⟩
    · exact (examine_of_entry hmay hpending hqueue htide ▸ (takeEntry_of_outside hqueue hout).examine.gate :)
    · exact (examine_of_entry hmay hpending hqueue htide ▸
        (takeEntry_of_near hqueue hin hnear (not_drain_of_mayIssue hmay)).examine.gate :)
    · show (examine g s).gate g = _
      rw [examine_entry_of_far hmay hpending hqueue htide hin hfar, (takeEntry_of_far hqueue hin hfar).gate,
        State.gate_onGate_self]

end Sys2Proof.Machine
end

section
/-!
PROOFS. The HOLD line: its assertion stops every gate in flight, its release examines every IDLE gate (R115, R120, R121).
-/

namespace Sys2Proof.Machine

/-! ### Assertion -/

/-- What stops the gates in flight concerns those gates alone. -/
theorem stopMovingGates_works_at (s : State) : Works (fun g => (s.gate g).inFlight = true) s (stopMovingGates s) := by
  have hperm := drawOrder_perm s.movingGates.length s.movingGates s
  unfold stopMovingGates
  exact (drawOrder_works _ _ s).trans (foldl_works _ _
    (fun t g hg => stopIfMoving_works t ((mem_movingGates s g).mp (hperm.mem_iff.mp hg))) _)

/-- Settles O37: the stops of the moving gates and nothing else. -/
theorem holdAssertionStopsGates : Obligations.HoldAssertionStopsGates := fun s hline => by
  have hexec : exec .holdLineAsserted s = .next (settle (stopMovingGates (s.onSup fun x => { x with holdLine := true }))) := by
    show execHoldLineAsserted s = _
    simp [execHoldLineAsserted, holdAsserted, hline]
  obtain ⟨hgates, hsup, hsame, hposted⟩ := stopMovingGates_summary (s.onSup fun x => { x with holdLine := true })
  have hwithin := (stopMovingGates_works_at (s.onSup fun x => { x with holdLine := true })).within
  have hsettle := settle_aside (stopMovingGates (s.onSup fun x => { x with holdLine := true }))
  have hpass := (settle_flow (stopMovingGates (s.onSup fun x => { x with holdLine := true }))).undisturbed.pass
  refine ⟨_, hexec, hsettle.sup.trans hsup, fun g => (hsettle.gate g).trans (hgates g), fun h hflight => hsettle.posted (hposted h hflight),
    fun h hflight => ?_, hsettle.store.trans hsame.store, hsettle.levels.trans hsame.levels, hpass.trans hsame.pass,
    hsettle.forcedIndex.trans hsame.forcedIndex⟩
  have hkept := hwithin.hoists h (by simp [hflight])
  exact (hsettle.exceptPhase h).trans hkept.exceptPhase

/-! ### Release -/

theorem examine_of_not_run {g : GateNo} {s : State} (h : s.sup.device ≠ .run) : examine g s = s := by
  refine examine_of_held (Bool.eq_false_iff.mpr fun hmay => h ((mayIssue_iff s g).mp hmay).2.1)

theorem examine_of_no_work {g : GateNo} {s : State} (h : (s.gate g).hasWork = false) : examine g s = s := by
  by_cases hidle : (s.gate g).motion = .idle
  · have hnone : (s.gate g).closurePending = false ∧ (s.gate g).queue = [] := by simpa [Gate.hasWork, hidle] using h
    exact examine_of_nothing hnone.1 fun e he => by rw [hnone.2] at he; nomatch he
  · exact examine_of_not_idle hidle

theorem foldl_examine_of_not_run (gs : List GateNo) {s : State} (h : s.sup.device ≠ .run) :
    gs.foldl (fun acc g => examine g acc) s = s := by
  induction gs with
  | nil => rfl
  | cons g gs ih => rw [List.foldl_cons, examine_of_not_run h, ih]

/-- Each gate stands after the examinations as its own examination leaves it (R121). -/
theorem examineIdleGates_gate (s : State) (g : GateNo) : (examineIdleGates s).gate g = (examine g s).gate g := by
  have hperm := drawOrder_perm s.idleGates.length s.idleGates s
  have hdrawn : AlikeAt g s (drawOrder s.idleGates.length s.idleGates s).2 :=
    (drawOrder_surroundings _ _ s).alikeAt (drawOrder_gate _ _ s g) (by rw [drawOrder_eq])
  unfold examineIdleGates
  by_cases hrun : s.sup.device = .run
  · have hdevice : (drawOrder s.idleGates.length s.idleGates s).2.sup.device = .run := by rw [hdrawn.sup, hrun]
    have h := foldl_alikeAt (f := examine) (g := g) (fun k t => examine_works t rfl) (fun _ _ h => h.examine)
      (hperm.nodup_iff.mpr (allGates_nodup.filter _)) (s := (drawOrder s.idleGates.length s.idleGates s).2)
      (by rw [hdevice]; nofun)
    refine h.gate.trans ?_
    split
    next => exact hdrawn.examine.gate
    next hmem =>
      have hwork : (s.gate g).hasWork = false := by
        rw [hperm.mem_iff] at hmem
        simpa [State.idleGates, mem_allGates] using hmem
      rw [hdrawn.gate, examine_of_no_work hwork]
  · have hdevice : (drawOrder s.idleGates.length s.idleGates s).2.sup.device ≠ .run := by rwa [hdrawn.sup]
    dsimp only
    rw [foldl_examine_of_not_run _ hdevice, hdrawn.gate, examine_of_not_run hrun]

/-- The state with the HOLD line negated. -/
def State.released (s : State) : State := { s with sup := { s.sup with holdLine := false } }

section released

variable (s : State) (g : GateNo)

@[simp] theorem released_gate : s.released.gate g = s.gate g := rfl

@[simp] theorem released_hoist (h : HoistNo) : s.released.hoist h = s.hoist h := rfl

@[simp] theorem released_store : s.released.store = s.store := rfl

@[simp] theorem released_record : s.released.record g = s.record g := by simp [State.record]

@[simp] theorem released_bothStill : s.released.bothStill g = s.bothStill g := by
  unfold State.bothStill State.leftOf State.rightOf
  rw [released_hoist, released_hoist]

@[simp] theorem released_withinTolerance (x : Int) : s.released.withinTolerance g x = s.withinTolerance g x := by
  unfold State.withinTolerance State.leftOf State.rightOf
  rw [released_hoist, released_hoist, released_record]

@[simp] theorem released_inWindow (x : Int) : s.released.inWindow g x = s.inWindow g x := by simp [State.inWindow]

@[simp] theorem released_contextFor (x : Int) (v : Speed) (o : Origin) :
    s.released.contextFor g x v o = ⟨x, v, o, decide (s.gatePosition g < x)⟩ := by
  rw [← contextFor_eq_capture]
  unfold State.capture State.gatePosition State.leftOf State.rightOf
  rw [released_hoist, released_hoist]

theorem released_mayIssue (hidle : (s.gate g).motion = .idle) (hrun : s.sup.device = .run) (hstill : s.bothStill g = true) :
    s.released.mayIssue g = true := (mayIssue_iff _ g).mpr ⟨hidle, hrun, rfl, by rwa [released_bothStill]⟩

end released

theorem exec_holdLineReleased {s : State} (hline : s.sup.holdLine = true) :
    exec .holdLineReleased s = .next (settle (examineIdleGates s.released)) := by
  show execHoldLineReleased s = _
  unfold execHoldLineReleased holdReleased
  rw [if_pos hline]
  rfl

/-- HoldReleaseExamines, of O38. -/
theorem holdReleaseExamines : Sys2Proof.Claim.HoldReleaseExamines := fun s hline => by
  have hsettle := settle_aside (examineIdleGates s.released)
  have hwithin := (examineIdleGates_works s.released).within
  have hgate (g : GateNo) := (hsettle.gate g).trans (examineIdleGates_gate s.released g)
  refine ⟨_, exec_holdLineReleased hline, ?_, ?_, hsettle.store.trans hwithin.surroundings.store,
    hsettle.levels.trans hwithin.surroundings.levels, fun g hg => ?_, fun g hg => ?_, hgate,
    fun g hidle hpending hrun hstill hfar => ?_, fun g e rest hidle hpending hqueue hrun hstill htide => ?_⟩
  · rw [hsettle.sup]
    rcases hwithin.sup with h | ⟨_, h⟩ <;> rw [h] <;> rfl
  · rw [hsettle.sup, hwithin.device]
    rfl
  · rw [hgate, examine_of_no_work, released_gate]
    rw [released_gate]
    rcases hg with h | ⟨h1, h2⟩
    · simp [Gate.hasWork, h]
    · simp [Gate.hasWork, h1, h2]
  · rw [hgate, examine_of_held, released_gate]
    refine Bool.eq_false_iff.mpr fun hmay => ?_
    obtain ⟨_, hrun, _, hstill⟩ := (mayIssue_iff _ g).mp hmay
    rw [released_bothStill] at hstill
    rcases hg with h | h
    · exact h hrun
    · exact Bool.false_ne_true (h.symm.trans hstill)
  · have hmay := released_mayIssue s g hidle hrun hstill
    rw [hgate, examine_closure_of_far hmay hpending (by simpa using hfar),
      (issueClosure_alikeAt_of_far (by simpa using hfar)).gate, State.gate_onGate_self]
    simp [Gate.started]
  · intro target hin hfar
    have hmay := released_mayIssue s g hidle hrun hstill
    have htarget : e.target (s.gate g).standing = target := entryTarget_eq e (s.gate g).standing
    rw [← htarget] at hin hfar ⊢
    rw [hgate, examine_entry_of_far hmay hpending hqueue htide (by simpa using hin) (by simpa using hfar),
      (takeEntry_of_far (s := s.released) hqueue (by simpa using hin) (by simpa using hfar)).gate, State.gate_onGate_self]
    simp [Gate.started]

/-- Settles O38: each gate stands as its own examination leaves it, and an examination is its turns. -/
theorem holdReleaseIssues : Obligations.HoldReleaseIssues := ⟨holdReleaseExamines, examinationTakesHead⟩

end Sys2Proof.Machine
end

section
/-!
PROOFS. What an evaluation does at each gate: closure, closure held, no closure, and the automatic requests (R65 to R77,
R117 to R119).
-/

namespace Sys2Proof.Machine

/-! ### Starts and posts -/

theorem posted_of_hoist {s t : State} {h : HoistNo} {sp : Setpoint} (hstore : t.store = s.store)
    (hslot : (t.hoist h).slot = (s.hoist h).slot) (hlast : (t.hoist h).lastPosted = (s.hoist h).lastPosted)
    (hp : s.Posted h sp) : t.Posted h sp := by
  unfold State.Posted State.driveOf at hp ⊢
  rwa [hslot, hlast, hstore]

/-- A start posts the move to both hoists (R110). -/
theorem startMove_posted {h : HoistNo} {g : GateNo} {c : MoveContext} {s : State} (hg : gateOf h = g)
    (hrun : s.sup.device = .run) (hmode : (s.gate g).mode ≠ .off) :
    (startMove g c s).Posted h ⟨.move, c.target, c.speed⟩ := by
  rw [startMove_eq]
  generalize hs1 : (s.onGate g fun x => x.started c (moveTimeLimit (s.record g))) = s1
  have hrun1 : s1.sup.device = .run := by rw [← hs1, State.onGate_sup, hrun]
  have hmode1 : (s1.gate g).mode ≠ .off := by
    rw [← hs1, State.gate_onGate_self]
    exact hmode
  have hposted := postMoves_posted c.target c.speed hg hrun1 hmode1
  generalize postMoves g c.target c.speed s1 = s2 at hposted
  have hsettle (k : HoistNo) (t : Option Nat) (u : State) (hu : u.Posted h (moveSetpoint c.target c.speed)) :
      (u.onHoist k fun x => { x with settleTimer := t }).Posted h (moveSetpoint c.target c.speed) := by
    refine posted_of_hoist (s := u) rfl ?_ ?_ hu <;>
    · rw [State.hoist_onHoist]
      split
      next e => rw [e]
      next => rfl
  exact hsettle _ _ _ (hsettle _ _ _ hposted)

theorem post_noticeRoom (h : HoistNo) (sp : Setpoint) {s : State} (hroom : s.NoticeRoom) : (post h sp s).NoticeRoom := by
  unfold post
  split
  · by_cases hw : (s.hoist h).phase = some .waiting
    · rw [placePost_of_waiting sp hw]
      exact arbitrate_noticeRoom (s := occupySlot _ _ _ _) hroom
    · rw [placePost_of_not_waiting sp hw]
      exact arbitrate_noticeRoom (s := occupySlot _ _ _ _) hroom
  · exact hroom

theorem postMoves_noticeRoom (g : GateNo) (x : Int) (v : Speed) {s : State} (hroom : s.NoticeRoom) :
    (postMoves g x v s).NoticeRoom := post_noticeRoom _ _ (post_noticeRoom _ _ hroom)

/-- A start offers no notice. -/
theorem startMove_noticeRoom (g : GateNo) (c : MoveContext) {s : State} (hroom : s.NoticeRoom) :
    (startMove g c s).NoticeRoom := by
  rw [startMove_eq]
  exact postMoves_noticeRoom (s := s.onGate g _) g c.target c.speed hroom

/-- The completion of a closure offers no notice, in RUN. -/
theorem completeMove_noticeRoom {g : GateNo} {c : MoveContext} {s : State} (hroom : s.NoticeRoom)
    (hdevice : s.sup.device ≠ .drain) (horigin : ∀ src tag, c.origin ≠ .order src tag) :
    (completeMove g c s).NoticeRoom := by
  have hdrain (u : State) (hu : u.sup = s.sup) : testDrain u = u := by simp [testDrain, hu, hdevice]
  rw [completeMove_eq, hdrain _ (State.onGate_sup ..)]
  unfold notifyArrived
  split
  next src tag h => exact absurd h (horigin src tag)
  next => exact hroom

theorem notify_posted {h : HoistNo} {sp : Setpoint} {s : State} (p : List Word) (hp : s.Posted h sp) :
    (notify p s).Posted h sp := by
  have hnotify := (notify_works (G := fun _ => False) p s).within
  exact posted_of_granted (hnotify.hoists h id) (hnotify.surroundings.driveOf h) hp

/-- A notice to the notice destination with room takes the next tag and is placed. -/
theorem notify_placed {s : State} (p : List Word) (hroom : s.NoticeRoom) :
    (notify p s).Placed (.notice (s.nextNotice (noticeDest s.store.control) p)) (s.nextNotice (noticeDest s.store.control) p) :=
  (offerNotice_placed _ _ hroom).2

/-! ### One gate's evaluation within the evaluation of all -/

/-- The gates before `g` and those after it leave it to its own evaluation (R66). -/
theorem evaluate_around (u d : Int) {s : State} (hrun : s.sup.device = .run) (g : GateNo) :
    ∃ p, AlikeAt g s p ∧ Works (· ≠ g) (evaluateGate u d g p) (evaluate u d s) := by
  obtain ⟨before, after, hsplit⟩ := List.append_of_mem (mem_allGates g)
  have hnodup := allGates_nodup
  rw [hsplit] at hnodup
  have hbefore (k : GateNo) (hk : k ∈ before) : k ≠ g := by
    rintro rfl
    exact (List.disjoint_of_nodup_append hnodup) hk List.mem_cons_self
  have hafter (k : GateNo) (hk : k ∈ after) : k ≠ g := by
    rintro rfl
    exact (List.nodup_cons.mp (List.nodup_append.mp hnodup).2.1).1 hk
  refine ⟨before.foldl (fun acc k => evaluateGate u d k acc) s, ?_, ?_⟩
  · exact (foldl_works (G := (· ≠ g)) _ before (fun t k hk => evaluateGate_works (G := (· ≠ g)) (hbefore k hk) u d t) s).within.alikeAt
      (by simp) (by rw [hrun]; nofun)
  · unfold evaluate
    rw [if_pos hrun, hsplit, List.foldl_append, List.foldl_cons]
    exact foldl_works _ after (fun t k hk => evaluateGate_works (G := (· ≠ g)) (hafter k hk) u d t) _

/-- What the gate's own evaluation posts stays posted (R66). -/
theorem evaluate_posted {u d : Int} {s : State} {g : GateNo} {h : HoistNo} {sp : Setpoint} (hrun : s.sup.device = .run)
    (hg : gateOf h = g) (hp : ∀ p, AlikeAt g s p → (evaluateGate u d g p).Posted h sp) : (evaluate u d s).Posted h sp := by
  obtain ⟨p, halike, hworks⟩ := evaluate_around u d hrun g
  have hwithin := hworks.within
  exact posted_of_granted (hwithin.hoists h (by simp [hg])) (hwithin.surroundings.driveOf h) (hp p halike)

/-! ### The blocked-notice indicator and what the evaluation reads -/

theorem setBlocked_gate (g : GateNo) (b : Bool) (s : State) : (setBlocked g b s).gate g = { s.gate g with blockedNotice := b } :=
  State.gate_onGate_self ..

theorem scheduleOf_onGate (s : State) (g k : GateNo) (φ : Gate → Gate) : (s.onGate g φ).scheduleOf k = s.scheduleOf k := by
  simp [State.scheduleOf, State.schedule]

theorem evaluateFull_eq (g : GateNo) (u d : Int) (s : State) :
    evaluateFull g u d s =
      if s.closureCondition g u d then
        if s.closureDropped g then takeClosureHeld g (setBlocked g false s) else takeClosure g (setBlocked g false s)
      else if |s.autoTarget g u d - (s.gate g).aim| < deadband (s.scheduleOf g) then takeNoClosure g (setBlocked g false s)
      else takeRequest g (automaticEntry (s.gate g).mode (s.autoTarget g u d)) (setBlocked g false s) := by
  have hgate := setBlocked_gate g false s
  have hrecord : (setBlocked g false s).record g = s.record g := State.onGate_record ..
  have hschedule : (setBlocked g false s).scheduleOf g = s.scheduleOf g := scheduleOf_onGate ..
  have hcondition : (setBlocked g false s).closureCondition g u d = s.closureCondition g u d := by
    simp only [State.closureCondition, hschedule]
  have hdropped : (setBlocked g false s).closureDropped g = s.closureDropped g := by
    unfold State.closureDropped
    rw [hgate, hrecord]
    rfl
  have htarget : (setBlocked g false s).autoTarget g u d = s.autoTarget g u d := by
    unfold State.autoTarget State.rawTarget
    rw [hgate, hrecord, hschedule]
    rfl
  have haim : ((setBlocked g false s).gate g).aim = (s.gate g).aim := by
    rw [hgate]
    rfl
  have hmode : ((setBlocked g false s).gate g).mode = (s.gate g).mode := by rw [hgate]
  unfold evaluateFull
  dsimp only
  rw [hcondition, hdropped, htarget, haim, hschedule, hmode, magnitude_eq]

section evaluated

variable {g : GateNo} {u d : Int} {s : State}

theorem closureCondition_iff : s.closureCondition g u d = true ↔ u ≤ d + headMargin (s.scheduleOf g) := by
  simp [State.closureCondition]

theorem closureDropped_iff :
    s.closureDropped g = true ↔ ((s.gate g).motion = .idle ∧ (s.gate g).standing = lowerLimit (s.record g)) ∨
      ((s.gate g).inFlight = true ∧ (s.gate g).aim = lowerLimit (s.record g)) := by
  simp [State.closureDropped]

theorem evaluateGate_of_not_taken (h : s.takenUp g = false) : evaluateGate u d g s = setBlocked g false s := by
  unfold evaluateGate
  rw [if_neg (by simp [h])]

theorem evaluateGate_of_sound (h : s.takenUp g = true) (hsound : (s.gate g).faulty = false) :
    evaluateGate u d g s = evaluateFull g u d s := by
  unfold evaluateGate
  rw [if_pos h, if_neg (by simp [hsound])]

theorem evaluateGate_of_faulty (h : s.takenUp g = true) (hfaulty : (s.gate g).faulty = true) :
    evaluateGate u d g s = evaluateFaulty g u d s := by
  unfold evaluateGate
  rw [if_pos h, if_pos hfaulty]

theorem takenUp_mode_ne_off (h : s.takenUp g = true) : (s.gate g).mode ≠ .off := by
  rcases takenUp_mode h with hm | hm <;> rw [hm] <;> nofun

theorem sound_of_inFlight {x : Gate} (h : x.inFlight = true) : x.faulty = false := by
  rcases (inFlight_iff x).mp h with hm | hm <;> simp [Gate.faulty, hm]

theorem sound_of_idle {x : Gate} (h : x.motion = .idle) : x.faulty = false := by simp [Gate.faulty, h]

theorem not_inFlight_of_idle {x : Gate} (h : x.motion = .idle) : x.inFlight = false := by simp [Gate.inFlight, h]

/-- A closure condition at a gate bound for its lower limit, or there (R77). -/
theorem evaluateGate_of_dropped (htaken : s.takenUp g = true) (hcond : u ≤ d + headMargin (s.scheduleOf g))
    (hsound : (s.gate g).faulty = false) (hdropped : s.closureDropped g = true) :
    evaluateGate u d g s = takeClosureHeld g (setBlocked g false s) := by
  rw [evaluateGate_of_sound htaken hsound, evaluateFull_eq, if_pos (closureCondition_iff.mpr hcond), if_pos hdropped]

theorem evaluateGate_of_closure (htaken : s.takenUp g = true) (hcond : u ≤ d + headMargin (s.scheduleOf g))
    (hsound : (s.gate g).faulty = false) (hdropped : s.closureDropped g = false) :
    evaluateGate u d g s = takeClosure g (setBlocked g false s) := by
  rw [evaluateGate_of_sound htaken hsound, evaluateFull_eq, if_pos (closureCondition_iff.mpr hcond), if_neg (by simp [hdropped])]

theorem takeClosureHeld_of_calm (h : (s.gate g).motion = .idle ∨ (s.gate g).inFlight = true) :
    takeClosureHeld g s = s.onGate g (fun x => { x with tideClosed := true }) := by
  unfold takeClosureHeld
  rw [if_pos (by simpa using h)]

theorem takeClosureHeld_of_faulty (h : (s.gate g).faulty = true) : takeClosureHeld g s = s := by
  unfold takeClosureHeld
  rw [if_neg]
  rcases (faulty_iff _).mp h with hm | hm <;> simp [Gate.inFlight, hm]

/-- A closure retargets a gate in flight (R118). -/
theorem takeClosure_of_inFlight (h : (s.gate g).inFlight = true) :
    takeClosure g s = notify (closurePayload g (lowerLimit (s.record g)) (s.gate g).motion (s.gate g).inFlightTarget)
      (startMove g (s.contextFor g (lowerLimit (s.record g)) .fast .closure)
        (s.onGate g fun x => { x with closurePending := false })) := by
  unfold takeClosure retarget
  dsimp only
  rw [if_pos h, ← contextFor_eq_capture]
  rfl

theorem takeClosure_of_idle (h : (s.gate g).motion = .idle) :
    takeClosure g s = examine g (s.onGate g fun x => { x with closurePending := true }) := by
  unfold takeClosure
  dsimp only
  rw [if_neg (by simp [not_inFlight_of_idle h]), h]

theorem takeClosure_of_stopping (h : (s.gate g).motion = .stopping) :
    takeClosure g s = s.onGate g fun x => { x with closurePending := true } := by
  unfold takeClosure
  dsimp only
  rw [if_neg (by simp [Gate.inFlight, h]), h]

/-- A faulted gate keeps all but its indicator (R75). -/
theorem evaluateFaulty_of_closure (hfaulty : (s.gate g).faulty = true) (hcond : u ≤ d + headMargin (s.scheduleOf g)) :
    evaluateFaulty g u d s = if (s.gate g).blockedNotice then s
      else setBlocked g true (notify (closureBlockedPayload g (s.gate g).motion d u (headMargin (s.scheduleOf g))) s) := by
  unfold evaluateFaulty
  dsimp only
  rw [if_pos (closureCondition_iff.mpr hcond), takeClosureHeld_of_faulty hfaulty]

/-- NO-CLOSURE clears both flags; where the tide-closed flag stood the gate is examined (R66, R108). -/
theorem takeNoClosure_eq :
    takeNoClosure g s = if (s.gate g).tideClosed then
      examine g (s.onGate g fun x => { x with closurePending := false, tideClosed := false })
    else s.onGate g fun x => { x with closurePending := false, tideClosed := false } := rfl

end evaluated

/-! ### Closures -/

@[simp] theorem contextFor_onGate (s : State) (g k : GateNo) (φ : Gate → Gate) (x : Int) (v : Speed) (o : Origin) :
    (s.onGate g φ).contextFor k x v o = s.contextFor k x v o := by
  unfold State.contextFor
  rw [State.onGate_hoist, State.onGate_hoist]

@[simp] theorem inWindow_onGate (s : State) (g k : GateNo) (φ : Gate → Gate) (x : Int) :
    (s.onGate g φ).inWindow k x = s.inWindow k x := by
  unfold State.inWindow
  rw [State.onGate_record]

theorem held_onGate {s : State} {g : GateNo} {φ : Gate → Gate} (h : (φ (s.gate g)).motion = (s.gate g).motion) :
    (s.onGate g φ).HeldFromIssue g ↔ s.HeldFromIssue g := by
  unfold State.HeldFromIssue
  rw [State.gate_onGate_self, h, State.onGate_sup, State.onGate_hoist, State.onGate_hoist]

theorem mayIssue_onGate {s : State} {g : GateNo} {φ : Gate → Gate} (h : (φ (s.gate g)).motion = (s.gate g).motion)
    (hfree : ¬s.HeldFromIssue g) : (s.onGate g φ).mayIssue g = true :=
  (mayIssue_iff_not_held _ g).mpr fun hheld => hfree ((held_onGate h).mp hheld)

/-- A closure that is issued and starts posts the lower limit at FAST (R110, R119). -/
theorem issueClosure_posted {h : HoistNo} {g : GateNo} {s : State} (hg : gateOf h = g) (hrun : s.sup.device = .run)
    (hmode : (s.gate g).mode ≠ .off) (hfar : s.withinTolerance g (lowerLimit (s.record g)) = false) :
    (issueClosure g s).Posted h ⟨.move, lowerLimit (s.record g), .fast⟩ := by
  unfold issueClosure
  dsimp only
  rw [contextFor_eq_capture, issueMove_onGate_of_far _ (by exact hfar)]
  have hposted := startMove_posted (c := s.contextFor g (lowerLimit (s.record g)) .fast .closure)
    (s := s.onGate g fun x => { x with closurePending := false }) hg (by rwa [State.onGate_sup])
    (by rwa [State.gate_onGate_self])
  exact notify_posted _ hposted

section closure

variable {g : GateNo} {u d : Int} {s : State}

/-- The retargeting by a closure, after the indicator is cleared (R105, R118). -/
theorem takeClosure_in_flight (h : (s.gate g).inFlight = true) :
    takeClosure g (setBlocked g false s) =
      notify (closurePayload g (lowerLimit (s.record g)) (s.gate g).motion (s.gate g).inFlightTarget)
        (startMove g (s.contextFor g (lowerLimit (s.record g)) .fast .closure)
          (s.onGate g fun x => { x with closurePending := false, blockedNotice := false })) := by
  have hgate := setBlocked_gate g false s
  have hflight : ((setBlocked g false s).gate g).inFlight = true := by rwa [hgate]
  rw [takeClosure_of_inFlight hflight, hgate]
  unfold setBlocked
  rw [State.onGate_record, contextFor_onGate, State.onGate_onGate]
  rfl

/-- The gate with its closure pending (R119). -/
def State.pendingClosure (s : State) (g : GateNo) : State :=
  s.onGate g fun x => { x with closurePending := true, blockedNotice := false }

theorem takeClosure_idle (h : (s.gate g).motion = .idle) :
    takeClosure g (setBlocked g false s) = examine g (s.pendingClosure g) := by
  have hidle : ((setBlocked g false s).gate g).motion = .idle := by rwa [setBlocked_gate]
  rw [takeClosure_of_idle hidle]
  unfold setBlocked
  rw [State.onGate_onGate]
  rfl

theorem takeClosure_stopping (h : (s.gate g).motion = .stopping) :
    takeClosure g (setBlocked g false s) = s.pendingClosure g := by
  have hstopping : ((setBlocked g false s).gate g).motion = .stopping := by rwa [setBlocked_gate]
  rw [takeClosure_of_stopping hstopping]
  unfold setBlocked
  rw [State.onGate_onGate]
  rfl

theorem takeClosureHeld_calm (h : (s.gate g).motion = .idle ∨ (s.gate g).inFlight = true) :
    (takeClosureHeld g (setBlocked g false s)).gate g = { s.gate g with tideClosed := true, blockedNotice := false } := by
  have hgate := setBlocked_gate g false s
  have hcalm : ((setBlocked g false s).gate g).motion = .idle ∨ ((setBlocked g false s).gate g).inFlight = true := by
    rwa [hgate]
  rw [takeClosureHeld_of_calm hcalm, State.gate_onGate_self, hgate]

theorem pendingClosure_gate : (s.pendingClosure g).gate g = { s.gate g with closurePending := true, blockedNotice := false } :=
  State.gate_onGate_self ..

theorem examine_pendingClosure_of_far (hfree : ¬s.HeldFromIssue g)
    (hfar : s.withinTolerance g (lowerLimit (s.record g)) = false) :
    examine g (s.pendingClosure g) = issueClosure g (s.pendingClosure g) := by
  refine examine_closure_of_far (mayIssue_onGate rfl hfree) ?_ ?_
  · rw [pendingClosure_gate]
  · rwa [State.pendingClosure, State.onGate_record, withinTolerance_onGate]

theorem examine_pendingClosure_far_gate (hfree : ¬s.HeldFromIssue g)
    (hfar : s.withinTolerance g (lowerLimit (s.record g)) = false) :
    (examine g (s.pendingClosure g)).gate g =
      { (s.gate g).started (s.contextFor g (lowerLimit (s.record g)) .fast .closure) (moveTimeLimit (s.record g)) with
        closurePending := false, blockedNotice := false } := by
  rw [examine_pendingClosure_of_far hfree hfar]
  have h := issueClosure_alikeAt_of_far (g := g) (s := s.pendingClosure g)
    (by rwa [State.pendingClosure, State.onGate_record, withinTolerance_onGate])
  rw [h.gate, State.gate_onGate_self, pendingClosure_gate]
  unfold State.pendingClosure
  rw [State.onGate_record, contextFor_onGate]
  rfl

/-- Where the closure is completed at once, the automatic entries stay behind it (R108, R113). -/
theorem examine_pendingClosure_near_gate (hfree : ¬s.HeldFromIssue g) (hqueue : ∀ e ∈ (s.gate g).queue, e.automatic = true)
    (hnear : s.withinTolerance g (lowerLimit (s.record g)) = true) :
    (examine g (s.pendingClosure g)).gate g =
      { (s.gate g).completed (lowerLimit (s.record g)) .closure with closurePending := false, blockedNotice := false } := by
  have hmay : (s.pendingClosure g).mayIssue g = true := mayIssue_onGate rfl hfree
  rw [examine_of_closure hmay (by rw [pendingClosure_gate])]
  have h := issueClosure_alikeAt_of_near (g := g) (s := s.pendingClosure g)
    (by rwa [State.pendingClosure, State.onGate_record, withinTolerance_onGate]) (not_drain_of_mayIssue hmay)
  have hgate := h.gate
  rw [State.gate_onGate_self, pendingClosure_gate] at hgate
  rw [examine_of_nothing (by rw [hgate]) fun e he => ?_]
  · rw [hgate]
    unfold State.pendingClosure
    rw [State.onGate_record]
    rfl
  · rw [hgate] at he ⊢
    exact ⟨hqueue e (List.mem_of_mem_head? he), Bool.or_true _⟩

theorem queue_automatic (hrule : (s.gate g).queueRule) (htaken : s.takenUp g = true) :
    ∀ e ∈ (s.gate g).queue, e.automatic = true := by
  unfold Gate.queueRule at hrule
  intro e he
  rcases takenUp_mode htaken with hm | hm <;> rw [hm] at hrule <;> simp [Entry.automatic, hrule.2 e he]

theorem not_dropped_of_inFlight (h : (s.gate g).inFlight = true) (haim : (s.gate g).aim ≠ lowerLimit (s.record g)) :
    s.closureDropped g = false := by
  rw [Bool.eq_false_iff, Ne, closureDropped_iff]
  rintro (⟨hidle, _⟩ | ⟨_, haim'⟩)
  · rw [not_inFlight_of_idle hidle] at h
    nomatch h
  · exact haim haim'

theorem not_dropped_of_idle (h : (s.gate g).motion = .idle) (hstanding : (s.gate g).standing ≠ lowerLimit (s.record g)) :
    s.closureDropped g = false := by
  rw [Bool.eq_false_iff, Ne, closureDropped_iff]
  rintro (⟨_, h'⟩ | ⟨h', _⟩)
  · exact hstanding h'
  · rw [not_inFlight_of_idle h] at h'
    nomatch h'

theorem not_dropped_of_stopping (h : (s.gate g).motion = .stopping) : s.closureDropped g = false := by
  simp [State.closureDropped, Gate.inFlight, h]

theorem AlikeAt.held {t : State} (h : AlikeAt g s t) : t.HeldFromIssue g ↔ s.HeldFromIssue g := by
  unfold State.HeldFromIssue
  rw [h.gate, h.sup, h.drive, h.drive]

/-- A closure that retargets posts the lower limit at FAST (R105, R118). -/
theorem evaluateGate_posted_in_flight {h : HoistNo} (hg : gateOf h = g) (hrun : s.sup.device = .run)
    (htaken : s.takenUp g = true) (hcond : u ≤ d + headMargin (s.scheduleOf g)) (hflight : (s.gate g).inFlight = true)
    (haim : (s.gate g).aim ≠ lowerLimit (s.record g)) :
    (evaluateGate u d g s).Posted h ⟨.move, lowerLimit (s.record g), .fast⟩ := by
  rw [evaluateGate_of_closure htaken hcond (sound_of_inFlight hflight) (not_dropped_of_inFlight hflight haim),
    takeClosure_in_flight hflight]
  have hposted := startMove_posted (c := s.contextFor g (lowerLimit (s.record g)) .fast .closure)
    (s := s.onGate g fun x => { x with closurePending := false, blockedNotice := false }) hg (by rwa [State.onGate_sup])
    (by rw [State.gate_onGate_self]; exact takenUp_mode_ne_off htaken)
  exact notify_posted _ hposted

/-- A closure that is issued posts the lower limit at FAST (R110, R119). -/
theorem evaluateGate_posted_idle {h : HoistNo} (hg : gateOf h = g)
    (htaken : s.takenUp g = true) (hcond : u ≤ d + headMargin (s.scheduleOf g)) (hidle : (s.gate g).motion = .idle)
    (hstanding : (s.gate g).standing ≠ lowerLimit (s.record g)) (hfree : ¬s.HeldFromIssue g)
    (hfar : s.withinTolerance g (lowerLimit (s.record g)) = false) :
    (evaluateGate u d g s).Posted h ⟨.move, lowerLimit (s.record g), .fast⟩ := by
  have hrun : s.sup.device = .run := ((mayIssue_iff s g).mp ((mayIssue_iff_not_held s g).mpr hfree)).2.1
  rw [evaluateGate_of_closure htaken hcond (sound_of_idle hidle) (not_dropped_of_idle hidle hstanding), takeClosure_idle hidle,
    examine_pendingClosure_of_far hfree hfar]
  have hposted := issueClosure_posted (s := s.pendingClosure g) hg hrun
    (by rw [pendingClosure_gate]; exact takenUp_mode_ne_off htaken)
    (by rwa [State.pendingClosure, State.onGate_record, withinTolerance_onGate])
  rwa [State.pendingClosure, State.onGate_record] at hposted

/-- ClosureOutcomes, of O26. -/
theorem closureOutcomes : Sys2Proof.Claim.ClosureOutcomes := fun u d g s hrun hmotion hqueue => by
  intro x y lower closing posted
  have hy : y = (evaluateGate u d g s).gate g := (evaluate_alikeAt u d hrun g).gate
  refine ⟨fun htaken => ?_, fun htaken hcond => ⟨fun hflight haim => ?_, fun hflight haim => ⟨?_, fun h hg => ?_⟩,
    fun hidle hstanding => ?_, fun hidle hstanding hheld => ?_, fun hidle hstanding hfree hnear => ?_,
    fun hidle hstanding hfree hfar => ⟨?_, fun h hg => ?_⟩, fun hstopping => ?_, fun hfaulty => ?_⟩⟩
  · rw [hy, evaluateGate_of_not_taken htaken, setBlocked_gate]
  · rw [hy, evaluateGate_of_dropped htaken hcond (sound_of_inFlight hflight) (closureDropped_iff.mpr (.inr ⟨hflight, haim⟩)),
      takeClosureHeld_calm (.inr hflight)]
  · rw [hy, evaluateGate_of_closure htaken hcond (sound_of_inFlight hflight) (not_dropped_of_inFlight hflight haim),
      takeClosure_in_flight hflight, (notify_alikeAt g _ _).gate, startMove_gate_self, State.gate_onGate_self, State.onGate_record]
    rfl
  · refine evaluate_posted hrun hg fun p halike => ?_
    have hp := evaluateGate_posted_in_flight (u := u) (d := d) (s := p) hg (by rwa [halike.sup]) (by rwa [halike.takenUp])
      (by rwa [halike.scheduleOf]) (by rwa [halike.gate]) (by rwa [halike.gate, halike.record])
    rwa [halike.record] at hp
  · rw [hy, evaluateGate_of_dropped htaken hcond (sound_of_idle hidle) (closureDropped_iff.mpr (.inl ⟨hidle, hstanding⟩)),
      takeClosureHeld_calm (.inl hidle)]
  · have hpending : (s.pendingClosure g).HeldFromIssue g := (held_onGate rfl).mpr hheld
    rw [hy, evaluateGate_of_closure htaken hcond (sound_of_idle hidle) (not_dropped_of_idle hidle hstanding),
      takeClosure_idle hidle, examine_of_held (mayIssue_of_held hpending), pendingClosure_gate]
  · rw [hy, evaluateGate_of_closure htaken hcond (sound_of_idle hidle) (not_dropped_of_idle hidle hstanding),
      takeClosure_idle hidle, examine_pendingClosure_near_gate hfree (queue_automatic hqueue htaken) hnear]
  · rw [hy, evaluateGate_of_closure htaken hcond (sound_of_idle hidle) (not_dropped_of_idle hidle hstanding),
      takeClosure_idle hidle, examine_pendingClosure_far_gate hfree hfar]
  · refine evaluate_posted hrun hg fun p halike => ?_
    have hp := evaluateGate_posted_idle (u := u) (d := d) (s := p) hg (by rwa [halike.takenUp])
      (by rwa [halike.scheduleOf]) (by rwa [halike.gate]) (by rwa [halike.gate, halike.record])
      (by rwa [halike.held]) (by rwa [halike.record, halike.withinTolerance])
    rwa [halike.record] at hp
  · rw [hy, evaluateGate_of_closure htaken hcond (by simp [Gate.faulty, x, hstopping]) (not_dropped_of_stopping hstopping),
      takeClosure_stopping hstopping, pendingClosure_gate]
  · rw [hy, evaluateGate_of_faulty htaken hfaulty, evaluateFaulty_of_closure hfaulty hcond]
    split
    next hblocked => exact (congrArg (fun b => { x with blockedNotice := b }) hblocked :)
    next => rw [setBlocked_gate, (notify_alikeAt g _ _).gate]

/-! ### The notices of a closure (R75, R122) -/

theorem nextNotice_eq (s : State) (ws : List Word) :
    s.nextNotice (noticeDest s.store.control) ws = ⟨noticeDest s.store.control, kindNotice, nextTag s.post.tagCounter, ws⟩ := rfl

/-- A closure issued, whether it starts or is completed, is announced where there is room (R119). -/
theorem issueClosure_placed (hroom : s.NoticeRoom) (hmay : s.mayIssue g = true) :
    ∃ tag, (issueClosure g s).Placed
      (.notice ⟨noticeDest s.store.control, kindNotice, tag, closurePayload g (lowerLimit (s.record g)) (s.gate g).motion none⟩)
      ⟨noticeDest s.store.control, kindNotice, tag, closurePayload g (lowerLimit (s.record g)) (s.gate g).motion none⟩ := by
  have hdevice := not_drain_of_mayIssue hmay
  unfold issueClosure
  dsimp only
  rw [contextFor_eq_capture]
  generalize hs1 : s.onGate g (fun x => { x with closurePending := false }) = s1
  have hroom1 : s1.NoticeRoom := hs1 ▸ hroom
  have hdevice1 : s1.sup.device ≠ .drain := hs1 ▸ hdevice
  have hissued : (issueMove g (s.contextFor g (lowerLimit (s.record g)) .fast .closure) s1).NoticeRoom := by
    rw [issueMove_eq]
    split
    · exact completeMove_noticeRoom hroom1 hdevice1 nofun
    · exact startMove_noticeRoom _ _ hroom1
  have hstore : (issueMove g (s.contextFor g (lowerLimit (s.record g)) .fast .closure) s1).store = s.store := by
    rw [issueMove_eq]
    have hstore1 : s1.store = s.store := by rw [← hs1, State.onGate_store]
    split
    · exact (completeMove_alikeAt g _ hdevice1).store.trans hstore1
    · exact (startMove_alikeAt g _ s1).store.trans hstore1
  have hplaced := notify_placed (closurePayload g (lowerLimit (s.record g)) (s.gate g).motion none) hissued
  rw [nextNotice_eq, hstore] at hplaced
  exact ⟨_, hplaced⟩

theorem closurePayload_of_inFlight {x : Gate} (lower : Int) (hrule : x.motionRule) (h : x.inFlight = true) :
    closurePayload g lower x.motion x.inFlightTarget =
      [pack [(3, 8), (g.val, 0)], word lower, pack [(x.motion.code, 0), (1, 15)], word x.aim] := by
  obtain ⟨hcontext, _⟩ := hrule
  rw [h, Bool.true_or, Option.isSome_iff_exists] at hcontext
  obtain ⟨c, hc⟩ := hcontext
  have htarget : x.inFlightTarget = some c.target := by simp [Gate.inFlightTarget, h, hc]
  have haim : x.aim = c.target := by simp [Gate.aim, h, hc]
  rw [htarget, haim]
  rfl

/-- ClosureNoticed, of O26. -/
theorem closureNoticed : Sys2Proof.Claim.ClosureNoticed := fun u d g s hrun hmotion htaken hcond => by
  intro x t lower notice
  refine ⟨fun hflight haim hroom => ?_, fun hidle hstanding hfree hroom => ?_, fun hfaulty hblocked hroom => ?_,
    fun hfaulty hblocked => ?_⟩
  · have ht : t = _ := (evaluateGate_of_closure htaken hcond (sound_of_inFlight hflight)
      (not_dropped_of_inFlight hflight haim)).trans (takeClosure_in_flight hflight)
    rw [closurePayload_of_inFlight _ hmotion hflight] at ht
    have hstarted := startMove_noticeRoom g (s.contextFor g (lowerLimit (s.record g)) .fast .closure)
      (s := s.onGate g fun x => { x with closurePending := false, blockedNotice := false }) hroom
    have hstore := (startMove_alikeAt g (s.contextFor g (lowerLimit (s.record g)) .fast .closure)
      (s.onGate g fun x => { x with closurePending := false, blockedNotice := false })).store
    have hplaced := notify_placed [pack [(3, 8), (g.val, 0)], word lower, pack [(x.motion.code, 0), (1, 15)], word x.aim]
      hstarted
    rw [nextNotice_eq, hstore] at hplaced
    rw [ht]
    exact ⟨_, hplaced⟩
  · have hpending : (s.pendingClosure g).mayIssue g = true := mayIssue_onGate rfl hfree
    have ht : t = _ := ((evaluateGate_of_closure htaken hcond (sound_of_idle hidle) (not_dropped_of_idle hidle hstanding)).trans
      (takeClosure_idle hidle)).trans (examine_of_closure hpending (by rw [pendingClosure_gate]))
    obtain ⟨tag, hplaced⟩ := issueClosure_placed (s := s.pendingClosure g) hroom hpending
    rw [ht]
    have hkept := (examine_works (G := fun _ => True) (g := g) (issueClosure g (s.pendingClosure g)) trivial).within.placed
    have hpayload : closurePayload g (lowerLimit ((s.pendingClosure g).record g)) ((s.pendingClosure g).gate g).motion none =
        [pack [(3, 8), (g.val, 0)], word lower, 0#16, word 0] := by
      rw [pendingClosure_gate, State.pendingClosure, State.onGate_record]
      show closurePayload g lower x.motion none = _
      rw [hidle]
      rfl
    rw [hpayload] at hplaced
    exact ⟨tag, word 0, hkept.notice hplaced⟩
  · have ht : t = _ := (evaluateGate_of_faulty htaken hfaulty).trans (evaluateFaulty_of_closure hfaulty hcond)
    rw [if_neg (Bool.eq_false_iff.mp hblocked)] at ht
    rw [ht]
    exact (onGate_soundless _ g _).keepsPlaced.notice (notify_placed _ hroom)
  · show evaluateGate u d g s = s
    rw [evaluateGate_of_faulty htaken hfaulty, evaluateFaulty_of_closure hfaulty hcond, if_pos hblocked]

end closure

end Sys2Proof.Machine
end

section
/-!
PROOFS. What an evaluation without closure condition does at each gate: NO-CLOSURE and the automatic requests (R66, R76,
R100, R110, R117).
-/

namespace Sys2Proof.Machine

section open_water

variable {g : GateNo} {u d : Int} {s : State}

theorem not_closureCondition (h : d + headMargin (s.scheduleOf g) < u) : s.closureCondition g u d = false := by
  rw [Bool.eq_false_iff, Ne, closureCondition_iff]
  omega

/-- The gate with the closure flags and the indicator cleared (R66). -/
def Gate.cleared (x : Gate) : Gate := { x with closurePending := false, tideClosed := false, blockedNotice := false }

theorem evaluateGate_of_noClosure (htaken : s.takenUp g = true) (hopen : d + headMargin (s.scheduleOf g) < u)
    (hsound : (s.gate g).faulty = false) (hdrop : |s.autoTarget g u d - (s.gate g).aim| < deadband (s.scheduleOf g)) :
    evaluateGate u d g s = takeNoClosure g (setBlocked g false s) := by
  rw [evaluateGate_of_sound htaken hsound, evaluateFull_eq, if_neg (by simp [not_closureCondition hopen]), if_pos hdrop]

theorem evaluateGate_of_request (htaken : s.takenUp g = true) (hopen : d + headMargin (s.scheduleOf g) < u)
    (hsound : (s.gate g).faulty = false) (hkeep : deadband (s.scheduleOf g) ≤ |s.autoTarget g u d - (s.gate g).aim|) :
    evaluateGate u d g s =
      takeRequest g (automaticEntry (s.gate g).mode (s.autoTarget g u d)) (setBlocked g false s) := by
  rw [evaluateGate_of_sound htaken hsound, evaluateFull_eq, if_neg (by simp [not_closureCondition hopen]), if_neg (by omega)]

/-- NO-CLOSURE after the indicator: the flags cleared, and the gate examined where the tide-closed flag stood. -/
theorem takeNoClosure_setBlocked :
    takeNoClosure g (setBlocked g false s) =
      if (s.gate g).tideClosed then examine g (s.onGate g Gate.cleared) else s.onGate g Gate.cleared := by
  rw [takeNoClosure_eq, setBlocked_gate]
  unfold setBlocked
  rw [State.onGate_onGate]
  rfl

theorem cleared_gate : (s.onGate g Gate.cleared).gate g = (s.gate g).cleared := State.gate_onGate_self ..

/-- A faulted gate is cleared (R75). -/
theorem evaluateFaulty_of_noClosure (hfaulty : (s.gate g).faulty = true) (hopen : d + headMargin (s.scheduleOf g) < u) :
    (evaluateFaulty g u d s).gate g = (s.gate g).cleared := by
  have hclear : ((s.onGate g fun x => { x with closurePending := false, tideClosed := false }).gate g).motion ≠ .idle := by
    rw [State.gate_onGate_self]
    rcases (faulty_iff _).mp hfaulty with h | h <;> rw [h] <;> nofun
  unfold evaluateFaulty
  dsimp only
  rw [if_neg (by simp [not_closureCondition hopen]), setBlocked_gate, takeNoClosure_eq, examine_of_not_idle hclear,
    ite_self, State.gate_onGate_self]
  rfl

/-- NoClosureOutcome, of O26. -/
theorem noClosureOutcome : Sys2Proof.Claim.NoClosureOutcome := fun u d g s hrun hmotion hqueue htaken hopen => by
  intro x y cleared
  have hy : y = (evaluateGate u d g s).gate g := (evaluate_alikeAt u d hrun g).gate
  refine ⟨fun hfaulty => ?_, fun hsound hdrop => ⟨fun hquiet => ?_, fun htide hfree e he => ?_⟩⟩
  · rw [hy, evaluateGate_of_faulty htaken hfaulty, evaluateFaulty_of_noClosure hfaulty hopen]
    rfl
  · rw [hy, evaluateGate_of_noClosure htaken hopen hsound hdrop, takeNoClosure_setBlocked]
    split
    next ht =>
      have hkept : examine g (s.onGate g Gate.cleared) = s.onGate g Gate.cleared := by
        rcases hquiet with h | h | h
        · exact absurd ht (by simp [x] at h; simp [h])
        · exact examine_of_held (mayIssue_of_held ((held_onGate rfl).mpr h))
        · refine examine_of_nothing (by rw [cleared_gate]; rfl) fun e he => ?_
          rw [cleared_gate] at he
          exact absurd he (by simp [Gate.cleared, show (s.gate g).queue = [] from h])
      rw [hkept, cleared_gate]
      rfl
    next =>
      rw [cleared_gate]
      rfl
  · intro target hin hfar
    have htarget : e.target ((s.onGate g Gate.cleared).gate g).standing = target := by
      rw [cleared_gate]
      exact entryTarget_eq e x.standing
    have hmay : (s.onGate g Gate.cleared).mayIssue g = true := mayIssue_onGate rfl hfree
    have hentry : ((s.onGate g Gate.cleared).gate g).queue = [e] := by
      rw [cleared_gate]
      exact he
    have hwindow : (s.onGate g Gate.cleared).inWindow g (e.target ((s.onGate g Gate.cleared).gate g).standing) = true := by
      rwa [htarget, inWindow_onGate]
    have hdistance : (s.onGate g Gate.cleared).withinTolerance g (e.target ((s.onGate g Gate.cleared).gate g).standing) = false := by
      rwa [htarget, withinTolerance_onGate]
    rw [hy, evaluateGate_of_noClosure htaken hopen hsound hdrop, takeNoClosure_setBlocked, if_pos (by exact htide),
      examine_entry_of_far hmay (by rw [cleared_gate]; rfl) hentry (fun _ => by rw [cleared_gate]; rfl) hwindow hdistance,
      (takeEntry_of_far hentry hwindow hdistance).gate, State.gate_onGate_self, htarget, cleared_gate, contextFor_onGate,
      State.onGate_record]
    rfl

/-! ### Automatic requests (R66, R100, R117) -/

theorem automaticEntry_eq (m : Mode) (x : Int) :
    automaticEntry m x = ⟨if m = .flood then .flood else .auto, .absolute, x, some (if m = .flood then .fast else .normal)⟩ := by
  unfold automaticEntry
  split <;> rfl

/-- The one entry a gate in AUTO or FLOOD holds gives way to the new one (R100). -/
theorem joinAutomatic_of_rule {x : Gate} (hrule : x.queueRule) (hmode : x.mode = .auto ∨ x.mode = .flood) (t : Int) :
    joinAutomatic (automaticEntry x.mode t) x.queue = [automaticEntry x.mode t] := by
  have hsame : x.queue.length ≤ 1 ∧ ∀ e ∈ x.queue, e.origin = (automaticEntry x.mode t).origin := by
    unfold Gate.queueRule at hrule
    rw [automaticEntry_eq]
    rcases hmode with hm | hm <;> rw [hm] at hrule ⊢ <;> exact hrule
  obtain ⟨hlength, horigin⟩ := hsame
  unfold joinAutomatic
  match hq : x.queue with
  | [] => rfl
  | [e] =>
    have he : e.origin = (automaticEntry x.mode t).origin := horigin e (by rw [hq]; exact List.mem_singleton_self e)
    simp [he]
  | e :: e' :: rest => simp [hq] at hlength

/-- The state in which an automatic request is examined (R117). -/
def State.requested (s : State) (g : GateNo) (e : Entry) : State :=
  s.onGate g fun x => { x.cleared with queue := [e] }

theorem requested_gate (e : Entry) : (s.requested g e).gate g = { (s.gate g).cleared with queue := [e] } :=
  State.gate_onGate_self ..

theorem takeRequest_setBlocked (hrule : (s.gate g).queueRule) (htaken : s.takenUp g = true) (t : Int) :
    takeRequest g (automaticEntry (s.gate g).mode t) (setBlocked g false s) =
      examine g (s.requested g (automaticEntry (s.gate g).mode t)) := by
  have hjoin := joinAutomatic_of_rule hrule (takenUp_mode htaken) t
  unfold takeRequest setBlocked State.requested
  rw [State.onGate_onGate]
  congr 1
  refine State.onGate_congr ?_
  dsimp only
  rw [hjoin]
  rfl

section issued

variable {e : Entry} (hform : e.form = .absolute)

include hform

theorem requested_target (x : Int) : e.target x = e.value := by rw [entryTarget_eq, if_pos hform]

/-- A request within tolerance is completed (R113). -/
theorem examine_requested_near (hfree : ¬s.HeldFromIssue g) (hin : s.inWindow g e.value = true)
    (hnear : s.withinTolerance g e.value = true) :
    (examine g (s.requested g e)).gate g = { (s.gate g).cleared.completed e.value e.origin with queue := [] } := by
  have hmay : (s.requested g e).mayIssue g = true := mayIssue_onGate rfl hfree
  have hqueue : ((s.requested g e).gate g).queue = [e] := by rw [requested_gate]
  have htarget := requested_target hform ((s.requested g e).gate g).standing
  have hwindow : (s.requested g e).inWindow g (e.target ((s.requested g e).gate g).standing) = true := by
    rwa [htarget, State.requested, inWindow_onGate]
  have hdistance : (s.requested g e).withinTolerance g (e.target ((s.requested g e).gate g).standing) = true := by
    rwa [htarget, State.requested, withinTolerance_onGate]
  have hgate := (takeEntry_of_near hqueue hwindow hdistance (not_drain_of_mayIssue hmay)).gate
  rw [State.gate_onGate_self, htarget, requested_gate] at hgate
  rw [examine_of_entry hmay (by rw [requested_gate]; rfl) hqueue (fun _ => by rw [requested_gate]; rfl),
    examine_of_nothing (by rw [hgate]; rfl) fun k hk => by rw [hgate] at hk; nomatch hk]
  exact hgate

theorem examine_requested_far (hfree : ¬s.HeldFromIssue g) (hin : s.inWindow g e.value = true)
    (hfar : s.withinTolerance g e.value = false) :
    examine g (s.requested g e) = takeEntry g e (s.requested g e) ∧
      (examine g (s.requested g e)).gate g =
        { (s.gate g).cleared.started (s.contextFor g e.value (e.speed.getD (defaultSpeed (s.record g))) e.origin)
            (moveTimeLimit (s.record g)) with queue := [] } := by
  have hmay : (s.requested g e).mayIssue g = true := mayIssue_onGate rfl hfree
  have hqueue : ((s.requested g e).gate g).queue = [e] := by rw [requested_gate]
  have htarget := requested_target hform ((s.requested g e).gate g).standing
  have hwindow : (s.requested g e).inWindow g (e.target ((s.requested g e).gate g).standing) = true := by
    rwa [htarget, State.requested, inWindow_onGate]
  have hdistance : (s.requested g e).withinTolerance g (e.target ((s.requested g e).gate g).standing) = false := by
    rwa [htarget, State.requested, withinTolerance_onGate]
  have htaken := examine_entry_of_far hmay (by rw [requested_gate]; rfl) hqueue (fun _ => by rw [requested_gate]; rfl)
    hwindow hdistance
  refine ⟨htaken, ?_⟩
  have hgate := (takeEntry_of_far hqueue hwindow hdistance).gate
  rw [State.gate_onGate_self, htarget, requested_gate] at hgate
  rw [htaken, hgate]
  unfold State.requested
  rw [contextFor_onGate, State.onGate_record]
  rfl

end issued

/-- An entry that starts posts its target to both hoists (R110). -/
theorem takeEntry_posted {h : HoistNo} {e : Entry} (hg : gateOf h = g) (hrun : s.sup.device = .run)
    (hmode : (s.gate g).mode ≠ .off) (hin : s.inWindow g (e.target (s.gate g).standing) = true)
    (hfar : s.withinTolerance g (e.target (s.gate g).standing) = false) :
    (takeEntry g e s).Posted h ⟨.move, e.target (s.gate g).standing, e.speed.getD (defaultSpeed (s.record g))⟩ := by
  rw [takeEntry_eq_of_far hin hfar]
  exact startMove_posted (c := s.contextFor g _ _ _) (s := s.onGate g _) hg (by rwa [State.onGate_sup])
    (by rwa [State.gate_onGate_self])

theorem autoTarget_inWindow (hle : lowerLimit (s.record g) ≤ upperLimit (s.record g)) (u d : Int) :
    s.inWindow g (s.autoTarget g u d) = true := (inWindow_iff ..).mpr (clamp_mem hle _)

/-- A request that starts posts its target (R110, R117). -/
theorem evaluateGate_posted_request {h : HoistNo} (hg : gateOf h = g) (hrule : (s.gate g).queueRule)
    (htaken : s.takenUp g = true) (hopen : d + headMargin (s.scheduleOf g) < u)
    (hsound : (s.gate g).faulty = false) (hkeep : deadband (s.scheduleOf g) ≤ |s.autoTarget g u d - (s.gate g).aim|)
    (hfree : ¬s.HeldFromIssue g) (hle : lowerLimit (s.record g) ≤ upperLimit (s.record g))
    (hfar : s.withinTolerance g (s.autoTarget g u d) = false) :
    (evaluateGate u d g s).Posted h ⟨.move, s.autoTarget g u d, if (s.gate g).mode = .flood then .fast else .normal⟩ := by
  have hrun : s.sup.device = .run := ((mayIssue_iff s g).mp ((mayIssue_iff_not_held s g).mpr hfree)).2.1
  rw [evaluateGate_of_request htaken hopen hsound hkeep, takeRequest_setBlocked hrule htaken]
  rw [automaticEntry_eq]
  generalize he : (⟨if (s.gate g).mode = .flood then .flood else .auto, .absolute, s.autoTarget g u d,
    some (if (s.gate g).mode = .flood then .fast else .normal)⟩ : Entry) = e
  have hform : e.form = .absolute := he ▸ rfl
  have hvalue : e.value = s.autoTarget g u d := he ▸ rfl
  have hspeed : e.speed = some (if (s.gate g).mode = .flood then .fast else .normal) := he ▸ rfl
  rw [(examine_requested_far hform hfree (hvalue ▸ autoTarget_inWindow hle u d) (hvalue ▸ hfar)).1]
  have htarget := requested_target hform ((s.requested g e).gate g).standing
  have hposted := takeEntry_posted (s := s.requested g e) (e := e) hg hrun
    (by rw [requested_gate]; exact takenUp_mode_ne_off htaken)
    (by rw [htarget, State.requested, inWindow_onGate, hvalue]; exact autoTarget_inWindow hle u d)
    (by rw [htarget, State.requested, withinTolerance_onGate, hvalue]; exact hfar)
  rwa [htarget, hvalue, hspeed] at hposted

/-- RequestOutcome, of O26. -/
theorem requestOutcome : Sys2Proof.Claim.RequestOutcome :=
    fun u d g s hrun hmotion hqueue htaken hopen hsound hkeep => by
  intro x y target origin speed cleared
  have hy : y = (examine g (s.requested g (automaticEntry x.mode target))).gate g := by
    show (evaluate u d s).gate g = _
    rw [(evaluate_alikeAt u d hrun g).gate, evaluateGate_of_request htaken hopen hsound hkeep,
      takeRequest_setBlocked hqueue htaken]
  have hwindow (hle : lowerLimit (s.record g) ≤ upperLimit (s.record g)) : s.inWindow g target = true :=
    autoTarget_inWindow hle u d
  have hentry : automaticEntry x.mode target = ⟨origin, .absolute, target, some speed⟩ := automaticEntry_eq ..
  generalize automaticEntry x.mode target = e at hy hentry
  have hform : e.form = .absolute := by rw [hentry]
  have hvalue : e.value = target := by rw [hentry]
  have horigin : e.origin = origin := by rw [hentry]
  have hspeed : e.speed = some speed := by rw [hentry]
  refine ⟨fun hheld => ?_, fun hfree hle => ⟨fun hnear => ?_, fun hfar => ⟨?_, fun h hg => ?_⟩⟩⟩
  · have hheld' : (s.requested g e).HeldFromIssue g := (held_onGate rfl).mpr hheld
    rw [hy, examine_of_held (mayIssue_of_held hheld'), requested_gate, hentry]
    rfl
  · have hgate := examine_requested_near hform hfree (hvalue ▸ hwindow hle) (hvalue ▸ hnear)
    rw [hvalue, horigin] at hgate
    exact hy.trans hgate
  · have hgate := (examine_requested_far hform hfree (hvalue ▸ hwindow hle) (hvalue ▸ hfar)).2
    rw [hvalue, horigin, hspeed] at hgate
    exact hy.trans hgate
  · refine evaluate_posted hrun hg fun p halike => ?_
    have hp := evaluateGate_posted_request (u := u) (d := d) (s := p) hg (by rwa [halike.gate]) (by rwa [halike.takenUp])
      (by rwa [halike.scheduleOf]) (by rwa [halike.gate]) (by rwa [halike.scheduleOf, halike.autoTarget, halike.gate])
      (by rwa [halike.held]) (by rwa [halike.record]) (by rwa [halike.autoTarget, halike.withinTolerance])
    rwa [halike.autoTarget, halike.gate] at hp

end open_water

/-- Settles O26: each gate stands as its own evaluation leaves it, outcome by outcome. -/
theorem reverseHeadClosesGates : Obligations.ReverseHeadClosesGates :=
  ⟨closureOutcomes, closureNoticed, noClosureOutcome, requestOutcome⟩

end Sys2Proof.Machine
end

section
/-!
PROOFS. What a fault leaves, with or without the lockout it demands (R140, R160 to R164, R169, R170).
-/

namespace Sys2Proof.Machine

/-! ### A fault (R160) -/

theorem faultedGate_motion (s : State) (g : GateNo) (c : Cause) : (s.faultedGate g c).motion = .faultStopping := rfl

theorem faultedGate_mode (s : State) (g : GateNo) (c : Cause) : (s.faultedGate g c).mode = (s.gate g).mode := rfl

theorem faultedGate_not_inFlight (s : State) (g : GateNo) (c : Cause) : (s.faultedGate g c).inFlight = false := rfl

/-- The gate faulted and the others as they were; STOP posted to both hoists; the notice placed where there is room. -/
structure FaultTaken (s t : State) (g : GateNo) (c : Cause) (demanded : Bool) : Prop where
  gate : t.gate g = s.faultedGate g c
  others : ∀ j, j ≠ g → t.gate j = s.gate j
  sup : t.sup = s.sup
  surroundings : SameSurroundings s t
  posted : ∀ h, gateOf h = g → t.Posted h (stopSetpoint (s.hoist h))
  noticed : s.NoticeRoom → ∃ tag, t.Placed (.notice (t.faultNotice g demanded tag)) (t.faultNotice g demanded tag)
  hoists : ∀ j, gateOf j ≠ g → (t.hoist j).exceptPhase = (s.hoist j).exceptPhase

theorem postStops_noticeRoom (g : GateNo) {s : State} (hroom : s.NoticeRoom) : (postStops g s).NoticeRoom :=
  post_noticeRoom _ _ (post_noticeRoom _ _ hroom)

theorem faultNotice_eq {s t : State} {g : GateNo} {b : Bool} {r : SaveRecord} (hstore : t.store = s.store)
    (hsave : (t.gate g).save = r) (tag : Byte) :
    t.faultNotice g b tag = ⟨noticeDest s.store.control, kindNotice, tag, gateFaultPayload g r b⟩ := by
  simp only [State.faultNotice, hstore, hsave]
  rfl

theorem faultStop_taken {g : GateNo} (c : Cause) (b : Bool) {s : State} (hmode : (s.gate g).mode ≠ .off)
    (hsound : (s.gate g).faulty = false) : FaultTaken s (faultStop g (s.savedMove g c) b s) g c b := by
  have hgate : (faultStop g (s.savedMove g c) b s).gate g = s.faultedGate g c := by
    rw [faultStop_savedMove_eq, (notify_notices _ _).gate, postStops_gate, State.gate_onGate_self]
  have hsame := faultStop_surroundings g (s.savedMove g c) b s
  have hstopped := onGate_surroundings s g fun _ => s.faultedGate g c
  refine ⟨hgate, fun j hj => faultStop_gate_ne g j _ b s hj, faultStop_sup g _ b s, hsame, fun h hg => ?_, fun hroom => ?_,
    fun j hj => ?_⟩
  · rw [faultStop_savedMove_eq]
    have hposted := postStops_posted (s.onGate g fun _ => s.faultedGate g c) hg
    rw [hstopped.stopSetpoint] at hposted
    exact notify_posted _ hposted
  · have hroom' := postStops_noticeRoom g (s := s.onGate g fun _ => s.faultedGate g c) hroom
    have hstore : (postStops g (s.onGate g fun _ => s.faultedGate g c)).store = s.store :=
      (hstopped.trans (postStops_surroundings g _)).store
    have hplaced := notify_placed (gateFaultPayload g (s.savedMove g c) b) hroom'
    rw [nextNotice_eq, hstore, ← faultStop_savedMove_eq] at hplaced
    refine ⟨nextTag (postStops g (s.onGate g fun _ => s.faultedGate g c)).post.tagCounter, ?_⟩
    rw [faultNotice_eq (r := s.savedMove g c) hsame.store (by rw [hgate, savedMove_eq])]
    exact hplaced
  · exact ((faultStop_works (G := (· = g)) c b rfl hmode hsound).within.hoists j hj).exceptPhase

theorem reachCause_of_no_demand {g : GateNo} {s : State} (c : Cause) (hmode : (s.gate g).mode ≠ .off)
    (hsound : (s.gate g).faulty = false) (hdemand : s.demandsLockout g = false) :
    FaultTaken s (reachCause g c s) g c false := by
  rw [reachCause_of_sound c hmode hsound, if_neg (by simp [hdemand])]
  exact faultStop_taken c false hmode hsound

theorem demandsLockout_of_fresh {g : GateNo} {s : State} (hresumed : (s.gate g).save.resumed = false)
    (henabled : faultResponse s.store.control = true) : s.demandsLockout g = false := by
  simp [State.demandsLockout, Gate.resumedMove, hresumed, henabled]

theorem demandsLockout_iff {g : GateNo} {s : State} :
    s.demandsLockout g = true ↔ (s.gate g).resumedMove = true ∨ faultResponse s.store.control = false := by
  simp [State.demandsLockout]

/-- What a fault leaves, the traffic after it included. -/
theorem FaultTaken.aside {s t u : State} {g : GateNo} {c : Cause} {b : Bool} (h : FaultTaken s t g c b) (k : Aside t u)
    (hsame : SameSurroundings t u) : FaultTaken s u g c b where
  gate := (k.gate g).trans h.gate
  others := fun j hj => (k.gate j).trans (h.others j hj)
  sup := k.sup.trans h.sup
  surroundings := h.surroundings.trans hsame
  posted := fun j hj => k.posted (h.posted j hj)
  noticed := fun hroom => by
    obtain ⟨tag, hplaced⟩ := h.noticed hroom
    have heq : u.faultNotice g b tag = t.faultNotice g b tag := by
      simp only [State.faultNotice, k.gate, k.store]
    exact ⟨tag, heq ▸ k.placed.notice hplaced⟩
  hoists := fun j hj => (k.exceptPhase j).trans (h.hoists j hj)

theorem FaultTaken.settle {s t : State} {g : GateNo} {c : Cause} {b : Bool} (h : FaultTaken s t g c b) :
    FaultTaken s (settle t) g c b := h.aside (settle_aside t) (settle_traffic t).surroundings

/-! ### A lockout (R140, R170) -/

/-- The lockout of a gate in FAULT-STOPPING, the others in the state they had in `s` (R170). -/
theorem enterLockout_lockedOut {s t : State} {g : GateNo} (c : LockoutCause) (hsup : t.sup = s.sup)
    (hsame : SameSurroundings s t) (hmotion : (t.gate g).motion = .faultStopping) (hmode : (t.gate g).mode = (s.gate g).mode)
    (hothers : ∀ j, j ≠ g → t.gate j = s.gate j) :
    LockedOut s (enterLockout c g t) g c ∧ (enterLockout c g t).gate g = t.gate g ∧ SameSurroundings s (enterLockout c g t) := by
  unfold enterLockout
  dsimp only
  generalize hw : (t.onSup fun x =>
    { x with device := .lockout, lockoutCause := c, lockoutGate := some g, lockoutLine := true }) = w
  have hnotify := notify_notices (lockoutPayload c g) w
  have hwsame : SameSurroundings t w := by
    rw [← hw]
    exact onSup_surroundings _ _ rfl
  have hwgate (j : GateNo) : (notify (lockoutPayload c g) w).gate j = t.gate j := by
    rw [hnotify.gate, ← hw]
    rfl
  have hbefore : SameSurroundings s (notify (lockoutPayload c g) w) := (hsame.trans hwsame).trans hnotify.surroundings
  obtain ⟨hgates, hsup', hsame', hposted⟩ := handLockout_summary (notify (lockoutPayload c g) w)
  generalize notify (lockoutPayload c g) w = v at *
  have hflight : (v.gate g).inFlight = false := by simp [hwgate, Gate.inFlight, hmotion]
  have hself : (handLockout v).gate g = t.gate g := by rw [hgates, if_neg (by simp [hflight]), hwgate]
  refine ⟨⟨?_, by rw [hself, hmotion], fun j hj => ?_, fun h hdrive hservice => ?_⟩, hself, hbefore.trans hsame'⟩
  · rw [hsup', hnotify.sup, ← hw, State.onSup_sup, hsup]
  · have hj' : v.gate j = s.gate j := (hwgate j).trans (hothers j hj)
    rw [hgates, hj', stoppedGate_congr hbefore.store hj']
  · have hservice' : (v.gate (gateOf h)).mode ≠ .off := by
      rw [hwgate]
      by_cases e : gateOf h = g
      · rwa [e, hmode, ← e]
      · rwa [hothers _ e]
    have hp := hposted h (.inl ⟨by rwa [hbefore.driveOf], hservice'⟩)
    rwa [hbefore.stopSetpoint] at hp

/-- The words of the LOCKOUT notice (11.3). -/
theorem nextNotice_lockout (t : State) (c : LockoutCause) (g : GateNo) :
    t.nextNotice (noticeDest t.store.control) (lockoutPayload c g) = t.lockoutNotice g c (nextTag t.post.tagCounter) := by
  have hhead : noticeHead 6 g.val = BitVec.ofNat 16 (0x0600 + g.val) := by
    simp only [noticeHead, pack, List.foldl_cons, List.foldl_nil]
    congr 1
    omega
  rw [nextNotice_eq]
  unfold lockoutPayload State.lockoutNotice
  rw [hhead]
  cases c <;> rfl

/-- The LOCKOUT notice of the entry, with room (R170). -/
theorem enterLockout_placed {g : GateNo} (c : LockoutCause) {t : State} (hroom : t.NoticeRoom) :
    let n := t.lockoutNotice g c (nextTag t.post.tagCounter)
    (enterLockout c g t).Placed (.notice n) n := by
  unfold enterLockout
  dsimp only
  refine (handLockout_works _).within.placed.notice ?_
  have hplaced := notify_placed (lockoutPayload c g) (s := t.onSup fun x =>
    { x with device := .lockout, lockoutCause := c, lockoutGate := some g, lockoutLine := true }) hroom
  rw [nextNotice_lockout] at hplaced
  exact hplaced

theorem enterLockout_keepsPlaced (c : LockoutCause) (g : GateNo) (t : State) : KeepsPlaced t (enterLockout c g t) :=
  KeepsPlaced.trans (t := t.onSup _) (.of_report rfl fun _ h _ => h) (enterLockout_works c g t).within.placed

theorem LockedOut.aside {s t u : State} {g : GateNo} {c : LockoutCause} (h : LockedOut s t g c) (k : Aside t u) :
    LockedOut s u g c where
  sup := k.sup.trans h.sup
  faulted := by rw [k.gate, h.faulted]
  others := fun j hj => (k.gate j).trans (h.others j hj)
  stops := fun j hdrive hservice => k.posted (h.stops j hdrive hservice)

/-! ### The two notices, one behind the other -/

/-- With RING-OUT busy the report FIFO is left as it was. -/
def ReportKept (s t : State) : Prop := s.ring.out ≠ .idle → t.ring.out = s.ring.out ∧ t.req = s.req

theorem ReportKept.refl (s : State) : ReportKept s s := fun _ => ⟨rfl, rfl⟩

theorem ReportKept.trans {s t u : State} (h : ReportKept s t) (k : ReportKept t u) : ReportKept s u := fun hbusy => by
  obtain ⟨hout, hreq⟩ := h hbusy
  obtain ⟨hout', hreq'⟩ := k (by rwa [hout])
  exact ⟨hout'.trans hout, hreq'.trans hreq⟩

theorem ReportKept.after {s t u : State} (k : ReportKept t u) (hring : t.ring = s.ring) (hreq : t.req = s.req) :
    ReportKept s u := ReportKept.trans (fun _ => ⟨by rw [hring], hreq⟩) k

theorem arbitrate_reportKept (s : State) : ReportKept s (arbitrate s) := fun hbusy => by
  rw [arbitrate_of_sending s hbusy]
  exact ⟨rfl, rfl⟩

theorem post_reportKept (h : HoistNo) (sp : Setpoint) (s : State) : ReportKept s (post h sp s) := by
  unfold post
  split
  · by_cases hw : (s.hoist h).phase = some .waiting
    · rw [placePost_of_waiting sp hw]
      exact (arbitrate_reportKept _).after rfl rfl
    · rw [placePost_of_not_waiting sp hw]
      exact (arbitrate_reportKept _).after rfl rfl
  · exact .refl s

theorem postStops_reportKept (g : GateNo) (s : State) : ReportKept s (postStops g s) :=
  (post_reportKept _ _ s).trans (post_reportKept _ _ _)

theorem foldl_reportKept {α : Type} {f : State → α → State} (hf : ∀ s a, ReportKept s (f s a)) (xs : List α) (s : State) :
    ReportKept s (xs.foldl f s) := by
  induction xs generalizing s with
  | nil => exact .refl s
  | cons a xs ih => exact (hf s a).trans (ih _)

theorem takeLockout_reportKept (s : State) (k : EntryTaker) : ReportKept s (takeLockout k s) := by
  cases k with
  | sequencer g =>
    unfold takeLockout stopIfMoving
    dsimp only
    split
    · rw [enterStopping_eq]
      exact (postStops_reportKept g _).after rfl rfl
    · exact .refl s
  | hoistInterface =>
    refine foldl_reportKept (fun t h => ?_) _ s
    split
    · exact post_reportKept _ _ t
    · exact .refl t

theorem handLockout_reportKept (s : State) : ReportKept s (handLockout s) := by
  unfold handLockout
  dsimp only
  refine ReportKept.trans ?_ (foldl_reportKept takeLockout_reportKept _ _)
  rw [drawOrder_eq]
  exact fun _ => ⟨rfl, rfl⟩

/-- With RING-OUT busy a notice with room joins the tail. -/
theorem notify_report {s : State} (p : List Word) (hroom : s.NoticeRoom) (hbusy : s.ring.out ≠ .idle) :
    (notify p s).ring.out = s.ring.out ∧
      (notify p s).req.report = s.req.report ++ [.notice (s.nextNotice (noticeDest s.store.control) p)] := by
  unfold notify
  rw [offerNotice_of_room _ _ hroom, arbitrate_of_sending _ (by exact hbusy)]
  exact ⟨rfl, rfl⟩

theorem postStops_twoNoticesRoom (g : GateNo) {s : State} (hroom : s.TwoNoticesRoom) : (postStops g s).TwoNoticesRoom := by
  have hpost (h : HoistNo) (sp : Setpoint) {t : State} (ht : t.TwoNoticesRoom) : (post h sp t).TwoNoticesRoom := by
    have harb (u : State) (hu : u.TwoNoticesRoom) : (arbitrate u).TwoNoticesRoom := by
      obtain ⟨hdest, hcount, hlength⟩ := hu
      obtain ⟨hle, hle'⟩ := arbitrate_room u
      exact ⟨by rwa [(arbitrate_flow u).traffic.store], by omega, by omega⟩
    unfold post
    split
    · by_cases hw : (t.hoist h).phase = some .waiting
      · rw [placePost_of_waiting sp hw]
        exact harb _ ht
      · rw [placePost_of_not_waiting sp hw]
        exact harb _ ht
    · exact ht
  exact hpost _ _ (hpost _ _ hroom)

/-- The notices of a fault that locks out: GATE-FAULT and behind it LOCKOUT (R160, R170). -/
theorem lockout_notices {g : GateNo} (c : Cause) {s : State} (hroom : s.TwoNoticesRoom) :
    let u := faultStop g (s.savedMove g c) true s
    u.NoticeRoom ∧ (s.ring.out ≠ .idle → ∃ first,
      u.ring.out = s.ring.out ∧ u.req.report = s.req.report ++ [.notice (u.faultNotice g true first)]) := by
  intro u
  have hroom' := postStops_twoNoticesRoom g (s := s.onGate g fun _ => s.faultedGate g c) hroom
  have hu : u = notify (gateFaultPayload g (s.savedMove g c) true) (postStops g (s.onGate g fun _ => s.faultedGate g c)) :=
    faultStop_savedMove_eq g c true s
  have hstore : (postStops g (s.onGate g fun _ => s.faultedGate g c)).store = s.store :=
    ((onGate_surroundings s g _).trans (postStops_surroundings g _)).store
  have hsave : (u.gate g).save = s.savedMove g c := by
    rw [hu, (notify_notices _ _).gate, postStops_gate, State.gate_onGate_self, savedMove_eq]
  refine ⟨hu ▸ offerNotice_noticeRoom _ _ hroom', fun hbusy => ?_⟩
  obtain ⟨hout, hreq⟩ := postStops_reportKept g (s.onGate g fun _ => s.faultedGate g c) hbusy
  obtain ⟨hout', hreport⟩ := notify_report (gateFaultPayload g (s.savedMove g c) true) (TwoNoticesRoom.one hroom')
    (by rw [hout]; exact hbusy)
  rw [← hu] at hout' hreport
  refine ⟨nextTag (postStops g (s.onGate g fun _ => s.faultedGate g c)).post.tagCounter, hout'.trans hout, ?_⟩
  rw [hreport, hreq, faultNotice_eq (faultStop_surroundings g _ true s).store hsave, nextNotice_eq, hstore]
  rfl

/-- The entry into LOCKOUT with RING-OUT busy adds its notice to the report FIFO. -/
theorem enterLockout_report {g : GateNo} (c : LockoutCause) {t : State} (hroom : t.NoticeRoom) (hbusy : t.ring.out ≠ .idle) :
    (enterLockout c g t).req.report =
      t.req.report ++ [.notice (t.nextNotice (noticeDest t.store.control) (lockoutPayload c g))] := by
  unfold enterLockout
  dsimp only
  obtain ⟨hout, hreport⟩ := notify_report (lockoutPayload c g) (s := t.onSup fun x =>
    { x with device := .lockout, lockoutCause := c, lockoutGate := some g, lockoutLine := true }) hroom hbusy
  rw [(handLockout_reportKept _ (by rw [hout]; exact hbusy)).2, hreport]
  rfl

end Sys2Proof.Machine
end

section
/-!
PROOFS. The expiries of the timers of gates and hoists, and the lockouts that faults demand (R114, R116, R135 to R138,
R160 to R170).
-/

namespace Sys2Proof.Machine

/-! ### The lockout of a fault (R162, R169) -/

theorem reachCause_of_demand {g : GateNo} {s : State} (c : Cause) (hmode : (s.gate g).mode ≠ .off)
    (hsound : (s.gate g).faulty = false) (hrun : s.sup.device = .run) (hdemand : s.demandsLockout g = true) :
    reachCause g c s = enterLockout (if (s.gate g).resumedMove then .recoveryFault else .responseOff) g
      (faultStop g (s.savedMove g c) true s) := by
  rw [reachCause_of_sound c hmode hsound, if_pos hdemand]
  unfold demandLockout
  rw [if_pos (by rw [faultStop_sup, hrun])]

/-- What is left of a fault that locks the device out. -/
theorem reachCause_lockedOut {g : GateNo} {s : State} (c : Cause) (hmode : (s.gate g).mode ≠ .off)
    (hsound : (s.gate g).faulty = false) (hrun : s.sup.device = .run) (hdemand : s.demandsLockout g = true) :
    LockedOut s (reachCause g c s) g (if (s.gate g).resumedMove then .recoveryFault else .responseOff) ∧
      (reachCause g c s).gate g = s.faultedGate g c ∧ SameSurroundings s (reachCause g c s) := by
  have h := faultStop_taken c true hmode hsound
  obtain ⟨hlocked, hgate, hsame⟩ := enterLockout_lockedOut (if (s.gate g).resumedMove then .recoveryFault else .responseOff)
    h.sup h.surroundings (by rw [h.gate]; rfl) (by rw [h.gate]; rfl) h.others
  rw [← reachCause_of_demand c hmode hsound hrun hdemand] at hlocked hgate hsame
  exact ⟨hlocked, hgate.trans h.gate, hsame⟩

/-- CauseLocksOut, of O34. -/
theorem causeLocksOut : Sys2Proof.Claim.CauseLocksOut := fun g c s hmode hsound hrun hdemand => by
  intro t
  have hdemand' := demandsLockout_iff.mpr hdemand
  obtain ⟨hlocked, hgate, hsame⟩ := reachCause_lockedOut c hmode hsound hrun hdemand'
  have ht : t = _ := reachCause_of_demand c hmode hsound hrun hdemand'
  have hfault := faultStop_taken c true hmode hsound
  have hnotice (tag : Byte) :
      t.faultNotice g true tag = (faultStop g (s.savedMove g c) true s).faultNotice g true tag := by
    have hstore : t.store = (faultStop g (s.savedMove g c) true s).store :=
      hsame.store.trans hfault.surroundings.store.symm
    have hsave : t.gate g = (faultStop g (s.savedMove g c) true s).gate g := hgate.trans hfault.gate.symm
    simp only [State.faultNotice, hstore, hsave]
  generalize (if (s.gate g).resumedMove then LockoutCause.recoveryFault else .responseOff) = k at *
  refine ⟨hlocked, hgate, hsame, fun hroom => ?_, fun hroom => ?_⟩
  · obtain ⟨tag, hplaced⟩ := hfault.noticed hroom
    refine ⟨tag, ?_⟩
    rw [hnotice, ht]
    exact (enterLockout_keepsPlaced k g _).notice hplaced
  · obtain ⟨hsecond, hbusy⟩ := lockout_notices c hroom
    have hlockout (tag : Byte) : (faultStop g (s.savedMove g c) true s).lockoutNotice g k tag = s.lockoutNotice g k tag := by
      simp only [State.lockoutNotice, hfault.surroundings.store]
    have hplaced := enterLockout_placed (g := g) k hsecond
    rw [hlockout, ← ht] at hplaced
    refine ⟨_, hplaced, fun hring => ?_⟩
    obtain ⟨first, hout, hreport⟩ := hbusy hring
    refine ⟨first, ?_⟩
    rw [hnotice, ht, enterLockout_report k hsecond (by rw [hout]; exact hring), hreport, nextNotice_lockout, hlockout,
      List.append_assoc]
    rfl

/-! ### The gates' timers -/

theorem moveTimerExpires_of_running {g : GateNo} {s : State} (htimer : (s.gate g).moveTimer.isSome = true)
    (hflight : (s.gate g).inFlight = true) (hmode : (s.gate g).mode ≠ .off) :
    moveTimerExpires g s = reachCause g .moveTimeout s := by
  have hnot : ¬(s.gate g).moveTimer.isNone = true := fun h => by
    rw [Option.isNone_iff_eq_none.mp h] at htimer
    nomatch htimer
  unfold moveTimerExpires
  dsimp only
  rw [if_neg hnot, if_pos hflight]
  exact reachCause_onGate_timers _ _ none _ rfl hmode (sound_of_inFlight hflight)

theorem stopTimerExpires_of_stopping {g : GateNo} {s : State} (htimer : (s.gate g).stopTimer.isSome = true)
    (hstopping : (s.gate g).motion = .stopping) (hmode : (s.gate g).mode ≠ .off) :
    stopTimerExpires g s = reachCause g .stopTimeout s := by
  have hnot : ¬(s.gate g).stopTimer.isNone = true := fun h => by
    rw [Option.isNone_iff_eq_none.mp h] at htimer
    nomatch htimer
  unfold stopTimerExpires
  dsimp only
  rw [if_neg hnot, hstopping]
  exact reachCause_onGate_timers _ _ _ none rfl hmode (by simp [Gate.faulty, hstopping])

/-- A fault stop that times out adds its cause and demands a lockout (R164). -/
theorem stopTimerExpires_of_faultStopping {g : GateNo} {s : State} (htimer : (s.gate g).stopTimer.isSome = true)
    (hstopping : (s.gate g).motion = .faultStopping) (hmode : (s.gate g).mode ≠ .off) :
    stopTimerExpires g s = demandLockout .stopFailed g (s.onGate g fun x =>
      { x with stopTimer := none, save := { x.save with causes := x.save.causes ||| 0x40#8 } }) := by
  have hnot : ¬(s.gate g).stopTimer.isNone = true := fun h => by
    rw [Option.isNone_iff_eq_none.mp h] at htimer
    nomatch htimer
  unfold stopTimerExpires
  dsimp only
  rw [if_neg hnot, hstopping, reachCause_of_faulty]
  · unfold addCause
    rw [State.onGate_onGate]
    rfl
  · rwa [State.gate_onGate_self]
  · rw [State.gate_onGate_self]
    simp [Gate.faulty, hstopping]

/-- Settles O33: the fault MOVE-TIMEOUT at the gate, and traffic. -/
theorem moveTimerFaultsGate : Obligations.MoveTimerFaultsGate := fun g s => by
  refine ⟨fun htimer hs => ?_, fun htimer hflight hmode hresumed henabled c hc => ?_⟩
  · show Host.Outcome.next (settle (moveTimerExpires g s)) = _
    have hidle : moveTimerExpires g s = s := if_pos (by rw [htimer]; rfl)
    rw [hidle]
    exact congrArg _ (settle_of_settled s hs)
  · have h := (reachCause_of_no_demand .moveTimeout hmode (sound_of_inFlight hflight)
      (demandsLockout_of_fresh hresumed henabled)).settle
    rw [← moveTimerExpires_of_running htimer hflight hmode] at h
    refine ⟨_, rfl, ?_, h.others, h.sup, h.surroundings, h.posted _ (gateOf_leftHoist g), h.posted _ (gateOf_rightHoist g),
      h.noticed, h.hoists⟩
    refine h.gate.trans ?_
    simp only [State.faultedGate, hc]
    rfl

/-- Settles O35: the fault STOP-TIMEOUT, or the lockout STOP-FAILED. -/
theorem stopTimerFaultsOrLocksOut : Obligations.StopTimerFaultsOrLocksOut := fun g s hmode => by
  refine ⟨fun htimer hs => ?_, fun htimer hstopping hresumed henabled => ?_, fun htimer hstopping => ?_⟩
  · show Host.Outcome.next (settle (stopTimerExpires g s)) = _
    have hidle : stopTimerExpires g s = s := if_pos (by rw [htimer]; rfl)
    rw [hidle]
    exact congrArg _ (settle_of_settled s hs)
  · have h := (reachCause_of_no_demand .stopTimeout hmode (by simp [Gate.faulty, hstopping])
      (demandsLockout_of_fresh hresumed henabled)).settle
    rw [← stopTimerExpires_of_stopping htimer hstopping hmode] at h
    refine ⟨_, rfl, ?_, ?_, ?_, ?_, ?_, fun c hc => ?_, h.others, h.sup, h.surroundings⟩
    all_goals rw [h.gate]
    · rfl
    · rfl
    · rfl
    · rfl
    · exact hstopping
    · simp [State.faultedGate, hc]
  · have hexpires := stopTimerExpires_of_faultStopping htimer hstopping hmode
    generalize hu : (s.onGate g fun x =>
      { x with stopTimer := none, save := { x.save with causes := x.save.causes ||| 0x40#8 } }) = u at hexpires
    have hself : u.gate g = { s.gate g with
        stopTimer := none, save := { (s.gate g).save with causes := (s.gate g).save.causes ||| 0x40#8 } } := by
      rw [← hu, State.gate_onGate_self]
    have hothers (j : GateNo) (hj : j ≠ g) : u.gate j = s.gate j := by rw [← hu, State.gate_onGate_ne _ _ _ _ hj]
    have hsame : SameSurroundings s u := hu ▸ onGate_surroundings s g _
    have hsup : u.sup = s.sup := by rw [← hu, State.onGate_sup]
    have hsettle := settle_aside (stopTimerExpires g s)
    have hsettled := (settle_traffic (stopTimerExpires g s)).surroundings
    refine ⟨_, rfl, ?_⟩
    by_cases hrun : s.sup.device = .run
    · have hdemand : stopTimerExpires g s = enterLockout .stopFailed g u :=
        hexpires.trans (if_pos (by rw [hsup, hrun]))
      obtain ⟨hlocked, hgate, hsame'⟩ := enterLockout_lockedOut .stopFailed hsup hsame (by rw [hself]; exact hstopping)
        (by rw [hself]) hothers
      rw [← hdemand] at hlocked hgate hsame'
      refine ⟨(hsettle.gate g).trans (hgate.trans hself), hsame'.trans hsettled, fun h => absurd hrun h, fun _ =>
        ⟨(hlocked.aside hsettle).sup, fun j => ?_, hlocked.aside hsettle, fun hroom => ?_⟩⟩
      · rw [hsettle.gate]
        by_cases e : j = g
        · rw [e, hgate, hself]
          simp [Gate.inFlight, hstopping]
        · exact not_inFlight_of_stopped (hlocked.others j e)
      · have hplaced := enterLockout_placed (g := g) .stopFailed (t := u) (hu ▸ hroom)
        rw [← hdemand, ← hu] at hplaced
        exact hsettle.placed.notice hplaced
    · have hdemand : stopTimerExpires g s = u := hexpires.trans (if_neg (by rwa [hsup]))
      rw [← hdemand] at hself hothers hsame hsup
      exact ⟨(hsettle.gate g).trans hself, hsame.trans hsettled,
        fun _ => ⟨hsettle.sup.trans hsup, fun j hj => (hsettle.gate j).trans (hothers j hj)⟩, fun h => absurd h hrun⟩

end Sys2Proof.Machine
end

section
/-!
PROOFS. The acknowledgement and refresh timers (R135 to R139).
-/

namespace Sys2Proof.Machine

/-! ### A slot emptied, or queued again -/

/-- What the emptying of the slot of hoist `h` leaves, with the retry flag set (R134, R136). -/
def State.abandoned (s : State) (h : HoistNo) : State :=
  emptySlot h (s.onHoist h (fun x => { x with retry := true, exhausted := x.exhausted || false }))

/-- The change of the hoist and the post queue before the rotation is settled. -/
theorem abandoned_flow (s : State) (h : HoistNo) :
    Flow ((s.onHoist h fun x => { x with slot := none, retry := true }).onPost
      (fun p => { p with queue := p.queue.filter (fun k => k ≠ h) })) (s.abandoned h) := by
  have heq : ((s.onHoist h fun x => { x with retry := true, exhausted := x.exhausted || false }).onHoist h fun x =>
      { x with slot := none }) = s.onHoist h fun x => { x with slot := none, retry := true } := by
    rw [State.onHoist_onHoist]
    simp only [Bool.or_false]
  unfold State.abandoned emptySlot
  rw [heq]
  exact settleRotation_flow _

theorem abandoned_hoist (s : State) (h : HoistNo) : (s.abandoned h).hoist h = { s.hoist h with slot := none, retry := true } := by
  rw [(abandoned_flow s h).outside h (by simp), State.onPost_hoist, State.hoist_onHoist_self]

theorem abandoned_not_queued (s : State) (h : HoistNo) : h ∉ (s.abandoned h).post.queue := fun hq => by
  have hmem := (abandoned_flow s h).queue h hq
  simp at hmem

theorem abandoned_gate (s : State) (h : HoistNo) (g : GateNo) : (s.abandoned h).gate g = s.gate g := (abandoned_flow s h).gate g

theorem abandoned_gates (s : State) (h : HoistNo) : (s.abandoned h).gates = s.gates := (abandoned_flow s h).traffic.gates

theorem abandoned_sup (s : State) (h : HoistNo) : (s.abandoned h).sup = s.sup := (abandoned_flow s h).sup

theorem abandoned_store (s : State) (h : HoistNo) : (s.abandoned h).store = s.store := (abandoned_flow s h).traffic.store

theorem abandoned_stopSetpoint (s : State) (h j : HoistNo) :
    stopSetpoint ((s.abandoned h).hoist j) = stopSetpoint (s.hoist j) := by
  refine stopSetpoint_congr ((Hoist.position_of_exceptPhase ((abandoned_flow s h).traffic.hoists j)).trans ?_)
  rw [State.onPost_hoist, State.hoist_onHoist]
  split
  next e => rw [e]
  next => rfl

theorem drained_congr {s t : State} (hgates : t.gates = s.gates) (hslots : ∀ h, (t.hoist h).slot.isNone = (s.hoist h).slot.isNone) :
    t.drained = s.drained := by
  have hgate (g : GateNo) : t.gate g = s.gate g := by simp [State.gate, hgates]
  unfold State.drained
  congr 2 <;> funext x
  · rw [hgate]
  · exact hslots x

theorem slot_isNone_of_granted {x y : Hoist} (h : x.GrantedFrom y) : y.slot.isNone = x.slot.isNone := by
  rcases h with rfl | ⟨sl, hsl, rfl⟩
  · rfl
  · rw [hsl]
    rfl

theorem Aside.drained {s t : State} (h : Aside s t) : t.drained = s.drained :=
  drained_congr h.gates fun k => slot_isNone_of_granted (h.hoists k)

/-- The test of the drain's conditions, when DRAIN (R174). -/
theorem testDrain_fulfilled {s : State} (hdrain : s.sup.device = .drain) :
    (testDrain s).sup.drainFulfilled = (s.sup.drainFulfilled || s.drained) := by
  unfold testDrain
  rw [hdrain]
  split
  next h => simp_all
  next h => simp_all

theorem testDrain_rest (s : State) : (testDrain s).hoists = s.hoists ∧ (testDrain s).gates = s.gates ∧
    (testDrain s).post = s.post ∧ (testDrain s).sup.device = s.sup.device := by
  unfold testDrain
  split <;> exact ⟨rfl, rfl, rfl, rfl⟩

/-- AckTimerRetries, of O31. -/
theorem ackTimerRetries : Sys2Proof.Claim.AckTimerRetries := fun h s sl hsl hsent htimer => by
  intro tries hagain
  have hexpires : ackExpires h s = rejoin h { sl with tries := tries }
      (s.onHoist h (fun x => { x with retry := true, exhausted := x.exhausted || decide (retryLimit s.store.control < tries) })) := by
    rw [ackExpires_of_sent hsl hsent htimer]
    dsimp only
    split
    next hle => rw [decide_eq_false (by omega)]
    next hlt =>
      rw [if_neg (by simpa using hagain.resolve_left hlt), decide_eq_true (by omega)]
  unfold rejoin at hexpires
  rw [State.onHoist_onHoist] at hexpires
  have hflow := (arbitrate_flow ((s.onHoist h fun x =>
    { x with slot := some { sl with tries := tries, phase := .waiting, ackTimer := none }, retry := true,
             exhausted := x.exhausted || decide (retryLimit s.store.control < tries) }).onPost
      fun p => { p with queue := p.queue ++ [h] })).trans (settle_flow _)
  refine ⟨settle (ackExpires h s), rfl, ?_, ?_⟩
  · rw [hexpires]
    exact OnlyTraffic.trans (by constructor <;> intros <;> rfl) hflow.traffic
  · rw [hexpires]
    exact hflow.posting h { sl with tries := tries, phase := .waiting, ackTimer := none }
      (List.mem_append_right _ (List.mem_singleton_self h)) (by rw [State.onPost_hoist, State.hoist_onHoist_self])

theorem ackExpires_of_abandon {h : HoistNo} {s : State} {sl : Slot} (hsl : (s.hoist h).slot = some sl)
    (hsent : sl.phase = .sent) (htimer : sl.ackTimer.isSome = true)
    (hpast : retryLimit s.store.control < min 255 (sl.tries + 1)) (habandon : abandonAction s.store.control = true) :
    ackExpires h s = if s.sup.device = .drain then testDrain (s.abandoned h)
      else reachCause (gateOf h) .driveSilent (s.abandoned h) := by
  rw [ackExpires_of_sent hsl hsent htimer]
  dsimp only
  rw [if_neg (by omega), if_pos habandon]
  rfl

/-- AckTimerAbandons, of O31. -/
theorem ackTimerAbandons : Sys2Proof.Claim.AckTimerAbandons := fun h s => by
  refine ⟨fun sl hsl hsent htimer hpast habandon => ⟨fun hdrain => ?_, fun hdrain hmode hsound hresumed henabled => ?_⟩,
    fun hnot hs => ?_⟩
  · have hexpires := ackExpires_of_abandon hsl hsent htimer hpast habandon
    rw [if_pos hdrain] at hexpires
    obtain ⟨hhoists, hgates, hpost, hdevice⟩ := testDrain_rest (s.abandoned h)
    have hfulfilled := testDrain_fulfilled (s := s.abandoned h) (by rw [abandoned_sup, hdrain])
    have hflow := settle_flow (testDrain (s.abandoned h))
    refine ⟨settle (ackExpires h s), rfl, ?_⟩
    rw [hexpires]
    refine ⟨?_, ?_, ?_, ?_⟩
    · rw [hflow.outside h (by rw [hpost]; exact abandoned_not_queued s h), State.hoist, hhoists]
      exact abandoned_hoist s h
    · rw [hflow.traffic.gates, hgates, abandoned_gates]
    · rw [hflow.sup, hdevice, abandoned_sup, hdrain]
    · rw [hflow.sup, hfulfilled, abandoned_sup, hflow.aside.drained]
      congr 1
      exact (drained_congr hgates fun k => by rw [State.hoist, hhoists]; rfl).symm
  · have hexpires := ackExpires_of_abandon hsl hsent htimer hpast habandon
    rw [if_neg hdrain] at hexpires
    have hfault := (reachCause_of_no_demand (s := s.abandoned h) .driveSilent (by rwa [abandoned_gate]) (by rwa [abandoned_gate])
      (demandsLockout_of_fresh (by rwa [abandoned_gate]) (by rwa [abandoned_store]))).settle
    rw [← hexpires] at hfault
    refine ⟨settle (ackExpires h s), rfl, hfault.sup.trans (abandoned_sup s h), ?_, ?_, ?_, fun j hj => ?_, fun j hj => ?_⟩
    · rw [hfault.gate]
      rfl
    · rw [hfault.gate]
      rfl
    · rw [hfault.gate, ← abandoned_gate s h]
      rfl
    · rw [hfault.others j hj, abandoned_gate]
    · rw [← abandoned_stopSetpoint s h]
      exact hfault.posted j hj
  · show Host.Outcome.next (settle (ackExpires h s)) = _
    rw [ackExpires_of_not_sent hnot]
    exact congrArg _ (settle_of_settled s hs)

/-- Settles O31: the frame queued again, or the slot emptied and what follows from that. -/
theorem ackTimerExpiryActs : Obligations.AckTimerExpiryActs := ⟨ackTimerRetries, ackTimerAbandons⟩

/-! ### The refresh timer (R138, R139) -/

/-- A post placed changes the slot and the last-posted setpoint of its hoist, takes a tag, and lets traffic go on (R131). -/
theorem placePost_flow (h : HoistNo) (sp : Setpoint) (s : State) :
    ∃ q, Flow (occupySlot h sp (nextTag s.post.tagCounter)
      (s.onPost fun _ => { tagCounter := nextTag s.post.tagCounter, queue := q })) (placePost h sp s) := by
  by_cases hw : (s.hoist h).phase = some .waiting
  · rw [placePost_of_waiting sp hw]
    exact ⟨s.post.queue, arbitrate_flow _⟩
  · rw [placePost_of_not_waiting sp hw]
    exact ⟨s.post.queue ++ [h], arbitrate_flow _⟩

theorem placePost_tagCounter (h : HoistNo) (sp : Setpoint) (s : State) :
    (placePost h sp s).post.tagCounter = nextTag s.post.tagCounter := by
  obtain ⟨q, hflow⟩ := placePost_flow h sp s
  rw [hflow.traffic.tagCounter]
  rfl

theorem placePost_hoist_ne {h j : HoistNo} (hj : j ≠ h) (sp : Setpoint) (s : State) :
    ((placePost h sp s).hoist j).exceptPhase = (s.hoist j).exceptPhase := by
  obtain ⟨q, hflow⟩ := placePost_flow h sp s
  rw [hflow.traffic.hoists]
  unfold occupySlot
  rw [State.hoist_onHoist_ne _ _ _ _ hj]
  rfl

theorem placePost_refreshTimer (h : HoistNo) (sp : Setpoint) (s : State) :
    ((placePost h sp s).hoist h).refreshTimer = (s.hoist h).refreshTimer := by
  obtain ⟨q, hflow⟩ := placePost_flow h sp s
  rw [Hoist.refreshTimer_of_exceptPhase (hflow.traffic.hoists h)]
  unfold occupySlot
  rw [State.hoist_onHoist_self]
  rfl

/-- The hoist with its refresh timer restarted, in the words of the row (R138). -/
def State.refreshed (s : State) (h : HoistNo) : State :=
  s.onHoist h (fun x => { x with refreshTimer :=
    (if s.store.control[11] = 0#16 then none else some (s.store.control[11]).toNat) })

theorem restartRefresh_eq (h : HoistNo) (s : State) : restartRefresh h s = s.refreshed h := by
  have hzero : (refreshInterval s.store.control = 0) = (s.store.control[11] = 0#16) := by
    rw [refreshInterval, BitVec.toNat_eq, BitVec.toNat_ofNat]
  unfold restartRefresh State.refreshed
  simp only [hzero]
  rfl

theorem mayRefresh_iff {s : State} {h : HoistNo} {sp : Setpoint} :
    s.mayRefresh h sp = true ↔ (s.gate (gateOf h)).mode ≠ .off ∧ (s.hoist h).slot = none ∧
      (sp.command = .move → s.sup.device = .run ∧ s.sup.holdLine = false) := by
  unfold State.mayRefresh
  cases sp.command <;> simp [and_assoc]

/-- Settles O32: the timer restarted, and the last setpoint posted when it may be. -/
theorem refreshRepostsLastSetpoint : Obligations.RefreshRepostsLastSetpoint := fun h s => by
  intro restarted
  have hrestart : restartRefresh h s = restarted := restartRefresh_eq h s
  refine ⟨fun htimer hs => ?_, fun htimer => ?_⟩
  · show Host.Outcome.next (settle (refreshExpires h s)) = _
    have hidle : refreshExpires h s = s := if_pos (by rw [htimer]; rfl)
    rw [hidle]
    exact congrArg _ (settle_of_settled s hs)
  · intro reposts
    have hnot : ¬(s.hoist h).refreshTimer.isNone = true := fun hn => by
      rw [Option.isNone_iff_eq_none.mp hn] at htimer
      nomatch htimer
    refine ⟨fun sp hsp hrepost => ?_, fun hnone hs => ?_⟩
    · have hexpires : refreshExpires h s = placePost h sp restarted := by
        unfold refreshExpires
        dsimp only
        rw [if_neg hnot, hsp]
        dsimp only
        rw [if_pos (mayRefresh_iff.mpr hrepost), hrestart]
        obtain ⟨hmode, _, hmove⟩ := hrepost
        have hmay : restarted.mayPost h sp.command = true := by
          cases hc : sp.command with
          | stop => exact mayPost_stop _ _
          | move => exact (mayPost_move_iff _ _).mpr ⟨(hmove hc).1, hmode⟩
        exact if_pos hmay
      have hflow := settle_flow (placePost h sp restarted)
      refine ⟨settle (refreshExpires h s), rfl, ?_⟩
      rw [hexpires]
      have hsame := placePost_surroundings h sp restarted
      refine ⟨hflow.posted (placePost_posted h sp restarted), ?_, ?_, ?_, ?_, ?_, ?_, fun j hj => ?_⟩
      · rw [Hoist.refreshTimer_of_exceptPhase (hflow.traffic.hoists h), placePost_refreshTimer]
      · rw [hflow.traffic.tagCounter, placePost_tagCounter]
        rfl
      · refine hflow.traffic.gates.trans (gates_eq_of_gate _ _ fun g => ?_)
        rw [placePost_gate]
        rfl
      · rw [hflow.sup, placePost_sup]
        rfl
      · rw [hflow.traffic.store, hsame.store]
        rfl
      · rw [hflow.traffic.levels, hsame.levels]
        rfl
      · rw [hflow.traffic.hoists, placePost_hoist_ne hj]
        exact congrArg _ (State.hoist_onHoist_ne _ _ _ _ hj)
    · have hexpires : refreshExpires h s = restarted := by
        unfold refreshExpires
        dsimp only
        rw [if_neg hnot, hrestart]
        split
        next sp hsp =>
          have hno : ¬s.mayRefresh h sp = true := fun hm => hnone sp hsp (mayRefresh_iff.mp hm)
          exact if_neg hno
        next => rfl
      show Host.Outcome.next (settle (refreshExpires h s)) = _
      rw [hexpires]
      exact congrArg _ (settle_of_settled restarted (settled_onHoist (fun _ => rfl) (fun _ => rfl) hs))

end Sys2Proof.Machine
end

section
/-!
PROOFS. How a request is carried out, whatever its name: refused, discarded or done (R180).
-/

namespace Sys2Proof.Machine

/-- What a DONE of each request carries out. -/
def RequestName.effect : RequestName → Frame → State → State
  | .setMode => effectSetMode | .moveTo => effectMoveOrder .absolute | .moveBy => effectMoveOrder .relative
  | .stop => effectStop | .cancel => effectCancel
  | .writeRows => effectWriteRows | .readRows => fun _ s => s | .setLength => effectSetLength
  | .activate => effectActivate | .readState => fun _ s => s | .clearFlags => effectClearFlags
  | .clearGate => effectClearGate | .resumeGate => effectResumeGate | .forceIndex => effectForceIndex
  | .releaseIndex => effectReleaseIndex | .softReset => effectSoftReset

theorem exec_command (r : RequestName) (s : State) : exec r.command s = .next (serve r r.answer r.effect s) := by
  cases r <;> rfl

/-! ### Answers -/

/-- A request's own answer is a bare result unless it is DONE. -/
theorem decideRequest_refused {s : State} {m p l d : Bool} {own : Answer} (hown : own.result ≠ .done → own = refuse own.result)
    (h : (decideRequest s m p l d own).result ≠ .done) :
    decideRequest s m p l d own = refuse (decideRequest s m p l d own).result := by
  unfold decideRequest at h ⊢
  cases m
  case true => rfl
  cases p
  case false => rfl
  cases hdevice : s.sup.device <;> cases l <;> cases d <;> simp only [hdevice] at h ⊢ <;>
    first | exact hown h | rfl

theorem refuse_refused (r : Result) : (refuse r).result ≠ .done → refuse r = refuse (refuse r).result := fun _ => rfl

theorem readRowsAnswer_refused (o : ReadRows) (s : State) (h : (readRowsAnswer o s).result ≠ .done) :
    readRowsAnswer o s = refuse .range := by
  unfold readRowsAnswer at h ⊢
  split
  next => rfl
  next hfits => rw [if_neg hfits] at h; exact absurd rfl h

theorem sectionAnswer_refused (k : StateSection) (s : State) (h : (sectionAnswer k s).result ≠ .done) :
    sectionAnswer k s = refuse .range := by
  cases k
  case pass start =>
    unfold sectionAnswer passAnswer at h ⊢
    dsimp only at h ⊢
    split
    next => rfl
    next hfits => rw [if_neg hfits] at h; exact absurd rfl h
  all_goals exact absurd rfl h

/-! ### What the words of a frame name -/

theorem gateOfNat_isNone (n : Nat) : (gateOfNat n).isNone = true ↔ 8 ≤ n := by
  unfold gateOfNat; split <;> simp <;> omega

theorem gateOfNat_none (n : Nat) : gateOfNat n = none ↔ 8 ≤ n := by
  rw [← gateOfNat_isNone, Option.isNone_iff_eq_none]

theorem modeOfCode_none (n : Nat) : modeOfCode n = none ↔ 5 ≤ n := by
  rcases n with _ | _ | _ | _ | _ | n <;> simp [modeOfCode]

theorem thresholdClassOfNat_none (n : Nat) : thresholdClassOfNat n = none ↔ 4 ≤ n := by
  rcases n with _ | _ | _ | _ | n <;> simp [thresholdClassOfNat]

theorem readSetMode_none (f : Frame) : readSetMode f = none ↔ RequestName.Malformed .setMode f := by
  unfold readSetMode RequestName.Malformed
  split
  next hlen =>
    rw [← modeOfCode_none, ← gateOfNat_none]
    cases gateOfNat (orderGate f) <;> cases modeOfCode (f.word 1).toNat <;>
      simp [Nat.not_lt.mpr hlen]
  next hlen => simp; omega

theorem readMove_none (form : Form) (f : Frame) : readMove form f = none ↔ f.payload.length < 2 ∨ 8 ≤ orderGate f := by
  unfold readMove
  rw [← gateOfNat_none]
  split
  next hlen => cases gateOfNat (orderGate f) <;> simp [Nat.not_lt.mpr hlen]
  next hlen => simp; omega

theorem readStop_isNone (f : Frame) : (readStop f).isNone = true ↔ RequestName.Malformed .stop f := by
  unfold readStop RequestName.Malformed
  rw [← gateOfNat_none]
  split
  next h => simp [h]
  next h => simp [h]

theorem readWriteRows_none (f : Frame) : readWriteRows f = none ↔ RequestName.Malformed .writeRows f := by
  unfold readWriteRows RequestName.Malformed
  split
  next hlen => simp; omega
  next hlen => simp; omega

theorem readReadRows_none (f : Frame) : readReadRows f = none ↔ RequestName.Malformed .readRows f := by
  unfold readReadRows RequestName.Malformed
  dsimp only
  split
  next hcount =>
    obtain ⟨hlen, hlow, hhigh⟩ := hcount
    simp [Nat.not_lt.mpr hlen, Nat.not_lt.mpr hhigh, Nat.pos_iff_ne_zero.mp hlow]
  next hcount => simp; omega

theorem imageOf_tableOfId (n : Nat) (t : Table) (h : tableOfId n = some t) :
    imageOf t = none ↔ ¬(n = 4 ∨ (16 ≤ n ∧ n < 24)) := by
  unfold tableOfId at h
  split_ifs at h
  all_goals cases h; simp [imageOf]; omega

theorem namedImage_none (f : Frame) : namedImage f = none ↔ RequestName.Malformed .activate f := by
  unfold namedImage RequestName.Malformed
  dsimp only
  split
  next t ht => simpa using imageOf_tableOfId _ t ht
  next ht =>
    unfold tableOfId at ht
    split_ifs at ht
    simp; omega

theorem readSetLength_none (f : Frame) : readSetLength f = none ↔ RequestName.Malformed .setLength f := by
  have himage := namedImage_none f
  unfold RequestName.Malformed at himage ⊢
  unfold readSetLength
  dsimp only at himage ⊢
  rw [← himage]
  split
  next hlen => simp; omega
  next hlen => simp; omega

theorem readReadState_none (f : Frame) : readReadState f = none ↔ RequestName.Malformed .readState f := by
  unfold readReadState RequestName.Malformed
  dsimp only
  generalize field (f.word 0) 8 4 = n
  rcases n with _ | _ | _ | _ | _ | _ | n <;> simp [gateOfNat_none, thresholdClassOfNat_none]

theorem readClearFlags_isNone (f : Frame) : (readClearFlags f).isNone = true ↔ RequestName.Malformed .clearFlags f := by
  unfold readClearFlags RequestName.Malformed
  dsimp only
  split_ifs <;> simp [gateOfNat_none, thresholdClassOfNat_none] <;> omega

theorem namedGate_none (f : Frame) : namedGate f = none ↔ 8 ≤ field (f.word 0) 0 8 := gateOfNat_none _

/-! ### How every answer is decided -/

theorem mayOrder_iff (s : State) (a : Byte) : s.mayOrder a = true ↔ s.classOf a = .operator ∨ s.classOf a = .engineer := by
  simp [State.mayOrder]

theorem isEngineer_iff (s : State) (a : Byte) : s.isEngineer a = true ↔ s.classOf a = .engineer := by
  simp [State.isEngineer]

/-- A bare result that no earlier step of R180 gives. -/
structure Result.Own (r : Result) : Prop where
  malformed : r ≠ .malformed
  access : r ≠ .access
  locked : r ≠ .locked

/-- The answer of the request `r` follows the steps of R180: `m` MALFORMED, `p` the right, `l` and `d` whether the request
is taken in LOCKOUT and DRAIN, `own` its own answer. -/
structure RequestName.Decided (r : RequestName) (f : Frame) (s : State) (m p l d : Bool) (own : Answer) : Prop where
  eq : r.answer f s = decideRequest s m p l d own
  malformed : m = true ↔ r.Malformed f
  permitted : m = false → (p = true ↔ r.Permitted f s)
  inLockout : l = true ↔ r.TakenInLockout
  inDrain : d = true ↔ r.TakenInDrain
  heard : m = false → own.result.Own
  refused : own.result ≠ .done → own = refuse own.result

theorem result_own_iff (r : Result) : r.Own ↔ r ≠ .malformed ∧ r ≠ .access ∧ r ≠ .locked :=
  ⟨fun ⟨a, b, c⟩ => ⟨a, b, c⟩, fun ⟨a, b, c⟩ => ⟨a, b, c⟩⟩

theorem setModeResult_own (g : GateNo) (m : Mode) (s : State) : (setModeResult g m s).Own := by
  unfold setModeResult; dsimp only
  repeat' split
  all_goals exact ⟨nofun, nofun, nofun⟩

theorem moveResult_own (o : MoveOrder) (s : State) : (moveResult o s).Own := by
  unfold moveResult preemptResult; dsimp only
  repeat' split
  all_goals exact ⟨nofun, nofun, nofun⟩

theorem writeCheck_own (o : WriteRows) (s : State) : (writeCheck o s).Own := by
  unfold writeCheck; dsimp only
  repeat' split
  all_goals exact ⟨nofun, nofun, nofun⟩

theorem readRowsAnswer_own (o : ReadRows) (s : State) : (readRowsAnswer o s).result.Own := by
  unfold readRowsAnswer
  split
  all_goals exact ⟨nofun, nofun, nofun⟩

theorem sectionAnswer_own (k : StateSection) (s : State) : (sectionAnswer k s).result.Own := by
  unfold sectionAnswer passAnswer
  repeat' split
  all_goals exact ⟨nofun, nofun, nofun⟩

theorem lengthCheck_own (i : ImageName) (n : Nat) : (lengthCheck i n).Own := by
  unfold lengthCheck
  repeat' split
  all_goals exact ⟨nofun, nofun, nofun⟩

theorem activateCheck_own (i : ImageName) (s : State) : (activateCheck i s).Own := by
  unfold activateCheck
  repeat' split
  all_goals exact ⟨nofun, nofun, nofun⟩

theorem clearGateResult_own (x : Gate) : (clearGateResult x).Own := by
  unfold clearGateResult
  split
  all_goals exact ⟨nofun, nofun, nofun⟩

theorem resumeResult_own (g : GateNo) (s : State) : (resumeResult g s).Own := by
  unfold resumeResult; dsimp only
  repeat' split
  all_goals exact ⟨nofun, nofun, nofun⟩

theorem readWriteRows_address {f : Frame} {o : WriteRows} (h : readWriteRows f = some o) :
    tableOfAddress (field (f.word 0) 0 12) = some (o.table, o.start) ∧ o.values = f.payload.tail := by
  unfold readWriteRows at h
  split at h
  · obtain ⟨p, hp, rfl⟩ := Option.map_eq_some_iff.mp h
    exact ⟨hp, rfl⟩
  · cases h

theorem readReadRows_address {f : Frame} {o : ReadRows} (h : readReadRows f = some o) :
    tableOfAddress (field (f.word 0) 0 12) = some (o.table, o.start) ∧ o.count = field (f.word 1) 0 4 ∧
      o.pending = (f.word 1).getLsbD 15 := by
  unfold readReadRows at h
  dsimp only at h
  split at h
  · obtain ⟨p, hp, rfl⟩ := Option.map_eq_some_iff.mp h
    exact ⟨hp, rfl, rfl⟩
  · cases h

theorem namedImage_table {f : Frame} {t : Table} {i : ImageName} (h : namedImage f = some (t, i)) :
    tableOfId (field (f.word 0) 0 5) = some t ∧ imageOf t = some i := by
  unfold namedImage at h
  split at h
  next u hu =>
    obtain ⟨j, hj, heq⟩ := Option.map_eq_some_iff.mp h
    obtain ⟨rfl, rfl⟩ := Prod.mk.inj heq
    exact ⟨hu, hj⟩
  next => cases h

theorem readSetLength_named {f : Frame} {t : Table} {i : ImageName} {n : Nat} (h : readSetLength f = some (t, i, n)) :
    namedImage f = some (t, i) ∧ n = (f.word 1).toNat := by
  unfold readSetLength at h
  split at h
  · obtain ⟨⟨u, j⟩, hj, heq⟩ := Option.map_eq_some_iff.mp h
    cases heq
    exact ⟨hj, rfl⟩
  · cases h

theorem Result.own_done : Result.done.Own := ⟨nofun, nofun, nofun⟩

section reader

variable {α : Type} {r : RequestName} {f : Frame} {s : State}

/-- A request whose operands are read by `reader`, or it is MALFORMED. -/
theorem decided_of_reader (reader : Option α) {p : α → Bool} {own : α → Answer} {p0 l d : Bool} {own0 : Result}
    (heq : r.answer f s = reader.elim (decideRequest s true p0 l d (refuse own0))
      (fun o => decideRequest s false (p o) l d (own o)))
    (hnone : reader = none ↔ r.Malformed f) (hpermitted : ∀ o, reader = some o → (p o = true ↔ r.Permitted f s))
    (hl : l = true ↔ r.TakenInLockout) (hd : d = true ↔ r.TakenInDrain) (hown : ∀ o, (own o).result.Own)
    (hrefused : ∀ o, (own o).result ≠ .done → own o = refuse (own o).result) :
    ∃ m p l d own, r.Decided f s m p l d own := by
  cases hreader : reader with
  | none =>
    rw [hreader] at heq
    exact ⟨_, _, _, _, _, heq, ⟨fun _ => hnone.mp hreader, fun _ => rfl⟩, nofun, hl, hd, nofun, refuse_refused own0⟩
  | some o =>
    have hm : ¬r.Malformed f := fun h => by rw [hnone.mpr h] at hreader; cases hreader
    rw [hreader] at heq
    exact ⟨_, _, _, _, _, heq, ⟨nofun, fun h => absurd h hm⟩, fun _ => hpermitted o hreader, hl, hd, fun _ => hown o,
      hrefused o⟩

/-- The same where the right is the source's alone and the own answer a bare result. -/
theorem decided_of_ordered (reader : Option α) {own : α → Result} {p0 l : Bool} {own0 : Result}
    (heq : r.answer f s = reader.elim (decideRequest s true p0 l false (refuse own0))
      (fun o => decideRequest s false (s.mayOrder f.src) l false (refuse (own o))))
    (hnone : reader = none ↔ r.Malformed f)
    (hpermitted : r.Permitted f s = (s.classOf f.src = .operator ∨ s.classOf f.src = .engineer))
    (hl : l = true ↔ r.TakenInLockout) (hd : ¬r.TakenInDrain) (hown : ∀ o, (own o).Own) :
    ∃ m p l d own, r.Decided f s m p l d own :=
  decided_of_reader reader heq hnone (fun _ _ => by rw [hpermitted]; exact mayOrder_iff s f.src) hl
    ⟨nofun, fun h => absurd h hd⟩ hown (fun _ => refuse_refused _)

end reader

/-- Every answer follows the steps of R180. -/
theorem answer_decided (r : RequestName) (f : Frame) (s : State) : ∃ m p l d own, r.Decided f s m p l d own := by
  have never : ∀ {q : Prop}, ¬q → (false = true ↔ q) := fun h => ⟨nofun, fun hq => absurd hq h⟩
  have always : ∀ {q : Prop}, q → (true = true ↔ q) := fun h => ⟨fun _ => h, fun _ => rfl⟩
  cases r
  case setMode =>
    refine decided_of_ordered (readSetMode f) (p0 := s.mayOrder f.src) (own := fun o => setModeResult o.1 o.2 s)
      (own0 := .done) ?_ (readSetMode_none f) rfl (never nofun) nofun (fun _ => setModeResult_own _ _ _)
    change answerSetMode f s = _
    unfold answerSetMode
    rcases readSetMode f with _ | ⟨g, m⟩ <;> rfl
  case moveTo =>
    refine decided_of_ordered (readMove .absolute f) (p0 := s.mayOrder f.src) (own := fun o => moveResult o s)
      (own0 := .done) ?_ (readMove_none _ f) rfl (never nofun) nofun (fun _ => moveResult_own _ _)
    change answerMove _ f s = _
    unfold answerMove
    cases readMove .absolute f <;> rfl
  case moveBy =>
    refine decided_of_ordered (readMove .relative f) (p0 := s.mayOrder f.src) (own := fun o => moveResult o s)
      (own0 := .done) ?_ (readMove_none _ f) rfl (never nofun) nofun (fun _ => moveResult_own _ _)
    change answerMove _ f s = _
    unfold answerMove
    cases readMove .relative f <;> rfl
  case stop =>
    refine decided_of_ordered (readStop f) (p0 := s.mayOrder f.src) (own := fun _ => .done)
      (own0 := .done) ?_ ?_ rfl (never nofun) nofun (fun _ => Result.own_done)
    · change answerStop f s = _
      unfold answerStop
      cases readStop f <;> rfl
    · rw [← Option.isNone_iff_eq_none, readStop_isNone]
  case cancel =>
    refine decided_of_ordered (gateOfNat (orderGate f)) (p0 := s.mayOrder f.src) (own := fun _ => .done)
      (own0 := .done) ?_ (gateOfNat_none _) rfl (never nofun) nofun (fun _ => Result.own_done)
    change answerCancel f s = _
    unfold answerCancel
    cases gateOfNat (orderGate f) <;> rfl
  case clearFlags =>
    refine decided_of_ordered (readClearFlags f) (p0 := s.mayOrder f.src) (own := fun _ => .done)
      (own0 := .done) ?_ ?_ rfl (always (by simp [RequestName.TakenInLockout])) nofun (fun _ => Result.own_done)
    · change answerClearFlags f s = _
      unfold answerClearFlags
      cases readClearFlags f <;> rfl
    · rw [← Option.isNone_iff_eq_none, readClearFlags_isNone]
  case clearGate =>
    refine decided_of_ordered (namedGate f) (p0 := true) (own := fun g => clearGateResult (s.gate g))
      (own0 := .malformed) ?_ (namedGate_none f) rfl (never nofun) nofun (fun _ => clearGateResult_own _)
    change answerClearGate f s = _
    unfold answerClearGate
    cases namedGate f <;> rfl
  case resumeGate =>
    refine decided_of_ordered (namedGate f) (p0 := true) (own := fun g => resumeResult g s)
      (own0 := .malformed) ?_ (namedGate_none f) rfl (never nofun) nofun (fun _ => resumeResult_own _ _)
    change answerResumeGate f s = _
    unfold answerResumeGate
    cases namedGate f <;> rfl
  case writeRows =>
    refine decided_of_reader (readWriteRows f) (p := fun o => s.mayWrite f.src o.table) (p0 := true)
      (own := fun o => refuse (writeCheck o s)) (own0 := .malformed) ?_ (readWriteRows_none f) ?_ (never nofun)
      (never nofun) (fun _ => writeCheck_own _ _) (fun _ => refuse_refused _)
    · change answerWriteRows f s = _
      unfold answerWriteRows
      cases readWriteRows f <;> rfl
    · intro o ho
      simp [RequestName.Permitted, (readWriteRows_address ho).1]
  case readRows =>
    refine decided_of_reader (readReadRows f) (p := fun o => s.mayRead f.src o.table) (p0 := true)
      (own := fun o => readRowsAnswer o s) (own0 := .malformed) ?_ (readReadRows_none f) ?_
      (always (by simp [RequestName.TakenInLockout])) (always (by simp [RequestName.TakenInDrain]))
      (fun _ => readRowsAnswer_own _ _) (fun o h => by rw [readRowsAnswer_refused o s h]; rfl)
    · change answerReadRows f s = _
      unfold answerReadRows
      cases readReadRows f <;> rfl
    · intro o ho
      simp [RequestName.Permitted, (readReadRows_address ho).1]
  case setLength =>
    refine decided_of_reader (readSetLength f) (p := fun o => s.mayWrite f.src o.1) (p0 := true)
      (own := fun o => refuse (lengthCheck o.2.1 o.2.2)) (own0 := .malformed) ?_ (readSetLength_none f) ?_ (never nofun)
      (never nofun) (fun _ => lengthCheck_own _ _) (fun _ => refuse_refused _)
    · change answerSetLength f s = _
      unfold answerSetLength
      rcases readSetLength f with _ | ⟨t, i, n⟩ <;> rfl
    · intro o ho
      simp [RequestName.Permitted, (namedImage_table (readSetLength_named ho).1).1]
  case activate =>
    refine decided_of_reader (namedImage f) (p := fun o => s.mayWrite f.src o.1) (p0 := true)
      (own := fun o => refuse (activateCheck o.2 s)) (own0 := .malformed) ?_ (namedImage_none f) ?_ (never nofun)
      (never nofun) (fun _ => activateCheck_own _ _) (fun _ => refuse_refused _)
    · change answerActivate f s = _
      unfold answerActivate
      rcases namedImage f with _ | ⟨t, i⟩ <;> rfl
    · intro o ho
      simp [RequestName.Permitted, (namedImage_table ho).1]
  case readState =>
    refine decided_of_reader (readReadState f) (p := fun _ => true) (p0 := true)
      (own := fun o => sectionAnswer o s) (own0 := .malformed) ?_ (readReadState_none f) (fun _ _ => always trivial)
      (always (by simp [RequestName.TakenInLockout])) (always (by simp [RequestName.TakenInDrain]))
      (fun _ => sectionAnswer_own _ _) (fun o h => by rw [sectionAnswer_refused o s h]; rfl)
    change answerReadState f s = _
    unfold answerReadState
    cases readReadState f <;> rfl
  case forceIndex =>
    refine ⟨decide (f.payload.length < 2), s.isEngineer f.src, false, false,
      refuse (if (f.word 1).toNat ≤ 63 then .done else .range), rfl, decide_eq_true_iff, fun _ => isEngineer_iff _ _,
      never nofun, never nofun, fun _ => ?_, refuse_refused _⟩
    split
    all_goals exact ⟨nofun, nofun, nofun⟩
  case releaseIndex =>
    exact ⟨false, s.isEngineer f.src, false, false, refuse .done, rfl, never id, fun _ => isEngineer_iff _ _,
      never nofun, never nofun, fun _ => Result.own_done, refuse_refused _⟩
  case softReset =>
    exact ⟨false, s.isEngineer f.src, true, false, refuse .done, rfl, never id, fun _ => isEngineer_iff _ _,
      always (by simp [RequestName.TakenInLockout]), never nofun, fun _ => Result.own_done, refuse_refused _⟩

/-- A refusal carries no data (R180). -/
theorem answer_refused {r : RequestName} {f : Frame} {s : State} (h : (r.answer f s).result ≠ .done) :
    r.answer f s = refuse (r.answer f s).result := by
  obtain ⟨m, p, l, d, own, decided⟩ := answer_decided r f s
  rw [decided.eq] at h ⊢
  exact decideRequest_refused decided.refused h

/-! ### A refusal and a discard (R180) -/

/-- A refused request is answered and nothing is carried out. -/
theorem serve_of_refused {r : RequestName} {f : Frame} {s : State} {answer : Frame → State → Answer}
    {effect : Frame → State → State} (hexec : s.req.executing = some f) (hname : requestName f = some r)
    (hheard : s.classOf f.src ≠ .unheard) (ha : (answer f s).result ≠ .done) :
    serve r answer effect s = settle (endExecution (placeReply f (answer f s) s)) := by
  simp [serve, State.executes, hexec, hname, hheard, ha]

theorem serve_of_unheard {r : RequestName} {f : Frame} {s : State} {answer : Frame → State → Answer}
    {effect : Frame → State → State} (hexec : s.req.executing = some f) (hname : requestName f = some r)
    (hheard : s.classOf f.src = .unheard) :
    serve r answer effect s = settle (endExecution (releaseReservation s)) := by
  simp [serve, State.executes, hexec, hname, hheard]

theorem settled_placeReply_traffic (f : Frame) (a : Answer) (s : State) :
    OnlyTraffic s (settle (endExecution (placeReply f a s))) :=
  ((placeReply_traffic f a s).trans (endExecution_traffic _)).trans (settle_traffic _)

theorem settled_placeReply_replied (f : Frame) (a : Answer) {s : State} (h : .reserved ∈ s.req.report) :
    (settle (endExecution (placeReply f a s))).Replied f a :=
  ((endExecution_keepsPlaced _).trans (settle_keepsPlaced _)).replied (placeReply_replied f a h)

theorem dropReservation_eq (r : List ReportEntry) : dropReservation r = r.erase .reserved := by
  induction r with
  | nil => rfl
  | cons e r ih => cases e <;> simp [dropReservation, ih]

theorem settle_of_no_intake {s : State} (h : s.req.intake = []) : settle s = updateFaultLine s :=
  settle_of_not_mayExecute s (by simp [State.mayExecute, h])

/-- While RING-OUT is busy a released reservation starts nothing. -/
theorem releaseReservation_busy {s : State} (h : s.ring.out ≠ .idle) :
    (releaseReservation s).req.report = s.req.report.erase .reserved := by
  unfold releaseReservation
  rw [arbitrate_of_sending _ (by unfold settleRotation; split <;> exact h), settleRotation_req]
  exact dropReservation_eq _

theorem releaseReservation_intake (s : State) : (releaseReservation s).req.intake = s.req.intake := by
  unfold releaseReservation
  rw [arbitrate_intake, settleRotation_req]
  rfl

/-- Settles O41: a refusal is placed as the reply, a discard releases the reservation, and neither has an effect. -/
theorem refusedRequestChangesNothing : Obligations.RefusedRequestChangesNothing := by
  intro r f s hexec hname hreserved
  refine ⟨fun hheard hrefused => ?_, fun hunheard hintake => ?_⟩
  · refine ⟨_, exec_command r s, ?_⟩
    rw [serve_of_refused hexec hname hheard hrefused, answer_refused hrefused]
    exact ⟨settled_placeReply_traffic f _ s, settled_placeReply_replied f _ hreserved⟩
  · refine ⟨_, exec_command r s, ?_⟩
    rw [serve_of_unheard hexec hname hunheard]
    have hnone : (endExecution (releaseReservation s)).req.intake = [] := (releaseReservation_intake s).trans hintake
    refine ⟨((releaseReservation_traffic s).trans (endExecution_traffic _)).trans (settle_traffic _), ?_, fun hbusy => ?_⟩
    all_goals rw [settle_of_no_intake hnone]
    · rfl
    · exact releaseReservation_busy hbusy

/-- The refusals of R180 come in the order MALFORMED, ACCESS, and the device state. -/
theorem refusedInThisOrder : Sys2Proof.Claim.RefusedInThisOrder := by
  intro r f s
  obtain ⟨m, p, l, d, own, decided⟩ := answer_decided r f s
  rw [decided.eq]
  refine ⟨fun hm => ?_, fun hm hp => ?_, fun hm hp => ⟨fun hdevice hl => ?_, fun hdevice hd => ?_, fun htaken => ?_⟩⟩
  · rw [decided.malformed.mpr hm]
    rfl
  all_goals obtain rfl : m = false := Bool.eq_false_iff.mpr fun h => hm (decided.malformed.mp h)
  · obtain rfl : p = false := Bool.eq_false_iff.mpr fun h => hp ((decided.permitted rfl).mp h)
    rfl
  all_goals obtain rfl : p = true := (decided.permitted rfl).mpr hp
  · obtain rfl : l = false := Bool.eq_false_iff.mpr fun h => hl (decided.inLockout.mp h)
    simp [decideRequest, hdevice]
  · obtain rfl : d = false := Bool.eq_false_iff.mpr fun h => hd (decided.inDrain.mp h)
    simp [decideRequest, hdevice]
  · have hown : decideRequest s false true l d own = own := by
      rcases htaken with hrun | ⟨hlock, hl⟩ | ⟨hdrain, hd⟩
      · simp [decideRequest, hrun]
      · simp [decideRequest, hlock, decided.inLockout.mpr hl]
      · simp [decideRequest, hdrain, decided.inDrain.mpr hd]
    rw [hown]
    exact (result_own_iff _).mp (decided.heard rfl)

end Sys2Proof.Machine
end

section
/-!
PROOFS. Who may ask for what, and the checks of each request (R89, R103, R104, R166, R167, R178, R180).
-/

namespace Sys2Proof.Machine

/-! ### Rights (R178) -/

/-- A request that is not permitted is refused as MALFORMED or with ACCESS. -/
theorem answer_of_not_permitted {r : RequestName} {f : Frame} {s : State} (h : ¬r.Permitted f s) :
    r.answer f s = refuse .malformed ∨ r.answer f s = refuse .access := by
  obtain ⟨hmalformed, haccess, _⟩ := refusedInThisOrder r f s
  by_cases hm : r.Malformed f
  · exact .inl (hmalformed hm)
  · exact .inr (haccess hm h)

theorem mayWrite_of_observer {s : State} {a : Byte} (h : s.classOf a = .observer) (t : Table) : s.mayWrite a t = false := by
  simp [State.mayWrite, h]

/-- The requests that name a table to be written name one that an OBSERVER may not write. -/
theorem not_permitted_of_observer {r : RequestName} {f : Frame} {s : State} (hclass : s.classOf f.src = .observer)
    (hrows : r ≠ .readRows) (hstate : r ≠ .readState) (hm : ¬r.Malformed f) : ¬r.Permitted f s := by
  have hnot : ∀ t, ¬s.mayWrite f.src t = true := fun t => by simp [mayWrite_of_observer hclass t]
  cases r
  case readRows => exact absurd rfl hrows
  case readState => exact absurd rfl hstate
  case writeRows =>
    intro h
    obtain ⟨o, ho⟩ := Option.ne_none_iff_exists'.mp (mt (readWriteRows_none f).mp hm)
    exact hnot _ (h _ (readWriteRows_address ho).1)
  case setLength =>
    intro h
    obtain ⟨⟨t, i, n⟩, ho⟩ := Option.ne_none_iff_exists'.mp (mt (readSetLength_none f).mp hm)
    exact hnot _ (h _ (namedImage_table (readSetLength_named ho).1).1)
  case activate =>
    intro h
    obtain ⟨⟨t, i⟩, ho⟩ := Option.ne_none_iff_exists'.mp (mt (namedImage_none f).mp hm)
    exact hnot _ (h _ (namedImage_table ho).1)
  all_goals simp [RequestName.Permitted, hclass]

theorem rightsByClass : Sys2Proof.Claim.RightsByClass := by
  intro r f s
  refine ⟨fun hclass hrows hstate => ?_, fun hclass hr => ?_, fun hclass hr o ho htable => ?_⟩
  · by_cases hm : r.Malformed f
    · exact .inl ((refusedInThisOrder r f s).1 hm)
    · exact answer_of_not_permitted (not_permitted_of_observer hclass hrows hstate hm)
  · refine answer_of_not_permitted ?_
    rcases hr with rfl | rfl | rfl <;> simp [RequestName.Permitted, hclass]
  · subst hr
    have hm : ¬RequestName.Malformed .writeRows f := fun h => by rw [(readWriteRows_none f).mpr h] at ho; cases ho
    refine (refusedInThisOrder .writeRows f s).2.1 hm fun h => ?_
    have hwrite := h _ (readWriteRows_address ho).1
    rcases htable with htable | htable <;> simp [State.mayWrite, hclass, htable] at hwrite

theorem eq_iff_toNat_eq (w : Word) (n : Nat) (hn : n < 65536) : w.toNat = n ↔ w = BitVec.ofNat 16 n := by
  constructor
  · rintro rfl; simp
  · rintro rfl; simp [Nat.mod_eq_of_lt hn]

theorem classOf_of_station {s : State} {a : Byte} (h : 1 ≤ a.toNat) :
    s.classOf a = stationClassOfCode (rowAt s.store.stations (a.toNat - 1)).toNat := by
  unfold State.classOf
  rw [if_neg]
  rintro rfl
  simp at h

theorem rightsGranted : Sys2Proof.Claim.RightsGranted := by
  intro s a table
  refine ⟨fun hlow _ => ?_, ?_, ?_, mayOrder_iff s a⟩
  · dsimp only
    rw [classOf_of_station hlow, ← eq_iff_toNat_eq _ 1 (by decide), ← eq_iff_toNat_eq _ 2 (by decide),
      ← eq_iff_toNat_eq _ 3 (by decide)]
    generalize (rowAt s.store.stations (a.toNat - 1)).toNat = n
    rcases n with _ | _ | _ | _ | n <;> simp [stationClassOfCode]
  · change s.mayRead a table = true ↔ s.classOf a = .engineer ∨
      (s.classOf a = .operator ∧ (rowAt s.store.access (6 + table.group) = 1#16 ∨
        rowAt s.store.access (6 + table.group) = 3#16)) ∨
      (s.classOf a = .observer ∧ rowAt s.store.access table.group = 1#16)
    rw [← eq_iff_toNat_eq _ 1 (by decide), ← eq_iff_toNat_eq _ 3 (by decide), ← eq_iff_toNat_eq _ 1 (by decide)]
    cases hclass : s.classOf a <;> simp [State.mayRead, hclass]
    · simp [State.observerReads]
    · exact Iff.rfl
  · change s.mayWrite a table = true ↔ s.classOf a = .engineer ∨
      (s.classOf a = .operator ∧ table ≠ .access ∧ table ≠ .stations ∧
        (rowAt s.store.access (6 + table.group) = 2#16 ∨ rowAt s.store.access (6 + table.group) = 3#16))
    rw [← eq_iff_toNat_eq _ 2 (by decide), ← eq_iff_toNat_eq _ 3 (by decide)]
    cases hclass : s.classOf a <;> simp [State.mayWrite, hclass, and_assoc]
    exact fun _ _ => Iff.rfl

/-- The request a frame names, by its kind and code (11.2). -/
theorem requestNamedByCode : Sys2Proof.Claim.RequestNamedByCode := by
  intro f r hlen
  refine ⟨fun hkind => ?_, fun hkind => ?_⟩
  · unfold requestName orderCode
    rw [if_pos hkind, if_pos hlen]
    generalize field (f.word 0) 8 8 = n
    rcases n with _ | _ | _ | _ | _ | _ | n <;> simp [eq_comm]
  · have hother : f.kind ≠ kindOrder := by rw [hkind]; decide
    unfold requestName manageCode
    rw [if_neg hother, if_pos hkind, if_pos hlen]
    generalize field (f.word 0) 12 4 = n
    rcases n with _ | _ | _ | _ | _ | _ | _ | _ | _ | _ | _ | _ | n <;> simp [eq_comm]

/-! ### The checks of an order in RUN -/

theorem gateOfNat_of_val {n : Nat} {g : GateNo} (h : n = g.val) : gateOfNat n = some g := by
  rw [h, gateOfNat_val]

theorem modeOfCode_code (m : Mode) : modeOfCode m.code = some m := by cases m <;> rfl

theorem answerSetMode_of_run {f : Frame} {s : State} {g : GateNo} {m : Mode} (h : readSetMode f = some (g, m))
    (hright : s.mayOrder f.src = true) (hrun : s.sup.device = .run) : answerSetMode f s = refuse (setModeResult g m s) := by
  unfold answerSetMode
  rw [h]
  exact decideOrder_of_run _ hright hrun

theorem readSetMode_of {f : Frame} {g : GateNo} {m : Mode} (hlen : 2 ≤ f.payload.length) (hg : orderGate f = g.val)
    (hm : (f.word 1).toNat = m.code) : readSetMode f = some (g, m) := by
  simp [readSetMode, hlen, gateOfNat_of_val hg, hm, modeOfCode_code]

theorem eq_leftHoist_or_rightHoist {g : GateNo} {h : HoistNo} : h = leftHoist g ∨ h = rightHoist g ↔ gateOf h = g := by
  rw [Fin.ext_iff, Fin.ext_iff, Fin.ext_iff]
  simp only [leftHoist, rightHoist, gateOf]
  omega

theorem hoistsReady_iff_each (g : GateNo) (s : State) :
    s.hoistsReady g = true ↔ ∀ h, gateOf h = g → s.driveOf h ≠ 0#8 ∧ (s.hoist h).valid = true := by
  simp only [hoistsReady_iff, eq_leftHoist_or_rightHoist]

/-- SET-MODE past the device state (R89). -/
theorem setModeChecked : Sys2Proof.Claim.SetModeChecked := by
  intro f s g m hlen hg hm hright hrun
  have hanswer : RequestName.answer .setMode f s = refuse (setModeResult g m s) :=
    answerSetMode_of_run (readSetMode_of hlen hg hm) hright hrun
  dsimp only
  rw [hanswer, ← hoistsReady_iff_each]
  unfold setModeResult
  dsimp only
  refine ⟨fun hstopped => ?_, fun hfree hoff => ?_, fun hfree hon hnot => ?_, fun hfree hauto hshort => ?_,
    fun hfree hon hready hlong => ?_⟩
  · rw [if_pos hstopped]
  · rw [if_neg hfree, if_pos hoff]
  · have hunready : (!recordValid (s.record g) || !s.hoistsReady g) = true := by
      rw [Bool.or_eq_true, Bool.not_eq_true', Bool.not_eq_true', ← Bool.not_eq_true, ← Bool.not_eq_true]
      exact not_and_or.mp hnot
    rw [if_neg hfree, if_neg hon, if_pos hunready]
  · have hon : m ≠ .off := by rcases hauto with rfl | rfl <;> nofun
    rw [if_neg hfree, if_neg hon]
    split
    · rfl
    · rw [if_pos ⟨hauto, Nat.not_le.mp hshort⟩]
  · have hboth : (!recordValid (s.record g) || !s.hoistsReady g) = false := by simp [hready.1, hready.2]
    rw [if_neg hfree, if_neg hon, hboth, if_neg Bool.false_ne_true,
      if_neg fun h => absurd (hlong h.1) (Nat.not_le.mpr h.2)]

theorem answerMove_of_run {form : Form} {f : Frame} {s : State} {o : MoveOrder} (h : readMove form f = some o)
    (hright : s.mayOrder f.src = true) (hrun : s.sup.device = .run) : answerMove form f s = refuse (moveResult o s) := by
  unfold answerMove
  rw [h]
  exact decideOrder_of_run _ hright hrun

/-- The request of each form of move. -/
theorem answer_of_form (form : Form) :
    RequestName.answer (if form = .absolute then .moveTo else .moveBy) = answerMove form := by cases form <;> rfl

theorem readMove_of {f : Frame} {g : GateNo} (form : Form) (hlen : 2 ≤ f.payload.length) (hg : orderGate f = g.val) :
    ∃ o, readMove form f = some o ∧ o.gate = g ∧ o.preempt = (f.word 2).getLsbD 15 ∧
      ∀ x, o.target x = if form = .absolute then ((f.word 1).toNat : Int) else x.aim + (f.word 1).toInt := by
  unfold readMove
  rw [if_pos hlen, gateOfNat_of_val hg]
  exact ⟨_, rfl, rfl, rfl, fun x => by cases form <;> rfl⟩

/-- A preempting MOVE that may issue is decided by the window (R104). -/
theorem preemptResult_of_ready {o : MoveOrder} {s : State}
    (h : (s.gate o.gate).inFlight = true ∨ ((s.gate o.gate).motion = .idle ∧ s.bothStill o.gate = true)) :
    preemptResult o s = if lowerLimit (s.record o.gate) ≤ o.target (s.gate o.gate) ∧
      o.target (s.gate o.gate) ≤ upperLimit (s.record o.gate) then .done else .range := by
  have hready : ((s.gate o.gate).inFlight || (decide ((s.gate o.gate).motion = .idle) && s.bothStill o.gate)) = true := by
    simpa using h
  unfold preemptResult
  dsimp only
  rw [if_pos hready]
  simp only [inWindow_iff]

theorem preemptResult_of_busy {o : MoveOrder} {s : State} (hflight : (s.gate o.gate).inFlight = false)
    (hidle : (s.gate o.gate).motion = .idle → s.bothStill o.gate = false) : preemptResult o s = .busy := by
  unfold preemptResult
  dsimp only
  rw [if_neg]
  simp only [hflight, Bool.false_or, Bool.and_eq_true, decide_eq_true_eq, not_and, Bool.not_eq_true]
  exact hidle

theorem aim_of_inFlight {x : Gate} {c : MoveContext} (h : x.inFlight = true) (hc : x.context = some c) : x.aim = c.target := by
  unfold Gate.aim
  rw [if_pos h, hc]

theorem aim_of_idle {x : Gate} (h : x.motion = .idle) : x.aim = x.standing := by
  unfold Gate.aim
  rw [if_neg (by simp [not_inFlight_of_idle h])]

/-- MOVE-TO and MOVE-BY past the device state (R103, R104). -/
theorem moveChecked : Sys2Proof.Claim.MoveChecked := by
  intro f s g form hlen hg hright hrun
  obtain ⟨o, ho, rfl, hpreempts, htarget⟩ := readMove_of form hlen hg
  dsimp only
  rw [answer_of_form, answerMove_of_run ho hright hrun, ← hpreempts]
  unfold moveResult
  refine ⟨fun hheld => ?_, fun hfree hmode => ?_, fun hfree hmode => ⟨fun hjoin => ?_, fun hpreempt => ⟨fun c hflight hc => ?_,
    fun hidle hstill => ?_, fun hidle hstill => ?_, fun hstop => ?_⟩⟩⟩
  · rw [if_pos hheld]
  all_goals rw [if_neg (by simp [hfree])]
  · rw [if_pos hmode]
  all_goals rw [if_neg (not_not.mpr hmode)]
  · rw [if_neg (by simp [hjoin])]
  all_goals rw [if_pos hpreempt]
  · rw [preemptResult_of_ready (.inl hflight), htarget, aim_of_inFlight hflight hc]
  · rw [preemptResult_of_ready (.inr ⟨hidle, hstill⟩), htarget, aim_of_idle hidle]
  · rw [preemptResult_of_busy (not_inFlight_of_idle hidle) fun _ => hstill]
  · rw [preemptResult_of_busy]
    all_goals rcases hstop with h | h | h <;> simp [Gate.inFlight, h]

/-! ### The checks of the requests to a gate -/

theorem answerClearGate_of_run {f : Frame} {s : State} {g : GateNo} (h : namedGate f = some g)
    (hright : s.mayOrder f.src = true) (hrun : s.sup.device = .run) :
    answerClearGate f s = refuse (clearGateResult (s.gate g)) := by
  simp [answerClearGate, h, decideRequest, hright, hrun]

theorem answerResumeGate_of_run {f : Frame} {s : State} {g : GateNo} (h : namedGate f = some g)
    (hright : s.mayOrder f.src = true) (hrun : s.sup.device = .run) :
    answerResumeGate f s = refuse (resumeResult g s) := by
  simp [answerResumeGate, h, decideRequest, hright, hrun]

theorem clearGateResult_eq (x : Gate) :
    clearGateResult x = if x.motion = .faulted then .done else if x.motion = .faultStopping then .busy else .notFaulted := by
  unfold clearGateResult
  cases x.motion <;> rfl

/-- A standing condition (R167). -/
theorem standing_iff (s : State) (g : GateNo) : s.standing g = true ↔ s.sup.holdLine = true ∨ ∃ h, gateOf h = g ∧
    ((s.hoist h).monitor.outcomes.ha = true ∨ (s.hoist h).monitor.outcomes.la = true ∨ (s.hoist h).drive ≠ .still) := by
  have heach : ∀ p : HoistNo → Prop, (∃ h, gateOf h = g ∧ p h) ↔ p (leftHoist g) ∨ p (rightHoist g) := fun p =>
    ⟨fun ⟨h, hg, hp⟩ => by rcases eq_leftHoist_or_rightHoist.mpr hg with rfl | rfl; exacts [.inl hp, .inr hp],
      fun h => h.elim (fun hp => ⟨_, gateOf_leftHoist g, hp⟩) (fun hp => ⟨_, gateOf_rightHoist g, hp⟩)⟩
  rw [heach]
  simp only [State.standing, State.leftOf, State.rightOf, Bool.or_eq_true, Bool.not_eq_true', ← Bool.not_eq_true,
    bothStill_iff, not_and_or]
  tauto

/-- CLEAR-GATE and RESUME-GATE past the device state (R166, R167). -/
theorem gateRequestsChecked : Sys2Proof.Claim.GateRequestsChecked := by
  intro f s g hg hright hrun
  have hnamed : namedGate f = some g := gateOfNat_of_val hg
  have hclear : RequestName.answer .clearGate f s = _ := answerClearGate_of_run hnamed hright hrun
  have hresume : RequestName.answer .resumeGate f s = _ := answerResumeGate_of_run hnamed hright hrun
  dsimp only
  rw [hclear, hresume, clearGateResult_eq, ← standing_iff]
  unfold resumeResult
  dsimp only
  refine ⟨rfl, fun hnot => ?_, fun ⟨hfaulted, hfresh⟩ hrecoverable => ?_, fun ⟨hfaulted, hfresh⟩ hrecoverable hstanding => ?_,
    fun ⟨hfaulted, hfresh⟩ hrecoverable hstanding => ?_⟩
  · rw [if_pos]
    exact (not_and_or.mp hnot).imp_right fun h => by simpa using h
  all_goals rw [if_neg (show ¬((s.gate g).motion ≠ .faulted ∨ (s.gate g).save.resumed = true) by simp [hfaulted, hfresh])]
  · rw [if_pos hrecoverable]
  · rw [if_neg (not_not.mpr hrecoverable), if_pos hstanding]
  · rw [if_neg (not_not.mpr hrecoverable), if_neg hstanding]
    simp only [inWindow_iff]

/-! ### The other requests -/

theorem namedImage_pass {f : Frame} (h : field (f.word 0) 0 5 = 4) : namedImage f = some (.pass, .pass) := by
  simp [namedImage, h, tableOfId, imageOf]

theorem namedImage_schedule {f : Frame} {n : ScheduleNo} (h : field (f.word 0) 0 5 = 16 + n.val ∨ field (f.word 0) 0 5 = 20 + n.val) :
    ∃ t, namedImage f = some (t, .schedule n) := by
  unfold namedImage
  rcases h with h | h <;> rw [h] <;> clear h <;> fin_cases n <;> exact ⟨_, rfl⟩

theorem answerSetLength_of_run {f : Frame} {s : State} {t : Table} {i : ImageName} (hlen : 2 ≤ f.payload.length)
    (h : namedImage f = some (t, i)) (hright : s.mayWrite f.src t = true) (hrun : s.sup.device = .run) :
    answerSetLength f s = refuse (lengthCheck i (f.word 1).toNat) := by
  simp [answerSetLength, readSetLength, hlen, h, decideRequest, hright, hrun]

theorem answerActivate_of_run {f : Frame} {s : State} {t : Table} {i : ImageName} (h : namedImage f = some (t, i))
    (hright : s.mayWrite f.src t = true) (hrun : s.sup.device = .run) :
    answerActivate f s = refuse (activateCheck i s) := by
  simp [answerActivate, h, decideRequest, hright, hrun]

/-- What makes an entry of the Pass Table fit for activation (R34). -/
theorem activatable_iff (i : PassImage) (e : Nat) : (passEntry i e).activatable = true ↔
    1 ≤ field (rowAt i.rows (3 * e + 1)) 0 8 ∧
      field (rowAt i.rows (3 * e + 1)) 0 8 ≤ field (rowAt i.rows (3 * e + 1)) 8 8 ∧ field (rowAt i.rows (3 * e)) 8 3 ≤ 3 := by
  have haction : ∀ n, (passActionOfCode n).isSome = true ↔ n ≤ 3 := fun n => by
    rcases n with _ | _ | _ | _ | n <;> simp [passActionOfCode]
  unfold PassEntry.activatable
  rw [Bool.and_eq_true, Bool.and_eq_true, decide_eq_true_iff, decide_eq_true_iff, and_assoc]
  exact and_congr_right' (and_congr_right' (haction _))

theorem activateCheck_pass (s : State) : activateCheck .pass s =
    if ∀ e, e < s.store.passPending.length → (passEntry s.store.passPending e).activatable = true then .done
    else .notValid := by
  unfold activateCheck
  simp only [List.all_eq_true, List.mem_range]

theorem decideRequest_taken {s : State} {l d : Bool} (own : Answer)
    (h : s.sup.device = .run ∨ (s.sup.device = .lockout ∧ l = true)) : decideRequest s false true l d own = own := by
  rcases h with h | ⟨h, rfl⟩ <;> simp [decideRequest, h]

/-- A request with no check of its own, in a device state that takes it. -/
theorem answer_of_taken {r : RequestName} {f : Frame} {s : State} (hm : ¬r.Malformed f) (hp : r.Permitted f s)
    (hdevice : s.sup.device = .run ∨ (s.sup.device = .lockout ∧ r.TakenInLockout))
    (hr : r ∈ [RequestName.stop, .cancel, .clearFlags, .releaseIndex, .softReset]) : r.answer f s = refuse .done := by
  have hrun : ¬r.TakenInLockout → s.sup.device = .run := fun h => hdevice.elim id fun hl => absurd hl.2 h
  simp only [List.mem_cons, List.not_mem_nil, or_false] at hr
  rcases hr with rfl | rfl | rfl | rfl | rfl
  · have hread : (readStop f).isNone = false := Bool.eq_false_iff.mpr fun h => hm ((readStop_isNone f).mp h)
    change decideOrder f s (readStop f).isNone .done = _
    rw [hread]
    exact decideOrder_of_run _ ((mayOrder_iff s f.src).mpr hp) (hrun nofun)
  · have hread : (gateOfNat (orderGate f)).isNone = false := Bool.eq_false_iff.mpr fun h => hm ((gateOfNat_isNone _).mp h)
    change decideOrder f s (gateOfNat (orderGate f)).isNone .done = _
    rw [hread]
    exact decideOrder_of_run _ ((mayOrder_iff s f.src).mpr hp) (hrun nofun)
  · have hread : (readClearFlags f).isNone = false := Bool.eq_false_iff.mpr fun h => hm ((readClearFlags_isNone f).mp h)
    change decideRequest s (readClearFlags f).isNone (s.mayOrder f.src) true false (refuse .done) = _
    rw [hread, (mayOrder_iff s f.src).mpr hp]
    exact decideRequest_taken _ (hdevice.imp_right fun h => ⟨h.1, rfl⟩)
  · change decideRequest s false (s.isEngineer f.src) false false (refuse .done) = _
    rw [(isEngineer_iff s f.src).mpr hp]
    exact decideRequest_taken _ (.inl (hrun nofun))
  · change decideRequest s false (s.isEngineer f.src) true false (refuse .done) = _
    rw [(isEngineer_iff s f.src).mpr hp]
    exact decideRequest_taken _ (hdevice.imp_right fun h => ⟨h.1, rfl⟩)

/-- SET-LENGTH, ACTIVATE and FORCE-INDEX past the device state, and the requests with no check of their own. -/
theorem otherRequestsChecked : Sys2Proof.Claim.OtherRequestsChecked := by
  intro f s
  refine ⟨fun hrun hwrite => ?_, fun hrun hclass hlen => ?_, fun r hr hm hp hdevice => answer_of_taken hm hp hdevice hr⟩
  · have hright : ∀ {t i}, namedImage f = some (t, i) → s.mayWrite f.src t = true := fun h => hwrite _ (namedImage_table h).1
    refine ⟨fun hlen hid => ?_, fun hlen hlow hhigh => ?_, fun hid => ?_, fun n hid => ?_⟩
    · have hnamed := namedImage_pass hid
      exact answerSetLength_of_run hlen hnamed (hright hnamed) hrun
    · obtain ⟨t, hnamed⟩ := namedImage_schedule (f := f) (n := Fin.ofNat 4 (field (f.word 0) 0 5 - 16)) (by
        simp only [Fin.ofNat]
        omega)
      exact answerSetLength_of_run hlen hnamed (hright hnamed) hrun
    · have hnamed := namedImage_pass hid
      have hanswer : RequestName.answer .activate f s = _ := answerActivate_of_run hnamed (hright hnamed) hrun
      simp only [← activatable_iff]
      rw [hanswer, activateCheck_pass]
      exact ⟨fun h => by rw [if_pos h], fun h => by rw [if_neg h]⟩
    · obtain ⟨t, hnamed⟩ := namedImage_schedule hid
      have hanswer : RequestName.answer .activate f s = _ := answerActivate_of_run hnamed (hright hnamed) hrun
      rw [hanswer]
      change refuse (if scheduleLength (s.schedule n).pending < 2 then .notValid else .done) = _
      split
      next h => rw [if_neg (Nat.not_le.mpr h)]
      next h => rw [if_pos (Nat.not_lt.mp h)]
  · simp [RequestName.answer, answerForceIndex, decideRequest, hrun, Nat.not_lt.mpr hlen, State.isEngineer, hclass]

/-- Settles O42: the steps of R180, the rights, and each request's own checks. -/
theorem refusalsInOrder : Obligations.RefusalsInOrder :=
  ⟨requestNamedByCode, refusedInThisOrder, rightsByClass, rightsGranted, setModeChecked, moveChecked, gateRequestsChecked,
    otherRequestsChecked⟩

end Sys2Proof.Machine
end

section
/-!
PROOFS. Requests that change one thing: lengths and images, the forced index, and the flags of a group.
-/

namespace Sys2Proof.Machine

section request

variable {r : RequestName} {f : Frame} {s : State}

/-- A request answered DONE whose effect is one change that respects traffic. -/
theorem request_done (hx : s.Executing r f) (ha : r.answer f s = refuse .done)
    (hkeeps : ∀ u, KeepsPlaced u (r.effect f u))
    (heffect : ∀ u, OnlyTraffic s u → OnlyTraffic (r.effect f s) (r.effect f u)) :
    ∃ t, exec r.command s = .next t ∧ t.Replied f (refuse .done) ∧ OnlyTraffic (r.effect f s) t :=
  ⟨_, exec_command r s, serve_replied_of_done hx ha hkeeps, serve_traffic_of_done hx ha heffect⟩

/-- A request answered with a refusal. -/
theorem request_refused {x : Result} (hx : s.Executing r f) (ha : r.answer f s = refuse x) (hne : x ≠ .done) :
    ∃ t, exec r.command s = .next t ∧ t.Replied f (refuse x) ∧ OnlyTraffic s t := by
  obtain ⟨hexec, hname, hreserved, hheard⟩ := hx
  obtain ⟨hrefused, _⟩ := refusedRequestChangesNothing r f s hexec hname hreserved
  obtain ⟨t, ht, htraffic, hreplied⟩ := hrefused hheard (by rw [ha]; exact hne)
  rw [ha] at hreplied
  exact ⟨t, ht, hreplied, htraffic⟩

/-- Whatever becomes of a request, its command ends with the FAULT line up to date (R154). -/
theorem request_faultLine {t : State} (hx : s.Executing r f) (ht : exec r.command s = .next t) :
    t.monitor.faultLine = t.faultDemanded := by
  obtain ⟨hexec, hname, _, hheard⟩ := hx
  rw [exec_command] at ht
  rw [← Host.Outcome.next.inj ht]
  simp only [serve, State.executes, hexec, hname, if_true, hheard, if_false]
  exact settle_faultLine _

end request

/-! ### Changes that respect traffic -/

theorem OnlyTraffic.onStore {s t : State} (h : OnlyTraffic s t) (φ : TableStore → TableStore) :
    OnlyTraffic (s.onStore φ) (t.onStore φ) := { h with store := congrArg φ h.store }

theorem OnlyTraffic.onPass {s t : State} (h : OnlyTraffic s t) (φ : PassFilter → PassFilter) :
    OnlyTraffic (s.onPass φ) (t.onPass φ) := { h with pass := congrArg φ h.pass }

theorem OnlyTraffic.onLevels {s t : State} (h : OnlyTraffic s t) (φ : LevelUnit → LevelUnit) :
    OnlyTraffic (s.onLevels φ) (t.onLevels φ) := { h with levels := congrArg φ h.levels }

theorem OnlyTraffic.schedule {s t : State} (h : OnlyTraffic s t) (n : ScheduleNo) : t.schedule n = s.schedule n := by
  unfold State.schedule
  rw [h.store]

theorem OnlyTraffic.onSchedule {s t : State} (h : OnlyTraffic s t) (n : ScheduleNo) (φ : Schedule → Schedule) :
    OnlyTraffic (s.onSchedule n φ) (t.onSchedule n φ) := by
  unfold State.onSchedule
  rw [h.schedule]
  exact h.onStore _

theorem onSchedule_keepsPlaced (s : State) (n : ScheduleNo) (φ : Schedule → Schedule) : KeepsPlaced s (s.onSchedule n φ) :=
  .of_report rfl fun _ h _ => h

/-! ### SET-LENGTH and ACTIVATE (R183) -/

theorem setLength_keepsPlaced (i : ImageName) (n : Nat) (s : State) : KeepsPlaced s (setLength i n s) := by
  cases i
  · exact .of_report rfl fun _ h _ => h
  · exact onSchedule_keepsPlaced s _ _

theorem OnlyTraffic.setLength {s t : State} (h : OnlyTraffic s t) (i : ImageName) (n : Nat) :
    OnlyTraffic (setLength i n s) (setLength i n t) := by
  unfold Machine.setLength
  cases i
  · exact h.onStore (fun t => { t with passPending := { t.passPending with length := n } })
  · exact h.onSchedule _ _

theorem activateImage_keepsPlaced (i : ImageName) (s : State) : KeepsPlaced s (activateImage i s) := by
  cases i
  · exact .of_report rfl fun _ h _ => h
  · exact onSchedule_keepsPlaced s _ _

theorem OnlyTraffic.activateImage {s t : State} (h : OnlyTraffic s t) (i : ImageName) :
    OnlyTraffic (activateImage i s) (activateImage i t) := by
  unfold Machine.activateImage
  cases i
  · dsimp only
    rw [h.store]
    exact (h.onStore _).onPass _
  · exact h.onSchedule _ _

theorem setLength_served {f : Frame} {s : State} {t : Table} {i : ImageName} {n : Nat} (hx : s.Executing .setLength f)
    (hread : readSetLength f = some (t, i, n)) (hright : s.mayWrite f.src t = true) (hrun : s.sup.device = .run)
    (hcheck : lengthCheck i n = .done) :
    ∃ t, exec .setLength s = .next t ∧ t.Replied f (refuse .done) ∧ OnlyTraffic (setLength i n s) t := by
  have heffect : ∀ u, effectSetLength f u = setLength i n u := fun u => by unfold effectSetLength; rw [hread]
  have ha : RequestName.answer .setLength f s = refuse .done := by
    change answerSetLength f s = _
    simp [answerSetLength, hread, decideRequest, hright, hrun, hcheck]
  obtain ⟨t, ht, hreplied, htraffic⟩ := request_done hx ha
    (fun u => by change KeepsPlaced u (effectSetLength f u); rw [heffect]; exact setLength_keepsPlaced i n u)
    (fun u hu => by
      change OnlyTraffic (effectSetLength f s) (effectSetLength f u)
      rw [heffect, heffect]
      exact hu.setLength i n)
  exact ⟨t, ht, hreplied, by rw [← heffect]; exact htraffic⟩

theorem setLengthSetsPending : Sys2Proof.Claim.SetLengthSetsPending := by
  intro f s table image n hx hread hright hrun
  refine ⟨fun hi hn => ?_, fun k hi hlow hhigh => ?_⟩
  · subst hi
    exact setLength_served hx hread hright hrun (if_pos hn)
  · subst hi
    exact setLength_served hx hread hright hrun (if_pos ⟨hlow, hhigh⟩)

theorem activate_served {f : Frame} {s : State} {t : Table} {i : ImageName} (hx : s.Executing .activate f)
    (hnamed : namedImage f = some (t, i)) (hright : s.mayWrite f.src t = true) (hrun : s.sup.device = .run)
    (hcheck : activateCheck i s = .done) :
    ∃ t, exec .activate s = .next t ∧ t.Replied f (refuse .done) ∧ OnlyTraffic (activateImage i s) t := by
  have heffect : ∀ u, effectActivate f u = activateImage i u := fun u => by unfold effectActivate; rw [hnamed]
  have ha : RequestName.answer .activate f s = refuse .done := by
    rw [← hcheck]
    exact answerActivate_of_run hnamed hright hrun
  obtain ⟨t, ht, hreplied, htraffic⟩ := request_done hx ha
    (fun u => by change KeepsPlaced u (effectActivate f u); rw [heffect]; exact activateImage_keepsPlaced i u)
    (fun u hu => by
      change OnlyTraffic (effectActivate f s) (effectActivate f u)
      rw [heffect, heffect]
      exact hu.activateImage i)
  exact ⟨t, ht, hreplied, by rw [← heffect]; exact htraffic⟩

/-- The rows copied into an image are those of the other (R34). -/
theorem rowAt_copyRows {m n r : Nat} (new old : Vector Word m) (hr : r < n) (hm : r < m) :
    rowAt (copyRows n new old) r = rowAt new r := by
  unfold copyRows
  rw [rowAt_storeRows, if_pos ⟨Nat.zero_le r, by simp; omega, hm⟩, rowAt_getElem _ hm]
  simp [List.getD_eq_getElem?_getD, hr, hm]

theorem passEntry_copied (p : PassImage) (old : Vector Word 96) {e : Nat} (he : e < p.length) (hn : p.length ≤ 32) :
    passEntry ⟨p.length, copyRows (3 * p.length) p.rows old⟩ e = passEntry p e := by
  unfold passEntry
  dsimp only
  rw [rowAt_copyRows _ _ (by omega) (by omega), rowAt_copyRows _ _ (by omega) (by omega),
    rowAt_copyRows _ _ (by omega) (by omega)]

/-- The active Pass Table after an activation, and the hits counted from 0 (R34). -/
theorem activateImage_pass (s : State) : activateImage .pass s =
    { s with store := { s.store with passActive := ⟨s.store.passPending.length,
               copyRows (3 * s.store.passPending.length) s.store.passPending.rows s.store.passActive.rows⟩ }
             pass := { s.pass with hits := List.replicate s.store.passPending.length 0 } } := rfl

theorem activateCopiesImage : Sys2Proof.Claim.ActivateCopiesImage := by
  intro f s table image hx hnamed hright hrun
  refine ⟨fun hi hvalid => ?_, fun k hi hlong => ?_⟩
  · subst hi
    obtain ⟨t, ht, hreplied, htraffic⟩ := activate_served hx hnamed hright hrun
      (by rw [activateCheck_pass, if_pos hvalid])
    rw [activateImage_pass] at htraffic
    have hentries := fun e => passEntry_copied s.store.passPending s.store.passActive.rows (e := e)
    exact ⟨t, ⟨_, copyRows _ _ s.store.passActive.rows⟩, ht, hreplied, rfl, hentries, htraffic⟩
  · subst hi
    exact activate_served hx hnamed hright hrun (if_neg (Nat.not_lt.mpr hlong))

/-- Settles O55: the pending length, and the pending image copied. -/
theorem pendingImagesSetAndActivated : Obligations.PendingImagesSetAndActivated := ⟨setLengthSetsPending, activateCopiesImage⟩

/-! ### FORCE-INDEX and RELEASE-INDEX (R68) -/

/-- Settles O59: one component is set, which respects traffic. -/
theorem forcedIndexSet : Obligations.ForcedIndexSet := by
  intro f s hclass hrun
  have hengineer : s.isEngineer f.src = true := (isEngineer_iff s f.src).mpr hclass
  refine ⟨fun hx hlen hn => ?_, fun hx => ?_⟩
  · have ha : RequestName.answer .forceIndex f s = refuse .done := by
      simp [RequestName.answer, answerForceIndex, decideRequest, hrun, Nat.not_lt.mpr hlen, hengineer, hn]
    exact request_done hx ha (fun u => .of_report rfl fun _ h _ => h) fun u hu => { hu with forcedIndex := rfl }
  · have ha : RequestName.answer .releaseIndex f s = refuse .done := by
      simp [RequestName.answer, answerReleaseIndex, decideRequest, hrun, hengineer]
    exact request_done hx ha (fun u => .of_report rfl fun _ h _ => h) fun u hu => { hu with forcedIndex := rfl }

/-! ### CLEAR-FLAGS (R186) -/

theorem OnlyTraffic.onHoist {s t : State} (h : OnlyTraffic s t) (k : HoistNo) {φ : Hoist → Hoist}
    (hφ : ∀ x, (φ x).exceptPhase = φ x.exceptPhase) : OnlyTraffic (s.onHoist k φ) (t.onHoist k φ) :=
  { h with
    hoists := fun j => by
      rw [State.hoist_onHoist, State.hoist_onHoist]
      split
      · rw [hφ, hφ, h.hoists]
      · exact h.hoists j }

theorem OnlyTraffic.onMonitor {s t : State} (h : OnlyTraffic s t) {φ : Monitor → Monitor}
    (hup : (φ t.monitor).up = (φ s.monitor).up) (hdown : (φ t.monitor).down = (φ s.monitor).down)
    (hhead : (φ t.monitor).head = (φ s.monitor).head) : OnlyTraffic (s.onMonitor φ) (t.onMonitor φ) :=
  { h with up := hup, down := hdown, head := hhead }

theorem OnlyTraffic.clearLoads {s t : State} (h : OnlyTraffic s t) (hs : List HoistNo) :
    OnlyTraffic (hs.foldl (fun acc k => acc.onHoist k clearLoadFlags) s)
      (hs.foldl (fun acc k => acc.onHoist k clearLoadFlags) t) := by
  induction hs generalizing s t with
  | nil => exact h
  | cons k hs ih => exact ih (h.onHoist k fun _ => rfl)

theorem OnlyTraffic.clearGroup {s t : State} (h : OnlyTraffic s t) (k : FlagGroup) :
    OnlyTraffic (clearGroup k s) (clearGroup k t) := by
  unfold Machine.clearGroup
  split
  · exact { h with requestLost := rfl, noticeLost := rfl }
  · exact h.onLevels _
  · exact h.onPass _
  · exact ((h.onGate _ _).onHoist _ (φ := clearRetries) fun _ => rfl).onHoist _ (φ := clearRetries) fun _ => rfl
  · exact h.onMonitor (congrArg Quantity.clearFlags h.up) h.down h.head
  · exact h.onMonitor h.up (congrArg Quantity.clearFlags h.down) h.head
  · exact h.onMonitor h.up h.down (congrArg Quantity.clearFlags h.head)
  · exact h.clearLoads allHoists

theorem clearGroup_keepsPlaced (k : FlagGroup) (s : State) : KeepsPlaced s (clearGroup k s) := by
  unfold clearGroup
  split
  case h_8 =>
    rw [foldl_onHoist _ _ allHoists_nodup]
    exact .of_report rfl fun _ h _ => h
  all_goals exact .of_report rfl fun _ h _ => h

/-- The retry flags of a gate's two hoists (R137, R186). -/
theorem clearGroup_gate (g : GateNo) (s : State) : clearGroup (.gate g) s =
    { s.onGate g (fun x => { x with rangeFlag := false }) with
      hoists := Vector.ofFn (fun h => if gateOf h = g then clearRetries (s.hoist h) else s.hoist h) } := by
  have hnodup : [leftHoist g, rightHoist g].Nodup := by simp [left_ne_right]
  have hfold := foldl_onHoist clearRetries _ hnodup (s.onGate g (fun x => { x with rangeFlag := false }))
  simp only [List.mem_cons, List.not_mem_nil, or_false, eq_leftHoist_or_rightHoist] at hfold
  exact hfold

theorem clearGroup_load (s : State) : clearGroup (.threshold .load) s =
    { s with hoists := Vector.ofFn (fun h => clearLoadFlags (s.hoist h)) } := by
  unfold clearGroup
  dsimp only
  rw [foldl_onHoist _ _ allHoists_nodup]
  simp only [mem_allHoists, if_true]

/-- Settles O56: the flags of one group are cleared, which respects traffic. -/
theorem clearFlagsClearsGroup : Obligations.ClearFlagsClearsGroup := by
  intro f s k hx hread hright hdevice
  have hm : ¬RequestName.Malformed .clearFlags f := fun h => by
    rw [Option.isNone_iff_eq_none.mp ((readClearFlags_isNone f).mpr h)] at hread
    cases hread
  have htaken : s.sup.device = .run ∨ (s.sup.device = .lockout ∧ RequestName.TakenInLockout .clearFlags) := by
    cases h : s.sup.device
    case run => exact .inl rfl
    case lockout => exact .inr ⟨rfl, .inr (.inr (.inl rfl))⟩
    case drain => exact absurd h hdevice
  have ha : RequestName.answer .clearFlags f s = refuse .done :=
    answer_of_taken hm ((mayOrder_iff s f.src).mp hright) htaken (by simp)
  have heffect : ∀ u, effectClearFlags f u = clearGroup k u := fun u => by unfold effectClearFlags; rw [hread]
  obtain ⟨t, ht, hreplied, htraffic⟩ := request_done hx ha
    (fun u => by change KeepsPlaced u (effectClearFlags f u); rw [heffect]; exact clearGroup_keepsPlaced k u)
    (fun u hu => by
      change OnlyTraffic (effectClearFlags f s) (effectClearFlags f u)
      rw [heffect, heffect]
      exact hu.clearGroup k)
  have hcleared : OnlyTraffic (clearGroup k s) t := by rw [← heffect]; exact htraffic
  refine ⟨t, ht, hreplied, ?_, request_faultLine hx ht⟩
  cases k with
  | gate g => rw [clearGroup_gate] at hcleared; exact hcleared
  | threshold c =>
    cases c with
    | load => rw [clearGroup_load] at hcleared; exact hcleared
    | _ => exact hcleared
  | _ => exact hcleared

end Sys2Proof.Machine
end

section
/-!
PROOFS. Rows: what addresses name them, which writes are taken, and what a taken write stores (R182, R192).
-/

namespace Sys2Proof.Machine

/-! ### Rows written read back (R182) -/

/-- A row of a table after a write. -/
theorem rowAt_storeRows_of_lt {n : Nat} (v : Vector Word n) (o : WriteRows) {r : Nat} (hr : r < n) :
    rowAt (storeRows v o.start o.values) r = o.resulting (rowAt v) r := by
  rw [rowAt_storeRows]
  simp only [WriteRows.resulting, hr, and_true]

theorem writtenRowsReadBack : Sys2Proof.Claim.WrittenRowsReadBack := by
  intro n v start values r hr
  rw [rowAt_storeRows]
  simp only [hr, and_true]

/-! ### Row addresses (R192) -/

/-- The address of a table's row 0 (11.2). -/
def Table.base : Table → Nat
  | .control => 0 | .access => 16 | .stations => 32 | .hoistMap => 288 | .pass => 304 | .thresholds => 400
  | .gate g => 432 + 16 * g.val | .header n => 560 + 8 * n.val | .rows n => 640 + 64 * n.val

theorem row_of_address {a : Nat} {table : Table} {row : Nat} (h : tableOfAddress a = some (table, row)) :
    row < table.capacity ∧ a = table.base + row := by
  unfold tableOfAddress at h
  simp only [ite_eq_iff, reduceCtorEq, and_false, or_false, false_or, Option.some.injEq, Prod.mk.injEq] at h
  rcases h with ⟨h1, rfl, rfl⟩ | ⟨h1, ⟨h2, h3, rfl, rfl⟩ | ⟨h2, h3, ⟨h4, rfl, rfl⟩ | ⟨h4, h5, ⟨h6, rfl, rfl⟩ | ⟨h6,
    ⟨h7, rfl, rfl⟩ | ⟨h7, ⟨h8, rfl, rfl⟩ | ⟨h8, h9, ⟨h10, h11, rfl, rfl⟩ | ⟨h10, ⟨h11, h12, rfl, rfl⟩ |
    ⟨h11, h12, h13, rfl, rfl⟩⟩⟩⟩⟩⟩⟩⟩
  all_goals
    dsimp only [Table.capacity, Table.base, Fin.ofNat]
    omega

theorem tableOfAddress_gates {a : Nat} (hlow : 432 ≤ a) (hhigh : a < 560) : tableOfAddress a =
    if (a - 432) % 16 < 12 then some (.gate (Fin.ofNat 8 ((a - 432) / 16)), (a - 432) % 16) else none := by
  unfold tableOfAddress
  iterate 9 rw [if_neg (by omega)]
  rw [if_pos hhigh]

theorem tableOfAddress_headers {a : Nat} (hlow : 560 ≤ a) (hhigh : a < 592) : tableOfAddress a =
    if (a - 560) % 8 < 6 then some (.header (Fin.ofNat 4 ((a - 560) / 8)), (a - 560) % 8) else none := by
  unfold tableOfAddress
  iterate 10 rw [if_neg (by omega)]
  rw [if_pos hhigh]

theorem tableOfAddress_rows {a : Nat} (hlow : 640 ≤ a) (hhigh : a < 896) : tableOfAddress a =
    some (.rows (Fin.ofNat 4 ((a - 640) / 64)), (a - 640) % 64) := by
  unfold tableOfAddress
  iterate 12 rw [if_neg (by omega)]
  rw [if_pos hhigh]

theorem address_of_row {table : Table} {row : Nat} (h : row < table.capacity) :
    tableOfAddress (table.base + row) = some (table, row) := by
  cases table with
  | gate g =>
    change row < 12 at h
    change tableOfAddress (432 + 16 * g.val + row) = _
    have hn : (432 + 16 * g.val + row - 432) / 16 = g.val := by omega
    have hr : (432 + 16 * g.val + row - 432) % 16 = row := by omega
    rw [tableOfAddress_gates (by omega) (by omega), hn, hr, if_pos h, Fin.ofNat_val_eq_self]
  | header n =>
    change row < 6 at h
    change tableOfAddress (560 + 8 * n.val + row) = _
    have hn : (560 + 8 * n.val + row - 560) / 8 = n.val := by omega
    have hr : (560 + 8 * n.val + row - 560) % 8 = row := by omega
    rw [tableOfAddress_headers (by omega) (by omega), hn, hr, if_pos h, Fin.ofNat_val_eq_self]
  | rows n =>
    change row < 64 at h
    change tableOfAddress (640 + 64 * n.val + row) = _
    have hn : (640 + 64 * n.val + row - 640) / 64 = n.val := by omega
    have hr : (640 + 64 * n.val + row - 640) % 64 = row := by omega
    rw [tableOfAddress_rows (by omega) (by omega), hn, hr, Fin.ofNat_val_eq_self]
  | _ => grind [tableOfAddress, Table.base, Table.capacity]

theorem rowAddressNamesTable : Sys2Proof.Claim.RowAddressNamesTable := by
  refine ⟨fun a table row => ⟨row_of_address, fun ⟨hrow, ha⟩ => ?_⟩, fun f s => ⟨fun hnone => ⟨?_, ?_⟩, fun o ho hright hlong => ?_,
    fun o ho hright hrun hlong => ?_⟩⟩
  · rw [ha]
    exact address_of_row hrow
  · exact (refusedInThisOrder .readRows f s).1 (.inr (.inr (.inr hnone)))
  · exact (refusedInThisOrder .writeRows f s).1 (.inr hnone)
  · simp [answerReadRows, ho, decideRequest, hright, readRowsAnswer, hlong]
    cases s.sup.device <;> rfl
  · simp [answerWriteRows, ho, decideRequest, hright, hrun, writeCheck, hlong]

/-- Settles O60: addresses name rows one to one, and rows written read back. -/
theorem rowsAddressedAndStored : Obligations.RowsAddressedAndStored := ⟨rowAddressNamesTable, writtenRowsReadBack⟩

end Sys2Proof.Machine
end

section
/-!
PROOFS. Which writes are taken (R182): the checks of each table, as its chapter states them.
-/

namespace Sys2Proof.Machine

theorem inRange_iff (lo hi x : Int) : inRange lo hi x = true ↔ lo ≤ x ∧ x ≤ hi := by
  simp [inRange]

/-! ### The checks of a table's values -/

theorem addressAllowed_iff (s : State) (w : Word) : addressAllowed s.ring.own w = true ↔ s.AddressTaken w := by
  unfold addressAllowed State.AddressTaken
  rw [Bool.and_eq_true, decide_eq_true_iff, decide_eq_true_iff]
  refine and_congr_right fun hw => not_congr ⟨fun h => ?_, fun h => ?_⟩
  · rw [← h]
    apply BitVec.eq_of_toNat_eq
    simp [addressOf]
    omega
  · rw [h]
    apply BitVec.eq_of_toNat_eq
    simpa [addressOf] using s.ring.own.isLt

theorem recordInRange_iff (r : Vector Word 12) : recordInRange r = true ↔ RecordTaken (rowAt r) := by
  unfold recordInRange RecordTaken
  simp only [Bool.and_eq_true, inRange_iff, lowerLimit, upperLimit, trimOffset, arrivalTolerance, trimThreshold, trimRelease,
    skewAlarm, rowAt_getElem r (show 0 < 12 by decide), rowAt_getElem r (show 1 < 12 by decide),
    rowAt_getElem r (show 2 < 12 by decide), rowAt_getElem r (show 3 < 12 by decide),
    rowAt_getElem r (show 4 < 12 by decide), rowAt_getElem r (show 5 < 12 by decide),
    rowAt_getElem r (show 6 < 12 by decide), rowAt_getElem r (show 7 < 12 by decide),
    rowAt_getElem r (show 8 < 12 by decide), rowAt_getElem r (show 9 < 12 by decide)]
  omega

theorem headerInRange_iff {r : Nat} (w : Word) (hr : r < 6) : headerInRange r w = true ↔ HeaderRowTaken r w := by
  unfold HeaderRowTaken
  rcases r with _ | _ | _ | _ | _ | _ | r
  case succ.succ.succ.succ.succ.succ => omega
  all_goals simp [headerInRange, inRange_iff]

theorem accessInRange_iff {r : Nat} (w : Word) (hr : r < 12) :
    accessInRange r w = true ↔ if r < 6 then w.toNat ≤ 1 else w.toNat ≤ 3 := by
  unfold accessInRange
  rw [if_pos hr]
  split <;> exact decide_eq_true_iff

theorem thresholdRowInRange_iff {r : Nat} (w : Word) (hr : r < 19) :
    thresholdRowInRange r w = true ↔ (r = 16 ∨ r = 17 → w.toNat < 16) ∧ (r = 18 → w.toNat ≤ 60000) := by
  unfold thresholdRowInRange
  split_ifs <;> simp <;> omega

theorem masked_small : ∀ n, n < 64 → (n &&& 51 = n ↔ n / 4 % 4 = 0) := by decide

/-- A word within two fields of row 9 of the Control Record (R184). -/
theorem masked_iff (w : Word) : (w &&& 0b110011#16) = w ↔ w.toNat < 64 ∧ field w 2 2 = 0 := by
  have hmask : (w &&& 0b110011#16) = w ↔ w.toNat &&& 51 = w.toNat := by
    rw [← BitVec.toNat_inj]
    exact Iff.rfl
  rw [hmask]
  constructor
  · intro h
    have hsmall : w.toNat < 64 := lt_of_le_of_lt (h ▸ Nat.and_le_right) (by decide)
    exact ⟨hsmall, (masked_small _ hsmall).mp h⟩
  · exact fun ⟨hsmall, h⟩ => (masked_small _ hsmall).mpr h

theorem each_five {p : Nat → Prop} : (∀ r, r < 5 → p r) ↔ p 0 ∧ p 1 ∧ p 2 ∧ p 3 ∧ p 4 := by
  refine ⟨fun h => ⟨h 0 (by decide), h 1 (by decide), h 2 (by decide), h 3 (by decide), h 4 (by decide)⟩, fun h r hr => ?_⟩
  obtain ⟨h0, h1, h2, h3, h4⟩ := h
  rcases r with _ | _ | _ | _ | _ | r
  all_goals first | assumption | omega

theorem controlInRange_iff (s : State) (t : Vector Word 16) :
    controlInRange s.ring.own t = true ↔ s.ControlTaken (rowAt t) := by
  unfold controlInRange State.ControlTaken
  rw [each_five]
  simp only [Bool.and_eq_true, Bool.or_eq_true, decide_eq_true_iff, inRange_iff, addressAllowed_iff, masked_iff,
    rowAt_getElem t (show 0 < 16 by decide), rowAt_getElem t (show 1 < 16 by decide), rowAt_getElem t (show 2 < 16 by decide),
    rowAt_getElem t (show 3 < 16 by decide), rowAt_getElem t (show 4 < 16 by decide), rowAt_getElem t (show 5 < 16 by decide),
    rowAt_getElem t (show 6 < 16 by decide), rowAt_getElem t (show 7 < 16 by decide), rowAt_getElem t (show 8 < 16 by decide),
    rowAt_getElem t (show 9 < 16 by decide), rowAt_getElem t (show 10 < 16 by decide),
    rowAt_getElem t (show 11 < 16 by decide), rowAt_getElem t (show 12 < 16 by decide),
    rowAt_getElem t (show 13 < 16 by decide), rowAt_getElem t (show 15 < 16 by decide)]
  have hzero : t[11] = 0#16 ↔ t[11].toNat = 0 := (eq_iff_toNat_eq _ 0 (by decide)).symm
  rw [hzero]
  simp only [and_assoc]
  iterate 5 refine and_congr_right' ?_
  omega

theorem stationsInRange_iff (t : Vector Word 254) : stationsInRange t = true ↔
    (∀ r, r < 254 → (rowAt t r).toNat ≤ 3) ∧ ∃ r, r < 254 ∧ rowAt t r = 3#16 := by
  unfold stationsInRange
  rw [Bool.and_eq_true, List.all_eq_true, List.any_eq_true]
  simp only [decide_eq_true_iff, Vector.mem_toList_iff, Vector.mem_iff_getElem]
  refine and_congr ⟨fun h r hr => ?_, fun h w ⟨r, hr, hw⟩ => ?_⟩ ⟨fun ⟨w, ⟨r, hr, hw⟩, h⟩ => ?_, fun ⟨r, hr, h⟩ => ?_⟩
  · rw [rowAt_getElem t hr]
    exact h _ ⟨r, hr, rfl⟩
  · rw [← hw, ← rowAt_getElem t hr]
    exact h r hr
  · exact ⟨r, hr, by rw [rowAt_getElem t hr, hw, h]⟩
  · exact ⟨_, ⟨r, hr, rfl⟩, by rw [← rowAt_getElem t hr, h]⟩

/-! ### The rows that would result -/

theorem controlTaken_congr {s : State} {row row' : Nat → Word} (h : ∀ r, r < 16 → row r = row' r) :
    s.ControlTaken row ↔ s.ControlTaken row' := by
  unfold State.ControlTaken
  rw [each_five, each_five]
  simp only [h 0 (by decide), h 1 (by decide), h 2 (by decide), h 3 (by decide), h 4 (by decide), h 5 (by decide),
    h 6 (by decide), h 7 (by decide), h 8 (by decide), h 9 (by decide), h 10 (by decide), h 11 (by decide),
    h 12 (by decide), h 13 (by decide), h 15 (by decide)]

theorem recordTaken_congr {row row' : Nat → Word} (h : ∀ r, r < 12 → row r = row' r) :
    RecordTaken row ↔ RecordTaken row' := by
  unfold RecordTaken
  simp only [h 0 (by decide), h 1 (by decide), h 2 (by decide), h 3 (by decide), h 4 (by decide), h 5 (by decide),
    h 6 (by decide), h 7 (by decide), h 8 (by decide), h 9 (by decide)]

theorem covers_iff (o : WriteRows) (r : Nat) : o.covers r = true ↔ o.start ≤ r ∧ r < o.start + o.values.length := by
  simp [WriteRows.covers]

/-- A write within its table reaches beyond row 9 exactly when it covers row 10 or 11 (R82). -/
theorem covers_end_iff {o : WriteRows} (hvalues : 0 < o.values.length) (hcap : o.start + o.values.length ≤ 12) :
    (o.covers 10 || o.covers 11) = true ↔ 10 < o.start + o.values.length := by
  rw [Bool.or_eq_true, covers_iff, covers_iff]
  omega

theorem recordWritable_iff (x : Gate) :
    x.recordWritable = true ↔ x.mode = .off ∨ x.motion = .idle ∨ x.motion = .faulted := by
  simp [Gate.recordWritable, or_assoc]

theorem hoistsOff_iff (s : State) (o : WriteRows) : s.hoistsOff o = true ↔
    ∀ h : HoistNo, o.start ≤ h.val → h.val < o.start + o.values.length → (s.gate (gateOf h)).mode = .off := by
  unfold State.hoistsOff
  rw [List.all_eq_true]
  refine forall_congr' fun h => ⟨fun hall hlow hhigh => ?_, fun hall _ => ?_⟩
  · have := hall (mem_allHoists h)
    rw [(covers_iff o h.val).mpr ⟨hlow, hhigh⟩] at this
    simpa using this
  · by_cases hc : o.covers h.val = true
    · obtain ⟨hlow, hhigh⟩ := (covers_iff o h.val).mp hc
      simp [hall hlow hhigh]
    · simp [hc]

/-! ### Which writes are taken (R182) -/

/-- The values of a write within its limit pass the table's own checks. -/
def WriteRows.passes (o : WriteRows) (s : State) : Bool :=
  match o.table with
  | .control => controlInRange s.ring.own (storeRows s.store.control o.start o.values)
  | .access => o.each accessInRange
  | .stations => stationsInRange (storeRows s.store.stations o.start o.values)
  | .hoistMap => o.each (fun _ w => addressAllowed s.ring.own w)
  | .pass => true
  | .thresholds => o.each thresholdRowInRange
  | .gate g => recordInRange (storeRows (s.record g) o.start o.values)
  | .header _ => o.each headerInRange
  | .rows _ => o.each (fun _ w => decide (w.toNat ≤ 12000))

/-- A check of each value is a check of the rows covered, all within the limit. -/
theorem each_iff_of_limit {o : WriteRows} {check : Nat → Word → Bool} {p : Nat → Word → Prop}
    (h : ∀ r w, r < o.limit → (check r w = true ↔ p r w)) (hfits : o.start + o.values.length ≤ o.limit) :
    o.each check = true ↔ o.Each p := by
  rw [each_iff]
  exact forall₂_congr fun k hk => h _ _ (by omega)

theorem passes_iff {o : WriteRows} {s : State} (hfits : o.start + o.values.length ≤ o.limit) :
    o.passes s = true ↔ s.ValuesTaken o := by
  unfold WriteRows.passes State.ValuesTaken
  cases ht : o.table with
  | control =>
    dsimp only
    rw [controlInRange_iff]
    exact controlTaken_congr fun r hr => rowAt_storeRows_of_lt _ o hr
  | stations =>
    dsimp only
    rw [stationsInRange_iff]
    refine and_congr (forall₂_congr fun r hr => ?_) (exists_congr fun r => and_congr_right fun hr => ?_)
    all_goals rw [rowAt_storeRows_of_lt _ o hr]
  | gate g =>
    dsimp only
    rw [recordInRange_iff]
    exact recordTaken_congr fun r hr => rowAt_storeRows_of_lt _ o hr
  | pass => exact ⟨fun _ => trivial, fun _ => rfl⟩
  | access =>
    exact each_iff_of_limit (fun r w hr => accessInRange_iff w (by simpa [WriteRows.limit, ht] using hr)) hfits
  | hoistMap => exact each_iff_of_limit (fun r w _ => addressAllowed_iff s w) hfits
  | thresholds =>
    exact each_iff_of_limit (fun r w hr => thresholdRowInRange_iff w (by simpa [WriteRows.limit, ht] using hr)) hfits
  | header n =>
    exact each_iff_of_limit (fun r w hr => headerInRange_iff w (by simpa [WriteRows.limit, ht] using hr)) hfits
  | rows n => exact each_iff_of_limit (fun r w _ => decide_eq_true_iff) hfits

theorem limit_le_capacity (o : WriteRows) : o.limit ≤ o.table.capacity := by
  unfold WriteRows.limit Table.capacity
  cases o.table <;> simp

/-- A write of the Access Record that reaches a count is out of range (R178). -/
theorem access_of_long {o : WriteRows} (hvalues : 0 < o.values.length) (h : 12 < o.start + o.values.length) :
    o.each accessInRange = false := by
  refine Bool.eq_false_iff.mpr fun hall => ?_
  have hlast := (each_iff o accessInRange).mp hall (o.values.length - 1) (by omega)
  unfold accessInRange at hlast
  rw [if_neg (by omega), if_neg (by omega)] at hlast
  cases hlast

/-- A write beyond the limit of its table is refused with RANGE. -/
theorem writeCheck_of_long {o : WriteRows} {s : State} (hvalues : 0 < o.values.length)
    (h : ¬o.start + o.values.length ≤ o.limit) : writeCheck o s = .range := by
  unfold writeCheck
  split
  · rfl
  next hcap =>
    unfold WriteRows.limit at h
    cases ht : o.table with
    | access =>
      rw [ht] at h
      dsimp only at h ⊢
      rw [access_of_long hvalues (Nat.not_le.mp h), if_neg Bool.false_ne_true]
    | gate g =>
      rw [ht] at h hcap
      dsimp only at h ⊢
      rw [if_pos ((covers_end_iff hvalues (Nat.not_lt.mp hcap)).mpr (Nat.not_le.mp h))]
    | _ =>
      rw [ht] at h hcap
      exact absurd (Nat.not_lt.mp hcap) h

/-- A write within the limit: BUSY where a gate bars it, and otherwise as its values pass (R83, R86, R182). -/
theorem writeCheck_of_fits {o : WriteRows} {s : State} (hvalues : 0 < o.values.length)
    (hfits : o.start + o.values.length ≤ o.limit) :
    (s.WriteBarred o → writeCheck o s = .busy) ∧
      (¬s.WriteBarred o → writeCheck o s = if o.passes s then .done else .range) := by
  have hcap : ¬o.table.capacity < o.start + o.values.length := Nat.not_lt.mpr (hfits.trans (limit_le_capacity o))
  unfold writeCheck State.WriteBarred WriteRows.passes
  rw [if_neg hcap]
  unfold WriteRows.limit at hfits
  cases ht : o.table with
  | hoistMap =>
    dsimp only
    have hoff := hoistsOff_iff s o
    refine ⟨fun ⟨h, hlow, hhigh, hmode⟩ => if_neg fun hall => hmode (hoff.mp hall h hlow hhigh), fun hnot => if_pos ?_⟩
    exact hoff.mpr fun h hlow hhigh => not_not.mp fun hmode => hnot ⟨h, hlow, hhigh, hmode⟩
  | gate g =>
    rw [ht] at hfits hcap
    dsimp only at hfits ⊢
    rw [if_neg (mt (covers_end_iff hvalues (Nat.not_lt.mp hcap)).mp (Nat.not_lt.mpr hfits))]
    have hwritable := recordWritable_iff (s.gate g)
    refine ⟨fun ⟨hmode, hidle, hfaulted⟩ => if_pos ?_, fun hnot => if_neg ?_⟩
    · rw [Bool.not_eq_true', ← Bool.not_eq_true, hwritable]
      exact fun h => h.elim hmode fun h => h.elim hidle hfaulted
    · rw [Bool.not_eq_true', ← Bool.not_eq_true, hwritable, not_not]
      by_contra h
      exact hnot ⟨fun e => h (.inl e), fun e => h (.inr (.inl e)), fun e => h (.inr (.inr e))⟩
  | pass => exact ⟨False.elim, fun _ => rfl⟩
  | _ => exact ⟨False.elim, fun _ => rfl⟩

theorem values_of_readWriteRows {f : Frame} {o : WriteRows} (h : readWriteRows f = some o) : 0 < o.values.length := by
  rw [(readWriteRows_address h).2, List.length_tail]
  unfold readWriteRows at h
  split at h
  · omega
  · cases h

theorem answerWriteRows_of_run {f : Frame} {s : State} {o : WriteRows} (h : readWriteRows f = some o)
    (hright : s.mayWrite f.src o.table = true) (hrun : s.sup.device = .run) :
    RequestName.answer .writeRows f s = refuse (writeCheck o s) := by
  change answerWriteRows f s = _
  simp [answerWriteRows, h, decideRequest, hright, hrun]

/-- Settles O53: the order of the checks of a gate record's write. -/
theorem gateRecordWriteChecked : Obligations.GateRecordWriteChecked := by
  intro o g s ht hvalues
  have hlimit : o.limit = 10 := by unfold WriteRows.limit; rw [ht]
  have hpasses : o.passes s = recordInRange (storeRows (s.record g) o.start o.values) := by
    unfold WriteRows.passes; rw [ht]
  have hbarred : s.WriteBarred o ↔ (s.gate g).mode ≠ .off ∧ (s.gate g).motion ≠ .idle ∧ (s.gate g).motion ≠ .faulted := by
    unfold State.WriteBarred; rw [ht]
  have hlong : 10 < o.start + o.values.length → writeCheck o s = .range := fun h =>
    writeCheck_of_long hvalues (by rw [hlimit]; omega)
  have hfits (h : o.start + o.values.length ≤ 10) := writeCheck_of_fits (s := s) hvalues (hlimit.symm ▸ h)
  rw [hbarred, hpasses] at hfits
  have hfree : ¬((s.gate g).mode ≠ .off ∧ (s.gate g).motion ≠ .idle ∧ (s.gate g).motion ≠ .faulted) ↔
      ((s.gate g).mode = .off ∨ (s.gate g).motion = .idle ∨ (s.gate g).motion = .faulted) := by tauto
  rw [hfree] at hfits
  refine ⟨⟨fun hdone => ?_, fun ⟨hlen, hwritable, hrange⟩ => ?_⟩, hlong, fun hlen hmode hmotion => ?_,
    fun hlen hwritable hrange => ?_⟩
  · have hlen : o.start + o.values.length ≤ 10 := Nat.not_lt.mp fun h => by rw [hlong h] at hdone; cases hdone
    obtain ⟨hbusy, htaken⟩ := hfits hlen
    have hwritable := hfree.mp fun h => by rw [hbusy h] at hdone; cases hdone
    refine ⟨hlen, hwritable, ?_⟩
    rw [htaken hwritable] at hdone
    by_contra hrange
    rw [if_neg hrange] at hdone
    cases hdone
  · rw [(hfits hlen).2 hwritable, if_pos hrange]
  · refine (hfits hlen).1 ⟨hmode, ?_, ?_⟩ <;> rintro h <;> simp [Gate.inFlight, h] at hmotion
  · rw [(hfits hlen).2 hwritable, hrange, if_neg Bool.false_ne_true]

theorem writeTable_keepsPlaced (o : WriteRows) (s : State) : KeepsPlaced s (writeTable o s) := by
  by_cases htable : o.table = .control
  · rw [writeTable_control s htable]
    refine KeepsPlaced.trans ?_ (writeControl_events o s).keepsPlaced
    exact .of_report rfl fun _ h _ => h
  · have hstore := writeTable_storeOnly s htable
    exact .of_report hstore.ring fun _ h _ => by rw [hstore.req]; exact h

theorem effectWriteRows_keepsPlaced (f : Frame) (s : State) : KeepsPlaced s (effectWriteRows f s) := by
  unfold effectWriteRows
  split
  · exact writeTable_keepsPlaced _ s
  · exact .refl s

/-- Which writes are taken: the limit, then the gates that bar, then the values. -/
theorem writeDecidedByTable : Sys2Proof.Claim.WriteDecidedByTable := by
  intro f s o hx ho hright hrun
  have hvalues := values_of_readWriteRows ho
  have ha := answerWriteRows_of_run ho hright hrun
  have refused : ∀ {x : Result}, writeCheck o s = x → x ≠ .done →
      ∃ t, exec .writeRows s = .next t ∧ t.Replied f (refuse x) ∧ OnlyTraffic s t := fun hcheck hne =>
    request_refused hx (by rw [ha, hcheck]) hne
  dsimp only
  by_cases hfits : o.start + o.values.length ≤ o.limit
  case neg =>
    obtain ⟨t, ht, hreplied, htraffic⟩ := refused (writeCheck_of_long (s := s) hvalues hfits) nofun
    exact ⟨t, ht, fun _ => ⟨hreplied, htraffic⟩, fun h => absurd h hfits, fun h => absurd h hfits, fun h => absurd h hfits⟩
  obtain ⟨hbusy, htaken⟩ := writeCheck_of_fits (s := s) hvalues hfits
  have hpasses := passes_iff (s := s) hfits
  by_cases hbarred : s.WriteBarred o
  case pos =>
    obtain ⟨t, ht, hreplied, htraffic⟩ := refused (hbusy hbarred) nofun
    exact ⟨t, ht, fun h => absurd hfits h, fun _ _ => ⟨hreplied, htraffic⟩, fun _ h => absurd hbarred h,
      fun _ h => absurd hbarred h⟩
  by_cases hvalid : s.ValuesTaken o
  case neg =>
    obtain ⟨t, ht, hreplied, htraffic⟩ := refused ((htaken hbarred).trans (if_neg (mt hpasses.mp hvalid))) nofun
    exact ⟨t, ht, fun h => absurd hfits h, fun _ h => absurd h hbarred, fun _ _ _ => ⟨hreplied, htraffic⟩,
      fun _ _ h => absurd h hvalid⟩
  have hdone : writeCheck o s = .done := by rw [htaken hbarred, if_pos (hpasses.mpr hvalid)]
  have hreplied := serve_replied_of_done (effect := effectWriteRows) hx (ha.trans (congrArg refuse hdone)) (fun u =>
    effectWriteRows_keepsPlaced f u)
  exact ⟨_, exec_command .writeRows s, fun h => absurd hfits h, fun _ h => absurd h hbarred, fun _ _ h => absurd hvalid h,
    fun _ _ _ => hreplied⟩

/-! ### What a taken write stores (R182) -/

theorem OnlyTraffic.writeTable {s t : State} (h : OnlyTraffic s t) {o : WriteRows} (htable : o.table ≠ .control) :
    OnlyTraffic (writeTable o s) (writeTable o t) := by
  unfold Machine.writeTable
  cases ht : o.table with
  | control => exact absurd ht htable
  | hoistMap =>
    dsimp only
    rw [writeHoistMap_eq, writeHoistMap_eq]
    dsimp only
    refine { h.onStore fun u => { u with hoistMap := storeRows s.store.hoistMap o.start o.values } with
      store := by simp [h.store], hoists := fun k => ?_ }
    simp only [State.hoist, Vector.getElem_ofFn, h.store, h.driveOf]
    split
    · exact h.hoists k
    · exact congrArg Hoist.remapped (h.hoists k)
  | gate g =>
    dsimp only
    unfold writeGateRecord
    rw [h.record]
    exact h.onStore _
  | access =>
    dsimp only
    unfold writeAccess
    rw [h.store]
    exact h.onStore _
  | stations => exact h.onStore _
  | pass => exact h.onStore _
  | thresholds => exact h.onStore _
  | header n => exact h.onSchedule n _
  | rows n => exact h.onSchedule n _

theorem writeRows_served {f : Frame} {s : State} {o : WriteRows} (hx : s.Executing .writeRows f)
    (ho : readWriteRows f = some o) (hright : s.mayWrite f.src o.table = true) (hrun : s.sup.device = .run)
    (hcheck : writeCheck o s = .done) (htable : o.table ≠ .control) :
    ∃ t, exec .writeRows s = .next t ∧ t.Replied f (refuse .done) ∧ OnlyTraffic (writeTable o s) t := by
  have heffect : ∀ u, effectWriteRows f u = writeTable o u := fun u => by unfold effectWriteRows; rw [ho]
  have ha := (answerWriteRows_of_run ho hright hrun).trans (congrArg refuse hcheck)
  obtain ⟨t, ht, hreplied, htraffic⟩ := request_done hx ha (effectWriteRows_keepsPlaced f) (fun u hu => by
    change OnlyTraffic (effectWriteRows f s) (effectWriteRows f u)
    rw [heffect, heffect]
    exact hu.writeTable htable)
  exact ⟨t, ht, hreplied, by rw [← heffect]; exact htraffic⟩

theorem takenWriteStoresRows : Sys2Proof.Claim.TakenWriteStoresRows := by
  intro f s o hx ho hright hrun hcheck hcontrol hmap
  obtain ⟨t, ht, hreplied, htraffic⟩ := writeRows_served hx ho hright hrun hcheck hcontrol
  refine ⟨t, ht, hreplied, ?_⟩
  unfold writeTable at htraffic
  cases htable : o.table with
  | control => exact absurd htable hcontrol
  | hoistMap => exact absurd htable hmap
  | _ => rw [htable] at htraffic; exact htraffic

/-- Settles O51: which writes are taken, and the rows a taken one stores. -/
theorem writeRowsStoresRows : Obligations.WriteRowsStoresRows := ⟨writeDecidedByTable, takenWriteStoresRows⟩

/-! ### The Control Record and the Hoist Map (R53, R86) -/

/-- The Level Unit once the channels of `cs` are rebound and their sides recomputed (R53). -/
def LevelUnit.rebound (cs : List ChannelName) (l : LevelUnit) : LevelUnit :=
  (l.mapChannels (fun _ _ => Channel.reset) cs).recomputedFor cs

/-- A taken write of the Control Record but for its notices (R53, R184). -/
def State.controlWritten (o : WriteRows) (s : State) : State :=
  let after := storeRows s.store.control o.start o.values
  (s.onStore (fun t => { t with control := after })).onLevels (LevelUnit.rebound (changedBindings s.store.control after))

theorem writeControl_notices (o : WriteRows) (s : State) : OnlyNotices (s.controlWritten o) (writeControl o s) := by
  unfold writeControl rebindChannels
  dsimp only
  rw [foldl_rebindChannel, recomputeSides_eq]
  exact (notifySide_notices _ _ _).trans (notifySide_notices _ _ _)

theorem OnlyTraffic.controlWritten {s t : State} (h : OnlyTraffic s t) (o : WriteRows) :
    OnlyTraffic (s.controlWritten o) (t.controlWritten o) := by
  unfold State.controlWritten
  dsimp only
  rw [h.store]
  exact (h.onStore _).onLevels _

theorem mem_changedBindings (before after : Vector Word 16) (c : ChannelName) :
    c ∈ changedBindings before after ↔ binding after c ≠ binding before c := by
  have hall : c ∈ allChannels := by cases c <;> decide
  unfold changedBindings
  rw [List.mem_filter, decide_eq_true_iff]
  exact ⟨fun h e => h.2 e.symm, fun h => ⟨hall, fun e => h e.symm⟩⟩

theorem channel_rebound {cs : List ChannelName} (hcs : cs.Nodup) (l : LevelUnit) (c : ChannelName) :
    (l.rebound cs).channel c = if c ∈ cs then Channel.reset else l.channel c := by
  unfold LevelUnit.rebound
  rw [channel_recomputedFor, channel_mapChannels _ hcs]

theorem side_rebound (cs : List ChannelName) (l : LevelUnit) (n : SideName) :
    (l.rebound cs).side n = { l.side n with state := ((l.rebound cs).side n).state } ∧
      (reaches cs n = true → ((l.rebound cs).side n).state = (l.rebound cs).sideState n) := by
  unfold LevelUnit.rebound
  rw [side_recomputedFor, sideState_recomputedFor, side_mapChannels]
  refine ⟨?_, fun h => ?_⟩
  · split <;> rfl
  · rw [if_pos h]

/-- Settles O52: channels and hoists rebound by a taken write. -/
theorem writeRowsRebinds : Obligations.WriteRowsRebinds := by
  intro f s o hx ho hright hrun hcheck
  refine ⟨fun htable => ?_, fun htable => ?_⟩
  · have ha : answerWriteRows f s = refuse .done :=
      (answerWriteRows_of_run ho hright hrun).trans (congrArg refuse hcheck)
    have ht : exec .writeRows s = .next (serve .writeRows answerWriteRows effectWriteRows s) := rfl
    have hreplied := serve_replied_of_done (effect := effectWriteRows) hx ha (effectWriteRows_keepsPlaced f)
    have hline := request_faultLine hx ht
    have hserved : OnlyNotices (s.controlWritten o) (serve .writeRows answerWriteRows effectWriteRows s) := by
      rw [serve_of_done hx ha]
      have heffect : ∀ u, effectWriteRows f u = writeControl o u := fun u => by
        unfold effectWriteRows; rw [ho]; exact writeTable_control u htable
      rw [heffect]
      refine (((placeReply_traffic f (refuse .done) s).controlWritten o).onlyNotices.trans (writeControl_notices o _)).trans ?_
      exact ((endExecution_traffic _).trans (settle_traffic _)).onlyNotices
    have hnodup := changedBindings_nodup s.store.control (storeRows s.store.control o.start o.values)
    refine ⟨_, ht, hreplied, hserved.store, hserved.gates, hserved.sup, hline, fun c => ?_, fun n => ?_, ?_⟩
    all_goals rw [hserved.levels]
    · refine (channel_rebound hnodup s.levels c).trans ?_
      simp only [mem_changedBindings, ite_not]
      rfl
    · obtain ⟨hside, hstate⟩ := side_rebound (changedBindings s.store.control (storeRows s.store.control o.start o.values))
        s.levels n
      refine ⟨hside, fun ⟨c, hc, hchanged⟩ => hstate ((reaches_iff _ n).mpr ⟨c, (mem_changedBindings _ _ c).mpr hchanged, hc⟩)⟩
    · exact (head_recomputedFor _ _).trans (head_mapChannels _ _ _)
  · obtain ⟨t, ht, hreplied, htraffic⟩ := writeRows_served hx ho hright hrun hcheck (by rw [htable]; nofun)
    have hwritten : writeTable o s = writeHoistMap o s := by unfold writeTable; rw [htable]
    rw [hwritten, writeHoistMap_eq] at htraffic
    refine ⟨t, ht, hreplied, htraffic.store, htraffic.gates, htraffic.levels, htraffic.sup, fun h => ?_⟩
    have hhoist := htraffic.hoists h
    simp only [State.hoist, Vector.getElem_ofFn] at hhoist
    rw [htraffic.driveOf]
    exact hhoist

end Sys2Proof.Machine
end

section
/-!
PROOFS. The words of a reading (11.3): each field of a packed word read back, and the sections of READ-STATE.
-/

namespace Sys2Proof.Machine

/-! ### Fields of packed words -/

/-- Consecutive fields from the top: each a value, its lowest bit and its width, the next one below it. -/
def Tiled : Nat → List (Nat × Nat × Nat) → Prop
  | _, [] => True
  | hi, (v, lo, n) :: rest => lo + n ≤ hi ∧ v < 2 ^ n ∧ Tiled lo rest

/-- The sum of tiled fields. -/
def tiledSum : List (Nat × Nat × Nat) → Nat
  | [] => 0
  | (v, lo, _) :: rest => v * 2 ^ lo + tiledSum rest

theorem tiledSum_lt {hi : Nat} {l : List (Nat × Nat × Nat)} (h : Tiled hi l) : tiledSum l < 2 ^ hi := by
  induction l generalizing hi with
  | nil => exact Nat.two_pow_pos hi
  | cons e rest ih =>
    obtain ⟨v, lo, n⟩ := e
    obtain ⟨hlo, hv, hrest⟩ := h
    have hsum := ih hrest
    calc v * 2 ^ lo + tiledSum rest < v * 2 ^ lo + 2 ^ lo := Nat.add_lt_add_left hsum _
      _ = (v + 1) * 2 ^ lo := by ring
      _ ≤ 2 ^ n * 2 ^ lo := Nat.mul_le_mul_right _ hv
      _ = 2 ^ (lo + n) := by rw [← Nat.pow_add, Nat.add_comm]
      _ ≤ 2 ^ hi := Nat.pow_le_pow_right (by decide) hlo

theorem tiled_le {hi : Nat} {l : List (Nat × Nat × Nat)} (h : Tiled hi l) {v lo n : Nat} (hmem : (v, lo, n) ∈ l) :
    lo + n ≤ hi := by
  induction l generalizing hi with
  | nil => cases hmem
  | cons e rest ih =>
    obtain ⟨w, lo', n'⟩ := e
    obtain ⟨hlo, _, hrest⟩ := h
    rcases List.mem_cons.mp hmem with heq | hmem
    · cases heq
      exact hlo
    · exact (ih hrest hmem).trans (by omega)

/-- Each field of a tiling reads back. -/
theorem tiled_field {hi : Nat} {l : List (Nat × Nat × Nat)} (h : Tiled hi l) {v lo n : Nat} (hmem : (v, lo, n) ∈ l) :
    tiledSum l / 2 ^ lo % 2 ^ n = v := by
  induction l generalizing hi with
  | nil => cases hmem
  | cons e rest ih =>
    obtain ⟨w, lo', n'⟩ := e
    obtain ⟨hlo, hv, hrest⟩ := h
    have hsum := tiledSum_lt hrest
    rcases List.mem_cons.mp hmem with heq | hmem
    · cases heq
      unfold tiledSum
      rw [Nat.mul_comm, Nat.mul_add_div (Nat.two_pow_pos lo), Nat.div_eq_of_lt hsum, Nat.add_zero, Nat.mod_eq_of_lt hv]
    · have hread := ih hrest hmem
      obtain ⟨k, rfl⟩ := Nat.exists_eq_add_of_le (tiled_le hrest hmem)
      unfold tiledSum
      rw [show w * 2 ^ (lo + n + k) = 2 ^ lo * (2 ^ n * (w * 2 ^ k)) by rw [Nat.pow_add, Nat.pow_add]; ring,
        Nat.mul_add_div (Nat.two_pow_pos lo), Nat.mul_add_mod]
      exact hread

/-- What a tiling packs. -/
def tiles (l : List (Nat × Nat × Nat)) : List (Nat × Nat) := l.map fun e => (e.1, e.2.1)

theorem foldl_tiles (l : List (Nat × Nat × Nat)) (n : Nat) :
    (tiles l).foldl (fun acc f => acc + f.1 * 2 ^ f.2) n = n + tiledSum l := by
  induction l generalizing n with
  | nil => rfl
  | cons e rest ih => exact (ih _).trans (Nat.add_assoc _ _ _)

/-- Each field of a packed word reads back. -/
theorem field_pack {l : List (Nat × Nat × Nat)} (h : Tiled 16 l) (i : Nat) {v lo n : Nat} (hi : l[i]? = some (v, lo, n)) :
    field (pack (tiles l)) lo n = v := by
  unfold field pack
  rw [foldl_tiles, BitVec.toNat_ofNat, Nat.zero_add, Nat.mod_eq_of_lt (tiledSum_lt h)]
  exact tiled_field h (List.mem_of_getElem? hi)

theorem Tiled.mono {hi hi' : Nat} {l : List (Nat × Nat × Nat)} (h : Tiled hi l) (hle : hi ≤ hi') : Tiled hi' l := by
  cases l with
  | nil => trivial
  | cons e rest =>
    obtain ⟨hlo, hv, hrest⟩ := h
    exact ⟨hlo.trans hle, hv, hrest⟩

/-- Above the fields of a packed word there is nothing. -/
theorem field_pack_above {hi : Nat} {l : List (Nat × Nat × Nat)} (h : Tiled hi l) (hhi : hi ≤ 16) {lo n : Nat}
    (hlo : hi ≤ lo) : field (pack (tiles l)) lo n = 0 := by
  unfold field pack
  rw [foldl_tiles, BitVec.toNat_ofNat, Nat.zero_add, Nat.mod_eq_of_lt (tiledSum_lt (h.mono hhi)),
    Nat.div_eq_of_lt (lt_of_lt_of_le (tiledSum_lt h) (Nat.pow_le_pow_right (by decide) hlo)), Nat.zero_mod]

/-- A bit of a packed word reads back. -/
theorem bit_pack {l : List (Nat × Nat × Nat)} (h : Tiled 16 l) (i : Nat) {b : Bool} {lo : Nat}
    (hi : l[i]? = some (flag b, lo, 1)) : (pack (tiles l)).getLsbD lo = b := by
  have hfield := field_pack h i hi
  rw [BitVec.getLsbD, Nat.testBit_eq_decide_div_mod_eq]
  unfold field at hfield
  rw [Nat.pow_one] at hfield
  rw [hfield]
  cases b <;> rfl

/-! ### How wide a code is -/

theorem flag_lt (b : Bool) : flag b < 2 ^ 1 := by cases b <;> decide
theorem Mode.code_lt (m : Mode) : m.code < 2 ^ 3 := by cases m <;> decide
theorem Motion.code_lt (m : Motion) : m.code < 2 ^ 3 := by cases m <;> decide
theorem Speed.code_lt (x : Speed) : x.code < 2 ^ 2 := by cases x <;> decide
theorem Origin.code_lt (x : Origin) : x.code < 2 ^ 3 := by cases x <;> simp [Origin.code]
theorem Cause.code_lt (x : Cause) : x.code < 2 ^ 3 := by cases x <;> decide
theorem Recoverable.code_lt (x : Recoverable) : x.code < 2 ^ 2 := by cases x <;> decide
theorem ChannelState.code_lt (x : ChannelState) : x.code < 2 ^ 2 := by cases x <;> decide
theorem SideState.code_lt (x : SideState) : x.code < 2 ^ 2 := by cases x <;> decide
theorem Drive.code_lt (x : Drive) : x.code < 2 ^ 2 := by cases x <;> decide
theorem Device.code_lt (x : Device) : x.code < 2 ^ 2 := by cases x <;> decide
theorem LockoutCause.code_lt (x : LockoutCause) : x.code < 2 ^ 2 := by cases x <;> decide
theorem byte_lt (b : Byte) : b.toNat < 2 ^ 8 := b.isLt

theorem wordOfNat_toNat {n : Nat} (h : n ≤ 65535) : (wordOfNat n).toNat = n := by
  unfold wordOfNat
  rw [BitVec.toNat_ofNat]
  exact Nat.mod_eq_of_lt (by omega)

/-! ### The device section -/

/-- Word 0 of the device section. -/
def deviceTiles (s : State) : List (Nat × Nat × Nat) :=
  [(s.sup.device.code, 14, 2), (s.sup.lockoutCause.code, 12, 2),
    ((match s.sup.lockoutGate with
      | some g => g.val
      | none => 15), 8, 4),
    (flag s.sup.holdLine, 7, 1), (flag s.monitor.faultLine, 6, 1), (flag s.forcedIndex.isSome, 5, 1),
    (flag s.req.requestLost, 4, 1), (flag s.req.noticeLost, 3, 1), (flag s.pass.policedDrop, 2, 1),
    (flag s.levels.up.stale, 1, 1), (flag s.levels.down.stale, 0, 1)]

theorem deviceTiles_tiled (s : State) : Tiled 16 (deviceTiles s) := by
  have hgate : (match s.sup.lockoutGate with
      | some g => g.val
      | none => 15) < 2 ^ 4 := by split <;> omega
  exact ⟨by decide, Device.code_lt _, by decide, LockoutCause.code_lt _, by decide, hgate, by decide, flag_lt _, by decide,
    flag_lt _, by decide, flag_lt _, by decide, flag_lt _, by decide, flag_lt _, by decide, flag_lt _, by decide, flag_lt _,
    by decide, flag_lt _, trivial⟩

/-- Word 1 of the device section. -/
def countTiles (s : State) : List (Nat × Nat × Nat) :=
  [(s.forcedIndex.getD 0, 8, 6), (s.req.intake.length, 5, 3), (reportCount s.req.report, 0, 5)]

theorem deviceSectionWords : Sys2Proof.Claim.DeviceSectionWords := by
  intro s hcap hforced
  obtain ⟨_, hintake, hreport, hnotices, _, herrors, hlosses, _⟩ := hcap
  have hvalue : s.forcedIndex.getD 0 < 2 ^ 6 := by
    cases h : s.forcedIndex with
    | none => decide
    | some v => exact Nat.lt_succ_of_le (hforced v h)
  have hcount : reportCount s.req.report < 2 ^ 5 :=
    lt_of_le_of_lt (List.countP_le_length.trans hreport) (by decide)
  have h0 := deviceTiles_tiled s
  have h1 : Tiled 14 (countTiles s) :=
    ⟨by decide, hvalue, by decide, lt_of_le_of_lt hintake (by decide), by decide, hcount, trivial⟩
  have h2 : Tiled 12 [(noticeCount s.req.report, 8, 4), (s.post.tagCounter.toNat, 0, 8)] :=
    ⟨by decide, lt_of_le_of_lt hnotices (by decide), by decide, byte_lt _, trivial⟩
  have h1' := h1.mono (show 14 ≤ 16 by decide)
  have h2' := h2.mono (show 12 ≤ 16 by decide)
  refine ⟨field_pack h0 0 rfl, field_pack h0 1 rfl, field_pack h0 2 rfl, bit_pack h0 3 rfl, bit_pack h0 4 rfl, bit_pack h0 5 rfl,
    bit_pack h0 6 rfl, bit_pack h0 7 rfl, bit_pack h0 8 rfl, bit_pack h0 9 rfl, bit_pack h0 10 rfl,
    field_pack_above h1 (by decide) le_rfl, fun v hv => ?_, field_pack h1' 1 rfl, field_pack h1' 2 rfl,
    field_pack_above h2 (by decide) le_rfl, field_pack h2' 0 rfl, field_pack h2' 1 rfl, rfl, rfl, wordOfNat_toNat herrors,
    wordOfNat_toNat hlosses⟩
  have hread : field (pack (tiles (countTiles s))) 8 6 = s.forcedIndex.getD 0 := field_pack h1' 0 rfl
  rw [hv] at hread
  exact hread

/-! ### READ-ROWS and READ-STATE as requests (R181, R185) -/

/-- A request with no effect is answered, and that is all. -/
theorem serve_of_read {r : RequestName} {f : Frame} {s : State} {answer : Frame → State → Answer} (hx : s.Executing r f) :
    OnlyTraffic s (serve r answer (fun _ t => t) s) ∧ (serve r answer (fun _ t => t) s).Replied f (answer f s) := by
  obtain ⟨hexec, hname, hreserved, hheard⟩ := hx
  have hserve : serve r answer (fun _ t => t) s = settle (endExecution (placeReply f (answer f s) s)) := by
    simp [serve, State.executes, hexec, hname, hheard]
  rw [hserve]
  exact ⟨settled_placeReply_traffic f _ s, settled_placeReply_replied f _ hreserved⟩

theorem decideRequest_read {s : State} (own : Answer) : decideRequest s false true true true own = own := by
  unfold decideRequest
  cases s.sup.device <;> rfl

theorem answerReadRows_of {f : Frame} {s : State} {o : ReadRows} (h : readReadRows f = some o)
    (hright : s.mayRead f.src o.table = true) : answerReadRows f s = readRowsAnswer o s := by
  unfold answerReadRows
  rw [h]
  dsimp only
  rw [hright, decideRequest_read]

theorem answerReadState_of {f : Frame} {s : State} {k : StateSection} (h : readReadState f = some k) :
    answerReadState f s = sectionAnswer k s := by
  unfold answerReadState
  rw [h]
  exact decideRequest_read _

/-- The image of the Pass Table that is read (R61). -/
def State.passRead (s : State) (pending : Bool) : PassImage := if pending then s.store.passPending else s.store.passActive

/-- The image of a schedule that is read (R61). -/
def State.scheduleRead (s : State) (n : ScheduleNo) (pending : Bool) : ScheduleImage :=
  if pending then (s.schedule n).pending else (s.schedule n).active

theorem lengthOf_eq (s : State) (t : Table) (pending : Bool) : s.lengthOf t pending =
    match t with
    | .pass => 3 * (s.passRead pending).length
    | .rows n => ((s.scheduleRead n pending).header[0]).toNat
    | _ => t.capacity := by cases t <;> rfl

theorem readRow_eq (s : State) (t : Table) (pending : Bool) (r : Nat) : s.readRow t pending r =
    match t with
    | .control => rowAt s.store.control r
    | .access => rowAt s.store.access r
    | .stations => rowAt s.store.stations r
    | .hoistMap => rowAt s.store.hoistMap r
    | .pass => rowAt (s.passRead pending).rows r
    | .thresholds => rowAt s.store.thresholds r
    | .gate g => rowAt (s.record g) r
    | .header n => rowAt (s.scheduleRead n pending).header r
    | .rows n => rowAt (s.scheduleRead n pending).rows r := by cases t <;> rfl

theorem readRowsAnswersRows : Sys2Proof.Claim.ReadRowsAnswersRows := by
  intro f s o hx ho hright
  obtain ⟨haddress, hcount, hpending⟩ := readReadRows_address ho
  obtain ⟨htraffic, hreplied⟩ := serve_of_read (answer := answerReadRows) hx
  rw [answerReadRows_of ho hright] at hreplied
  refine ⟨haddress, _, _, rfl, hreplied, htraffic, fun hlong => ?_, fun hfits => ?_⟩
  · change o.table.capacity < _ at hlong
    exact if_pos (hcount ▸ hlong)
  · change _ ≤ o.table.capacity at hfits
    have hanswer : readRowsAnswer o s = _ := if_neg (Nat.not_lt.mpr (hcount ▸ hfits))
    rw [hanswer]
    refine ⟨rfl, by simp [hcount], ?_, fun k hk => ?_⟩
    · dsimp only
      rw [decide_eq_true_iff, hcount, lengthOf_eq, hpending]
      exact Iff.rfl
    · rw [List.getElem?_map, List.getElem?_range (hcount ▸ hk), Option.map_some, readRow_eq, hpending]
      rfl

theorem readStateAnswersSection : Sys2Proof.Claim.ReadStateAnswersSection := by
  intro f s k hx hk
  obtain ⟨htraffic, hreplied⟩ := serve_of_read (answer := answerReadState) hx
  rw [answerReadState_of hk] at hreplied
  refine ⟨_, _, rfl, hreplied, htraffic, rfl, ?_, ?_, ?_, ?_, ?_, fun e he => ?_⟩
  · rintro rfl; rfl
  · rintro g rfl; rfl
  · rintro g rfl; exact ⟨rfl, rfl, rfl, rfl⟩
  · rintro rfl; exact ⟨rfl, rfl, rfl, rfl⟩
  · rintro c rfl
    cases c <;> rfl
  · subst he
    change if 32 ≤ e then passAnswer e s = refuse .range else (passAnswer e s).data.length = min 14 (32 - e)
    unfold passAnswer
    split
    · rfl
    · simp [passCount]

end Sys2Proof.Machine
end

section
/-!
PROOFS. The words of the gate, save record, levels, threshold and pass sections (11.3).
-/

namespace Sys2Proof.Machine

/-- Below the fields of a packed word there is nothing. -/
theorem field_pack_below {l : List (Nat × Nat × Nat)} (h : Tiled 16 l) {n : Nat} (hn : ∀ e ∈ l, n ≤ e.2.1) :
    field (pack (tiles l)) 0 n = 0 := by
  have hsum : ∀ l : List (Nat × Nat × Nat), (∀ e ∈ l, n ≤ e.2.1) → 2 ^ n ∣ tiledSum l := by
    intro l
    induction l with
    | nil => exact fun _ => Nat.dvd_zero _
    | cons e rest ih =>
      intro hall
      obtain ⟨v, lo, m⟩ := e
      have hlo : n ≤ lo := hall _ List.mem_cons_self
      exact Nat.dvd_add (Dvd.dvd.mul_left (Nat.pow_dvd_pow 2 hlo) v) (ih fun e he => hall e (List.mem_cons_of_mem _ he))
  unfold field pack
  rw [foldl_tiles, BitVec.toNat_ofNat, Nat.zero_add, Nat.mod_eq_of_lt (tiledSum_lt h), Nat.pow_zero, Nat.div_one]
  exact Nat.mod_eq_zero_of_dvd (hsum l hn)

/-- The top bit of a field, where the value leaves it clear. -/
theorem bit_of_small_field {w : Word} {lo n v : Nat} (h : field w lo (n + 1) = v) (hv : v < 2 ^ n) :
    w.getLsbD (lo + n) = false := by
  rw [BitVec.getLsbD, Nat.testBit_eq_decide_div_mod_eq, decide_eq_false_iff_not]
  unfold field at h
  rw [Nat.pow_add, ← Nat.div_div_eq_div_mul]
  intro hbit
  have hmod : w.toNat / 2 ^ lo % 2 ^ (n + 1) / 2 ^ n = w.toNat / 2 ^ lo / 2 ^ n % 2 := by
    rw [Nat.pow_succ, Nat.mod_mul_right_div_self]
  rw [hbit, h, Nat.div_eq_of_lt hv] at hmod
  exact absurd hmod (by decide)

/-! ### The gate section -/

def originField (x : Gate) : Nat :=
  match x.queue.head? with
  | some e => e.origin.code
  | none => 0

def relativeField (x : Gate) : Bool :=
  match x.queue.head? with
  | some e => decide (e.form = .relative)
  | none => false

def speedField (x : Gate) : Nat :=
  match x.queue.head? with
  | some e => (e.speed.map Speed.code).getD 0
  | none => 0

def directionField (x : Gate) : Bool :=
  match x.context with
  | some c => c.up && x.inFlightTarget.isSome
  | none => false

/-- Word 0 of the gate section. -/
def gateTiles (x : Gate) : List (Nat × Nat × Nat) :=
  [(x.mode.code, 13, 3), (x.motion.code, 10, 3), (flag (directionField x), 9, 1), (flag x.closurePending, 8, 1),
    (flag x.tideClosed, 7, 1), (flag x.rangeFlag, 6, 1), (x.queue.length, 3, 3), (flag x.inFlightTarget.isSome, 2, 1)]

/-- Word 7 of the gate section. -/
def headTiles (g : GateNo) (s : State) : List (Nat × Nat × Nat) :=
  [((s.hoist (leftHoist g)).drive.code, 14, 2), ((s.hoist (rightHoist g)).drive.code, 12, 2),
    (originField (s.gate g), 8, 4), (flag (relativeField (s.gate g)), 7, 1), (speedField (s.gate g), 5, 2)]

theorem speedField_lt (x : Gate) : speedField x < 2 ^ 2 := by
  unfold speedField
  split
  next e _ => cases e.speed with
    | none => decide
    | some v => exact v.code_lt
  next => decide

theorem originField_lt (x : Gate) : originField x < 2 ^ 3 := by
  unfold originField
  split
  · exact Origin.code_lt _
  · decide

theorem gateWord_zero (g : GateNo) (s : State) : (sectionAnswer (.gate g) s).data.getD 0 0#16 = pack (tiles (gateTiles (s.gate g))) := rfl

theorem gateWord_seven (g : GateNo) (s : State) :
    (sectionAnswer (.gate g) s).data.getD 7 0#16 = pack (tiles (headTiles g s)) := by
  unfold headTiles relativeField speedField originField
  simp only [sectionAnswer, gateWords]
  cases (s.gate g).queue.head? with
  | none => rfl
  | some e => rcases e with ⟨o, form, v, _ | speed⟩ <;> rfl

theorem word_toNat {x : Int} (hlow : 0 ≤ x) (hhigh : x < 65536) : ((word x).toNat : Int) = x := by
  unfold word
  rw [BitVec.toNat_ofInt]
  omega

theorem hoistByte_eq (x : Hoist) : hoistByte x = slotPhaseCode x.slot * 64 +
    (match x.slot with
      | some sl => sl.setpoint.command.code
      | none => 0) * 16 +
    (flag x.retry * 8 + flag x.exhausted * 4 + flag x.settleTimer.isSome * 2 + flag x.valid) := by
  unfold hoistByte
  cases x.slot <;> dsimp only <;> omega

theorem flags_lt (a b c d : Bool) : flag a * 8 + flag b * 4 + flag c * 2 + flag d < 16 := by
  cases a <;> cases b <;> cases c <;> cases d <;> decide

/-- The byte of one hoist in word 11 of the gate section. -/
theorem hoistByte_reads (x : Hoist) :
    (∀ sl, x.slot = some sl → hoistByte x / 64 = (match sl.phase with | .waiting => 1 | .sending => 2 | .sent => 3) ∧
      hoistByte x / 16 % 4 = sl.setpoint.command.code) ∧
    (x.slot = none → hoistByte x / 16 = 0) ∧
    hoistByte x % 16 = flag x.retry * 8 + flag x.exhausted * 4 + flag x.settleTimer.isSome * 2 + flag x.valid ∧
    hoistByte x < 2 ^ 8 := by
  rw [hoistByte_eq]
  have hflags := flags_lt x.retry x.exhausted x.settleTimer.isSome x.valid
  generalize flag x.retry * 8 + flag x.exhausted * 4 + flag x.settleTimer.isSome * 2 + flag x.valid = low at hflags ⊢
  cases x.slot with
  | none =>
    refine ⟨nofun, fun _ => ?_, ?_, ?_⟩ <;> simp only [slotPhaseCode] <;> omega
  | some sl =>
    have hphase : slotPhaseCode (some sl) = (match sl.phase with | .waiting => 1 | .sending => 2 | .sent => 3) := rfl
    have hphase_le : slotPhaseCode (some sl) ≤ 3 := by rw [hphase]; split <;> decide
    have hcommand : sl.setpoint.command.code < 4 := by cases sl.setpoint.command <;> decide
    refine ⟨fun sl' h => ?_, nofun, ?_, ?_⟩
    · cases h
      rw [← hphase]
      dsimp only
      constructor <;> omega
    all_goals dsimp only; omega

/-- The word of a last-posted setpoint. -/
def postedTiles (sp : Setpoint) : List (Nat × Nat × Nat) :=
  [(flag (decide (sp.command = .stop)), 14, 1), (field (word sp.target) 0 14, 0, 14)]

theorem lastPostedWord_some {x : Hoist} {sp : Setpoint} (h : x.lastPosted = some sp) :
    lastPostedWord x = pack (tiles (postedTiles sp)) := by
  unfold lastPostedWord
  rw [h]
  rfl

theorem postedTiles_tiled (sp : Setpoint) : Tiled 15 (postedTiles sp) :=
  ⟨by decide, flag_lt _, by decide, Nat.mod_lt _ (by decide), trivial⟩

theorem lastPosted_reads {x : Hoist} {sp : Setpoint} (h : x.lastPosted = some sp) (hlow : 0 ≤ sp.target)
    (hhigh : sp.target < 16384) :
    (lastPostedWord x).getLsbD 15 = false ∧ (lastPostedWord x).getLsbD 14 = decide (sp.command = .stop) ∧
      (field (lastPostedWord x) 0 14 : Int) = sp.target := by
  have htiled := postedTiles_tiled sp
  have htiled' := htiled.mono (show 15 ≤ 16 by decide)
  rw [lastPostedWord_some h]
  refine ⟨?_, bit_pack htiled' 0 rfl, ?_⟩
  · exact bit_of_small_field (lo := 15) (n := 0) (field_pack_above htiled (by decide) le_rfl) (by decide)
  · rw [show field (pack (tiles (postedTiles sp))) 0 14 = field (word sp.target) 0 14 from field_pack htiled' 1 rfl]
    have hword := word_toNat hlow (by omega)
    unfold field
    omega

theorem slotWord_reads {x : Hoist} {sl : Slot} (h : x.slot = some sl) (htries : sl.tries ≤ 255) :
    field (slotWord x) 8 8 = sl.tag.toNat ∧ field (slotWord x) 0 8 = sl.tries := by
  have hword : slotWord x = pack (tiles [(sl.tag.toNat, 8, 8), (sl.tries, 0, 8)]) := by
    unfold slotWord
    rw [h]
    rfl
  have htiled : Tiled 16 [(sl.tag.toNat, 8, 8), (sl.tries, 0, 8)] :=
    ⟨by decide, byte_lt _, by decide, Nat.lt_succ_of_le htries, trivial⟩
  rw [hword]
  exact ⟨field_pack htiled 0 rfl, field_pack htiled 1 rfl⟩

theorem inFlightTarget_of_move {x : Gate} {c : MoveContext} (hmove : x.inFlight = true ∨ x.motion = .stopping)
    (hc : x.context = some c) : x.inFlightTarget = some c.target := by
  unfold Gate.inFlightTarget
  rw [if_pos (by simpa using hmove), hc]
  rfl

theorem inFlightTarget_isSome (x : Gate) : x.inFlightTarget.isSome =
    decide ((x.inFlight = true ∨ x.motion = .stopping) ∧ x.context.isSome = true) := by
  unfold Gate.inFlightTarget
  cases x.context <;> by_cases h : x.inFlight = true ∨ x.motion = .stopping <;> simp [h]

theorem headFields_of {x : Gate} {e : Entry} {rest : List Entry} (h : x.queue = e :: rest) :
    originField x = e.origin.code ∧ relativeField x = decide (e.form = .relative) ∧
      speedField x = (e.speed.map Speed.code).getD 0 := by
  unfold originField relativeField speedField
  rw [h]
  exact ⟨rfl, rfl, rfl⟩

/-- The three-bit field below a clear bit. -/
theorem field_three_of_four {w : Word} {lo v : Nat} (h : field w lo 4 = v) (hv : v < 2 ^ 3) : field w lo 3 = v := by
  unfold field at h ⊢
  omega

/-- The bytes of the two hoists in word 11. -/
theorem hoistBytes_tiled (l r : Hoist) : Tiled 16 [(hoistByte l, 8, 8), (hoistByte r, 0, 8)] :=
  ⟨by decide, (hoistByte_reads l).2.2.2, by decide, (hoistByte_reads r).2.2.2, trivial⟩

/-- What the gate section shows of a hoist, given its byte. -/
def HoistShown (x : Hoist) (slot posted : Word) (byte : Nat) : Prop :=
  (∀ sl, x.slot = some sl → field slot 8 8 = sl.tag.toNat ∧ field slot 0 8 = sl.tries ∧
      byte / 64 = (match sl.phase with | .waiting => 1 | .sending => 2 | .sent => 3) ∧
      byte / 16 % 4 = sl.setpoint.command.code) ∧
    (x.slot = none → byte / 16 = 0) ∧
    byte % 16 = flag x.retry * 8 + flag x.exhausted * 4 + flag x.settleTimer.isSome * 2 + flag x.valid ∧
    (x.lastPosted = none → posted = 0x8000#16) ∧
    ∀ sp, x.lastPosted = some sp → posted.getLsbD 15 = false ∧ posted.getLsbD 14 = decide (sp.command = .stop) ∧
      (field posted 0 14 : Int) = sp.target

theorem hoistShown (x : Hoist) (htries : ∀ sl, x.slot = some sl → sl.tries ≤ 255)
    (htarget : ∀ sp, x.lastPosted = some sp → 0 ≤ sp.target ∧ sp.target < 16384) :
    HoistShown x (slotWord x) (lastPostedWord x) (hoistByte x) := by
  obtain ⟨hslot, hempty, hflags, _⟩ := hoistByte_reads x
  refine ⟨fun sl h => ?_, hempty, hflags, fun h => ?_, fun sp h => ?_⟩
  · obtain ⟨htag, htry⟩ := slotWord_reads h (htries sl h)
    exact ⟨htag, htry, hslot sl h⟩
  · unfold lastPostedWord
    rw [h]
  · exact lastPosted_reads h (htarget sp h).1 (htarget sp h).2

theorem gateSectionWords : Sys2Proof.Claim.GateSectionWords := by
  intro g s hqueue hhoists
  have h0 : Tiled 16 (gateTiles (s.gate g)) :=
    ⟨by decide, Mode.code_lt _, by decide, Motion.code_lt _, by decide, flag_lt _, by decide, flag_lt _, by decide, flag_lt _,
      by decide, flag_lt _, by decide, lt_of_le_of_lt hqueue (by decide), by decide, flag_lt _, trivial⟩
  have h7 : Tiled 16 (headTiles g s) :=
    ⟨by decide, Drive.code_lt _, by decide, Drive.code_lt _, by decide, (originField_lt _).trans (by decide), by decide, flag_lt _, by decide,
      speedField_lt _, trivial⟩
  have h11 := hoistBytes_tiled (s.hoist (leftHoist g)) (s.hoist (rightHoist g))
  have horigin : field (pack (tiles (headTiles g s))) 8 4 = originField (s.gate g) := field_pack h7 2 rfl
  have htarget : (sectionAnswer (.gate g) s).data.getD 2 0#16 = word ((s.gate g).inFlightTarget.getD 0) := rfl
  dsimp only
  rw [gateWord_zero, gateWord_seven, htarget]
  refine ⟨field_pack h0 0 rfl, field_pack h0 1 rfl, bit_pack h0 3 rfl, bit_pack h0 4 rfl, bit_pack h0 5 rfl, field_pack h0 6 rfl,
    field_pack_below h0 (by simp [gateTiles]), ?_, fun c hmove hc => ⟨?_, ?_⟩, rfl, fun e rest hq => ?_,
    bit_of_small_field (lo := 8) (n := 3) horigin (originField_lt _), field_pack_below h7 (by simp [headTiles]), ?_⟩
  · exact (bit_pack h0 7 rfl).trans (inFlightTarget_isSome _)
  · refine (bit_pack (b := directionField (s.gate g)) h0 2 rfl).trans ?_
    unfold directionField
    rw [hc, inFlightTarget_of_move hmove hc]
    exact Bool.and_true _
  · rw [inFlightTarget_of_move hmove hc]
    rfl
  · obtain ⟨ho, hf, hs⟩ := headFields_of hq
    refine ⟨(field_three_of_four horigin (originField_lt _)).trans ho, (bit_pack h7 3 rfl).trans hf,
      (field_pack h7 4 rfl).trans hs, ?_⟩
    change (match (s.gate g).queue.head? with
      | some e => word e.value
      | none => 0#16) = _
    rw [hq]
    rfl
  · intro p hp
    have hshown : ∀ h, HoistShown (s.hoist h) (slotWord (s.hoist h)) (lastPostedWord (s.hoist h)) (hoistByte (s.hoist h)) :=
      fun h => hoistShown _ (hhoists h).1 (hhoists h).2
    simp only [List.mem_cons, List.not_mem_nil, or_false] at hp
    rcases hp with rfl | rfl
    · have hbyte : field ((sectionAnswer (.gate g) s).data.getD 11 0#16) 8 8 = hoistByte (s.hoist (leftHoist g)) :=
        field_pack h11 0 rfl
      have hleft := hshown (leftHoist g)
      rw [← hbyte] at hleft
      exact ⟨rfl, rfl, field_pack h7 0 rfl, hleft⟩
    · have hbyte : field ((sectionAnswer (.gate g) s).data.getD 11 0#16) 0 8 = hoistByte (s.hoist (rightHoist g)) :=
        field_pack h11 1 rfl
      have hright := hshown (rightHoist g)
      rw [← hbyte] at hright
      exact ⟨rfl, rfl, field_pack h7 1 rfl, hright⟩

/-! ### The save record and levels sections -/

/-- Word 0 of the save record section. -/
def saveTiles (r : SaveRecord) : List (Nat × Nat × Nat) :=
  [(flag r.occupied, 15, 1), (flag r.resumed, 14, 1), (r.firstCause.code, 11, 3), (r.stateAtFault.code, 8, 3),
    (r.recoverable.code, 6, 2), (r.speed.code, 4, 2), (r.origin.code, 0, 4)]

theorem saveSectionWords (g : GateNo) (s : State) :
    let r := (s.gate g).save
    let w := fun (i : Nat) => (sectionAnswer (.saveRecord g) s).data.getD i 0#16
    (w 0).getLsbD 15 = r.occupied ∧ (w 0).getLsbD 14 = r.resumed ∧ field (w 0) 11 3 = r.firstCause.code ∧
    field (w 0) 8 3 = r.stateAtFault.code ∧ field (w 0) 6 2 = r.recoverable.code ∧ field (w 0) 4 2 = r.speed.code ∧
    (w 0).getLsbD 3 = false ∧ field (w 0) 0 3 = r.origin.code ∧ (w 1).toNat = r.causes.toNat ∧
    w 2 = word r.target ∧ w 3 = word r.left ∧ w 4 = word r.right ∧
    ∀ src tag, r.origin = .order src tag → field (w 5) 8 8 = src.toNat ∧ field (w 5) 0 8 = tag.toNat := by
  intro r w
  have h0 : Tiled 16 (saveTiles r) :=
    ⟨by decide, flag_lt _, by decide, flag_lt _, by decide, Cause.code_lt _, by decide, Motion.code_lt _, by decide,
      Recoverable.code_lt _, by decide, Speed.code_lt _, by decide, (Origin.code_lt _).trans (by decide), trivial⟩
  have horigin : field (w 0) 0 4 = r.origin.code := field_pack h0 6 rfl
  refine ⟨bit_pack h0 0 rfl, bit_pack h0 1 rfl, field_pack h0 2 rfl, field_pack h0 3 rfl, field_pack h0 4 rfl, field_pack h0 5 rfl,
    bit_of_small_field (lo := 0) (n := 3) horigin (Origin.code_lt _), field_three_of_four horigin (Origin.code_lt _),
    wordOfNat_toNat (by omega), rfl, rfl, rfl, fun src tag ho => ?_⟩
  have h5 : Tiled 16 [(src.toNat, 8, 8), (tag.toNat, 0, 8)] := ⟨by decide, byte_lt _, by decide, byte_lt _, trivial⟩
  have hword : w 5 = pack (tiles [(src.toNat, 8, 8), (tag.toNat, 0, 8)]) := by
    change (match r.origin with
      | .order src tag => pack [(src.toNat, 8), (tag.toNat, 0)]
      | _ => 0#16) = _
    rw [ho]
    rfl
  rw [hword]
  exact ⟨field_pack h5 0 rfl, field_pack h5 1 rfl⟩

/-- The fields of a channel in word 0 of the levels section, from bit `lo` on. -/
def channelTiles (c : Channel) (lo : Nat) : List (Nat × Nat × Nat) :=
  [(c.state.code, lo + 2, 2), (flag c.coarse, lo + 1, 1), (flag c.clamped, lo, 1)]

/-- The fields of a side in word 5 of the levels section, from bit `lo` on. -/
def sideTiles (x : Side) (lo : Nat) : List (Nat × Nat × Nat) :=
  [(x.state.code, lo + 2, 2), (flag x.disagree, lo + 1, 1), (flag x.updated, lo, 1)]

theorem Tiled.append_three {hi lo : Nat} {a b c : Nat} {rest : List (Nat × Nat × Nat)} (hlo : lo + 4 ≤ hi)
    (ha : a < 2 ^ 2) (hb : b < 2 ^ 1) (hc : c < 2 ^ 1) (hrest : Tiled lo rest) :
    Tiled hi ([(a, lo + 2, 2), (b, lo + 1, 1), (c, lo, 1)] ++ rest) :=
  ⟨hlo, ha, le_rfl, hb, le_rfl, hc, hrest⟩

/-- Words 0 and 5 of the levels section. -/
def levelTiles (l : LevelUnit) : List (Nat × Nat × Nat) :=
  channelTiles l.u1 12 ++ (channelTiles l.u2 8 ++ (channelTiles l.d1 4 ++ (channelTiles l.d2 0 ++ [])))

def sidesTiles (l : LevelUnit) : List (Nat × Nat × Nat) := sideTiles l.up 4 ++ (sideTiles l.down 0 ++ [])

theorem levelTiles_tiled (l : LevelUnit) : Tiled 16 (levelTiles l) :=
  .append_three (by decide) (ChannelState.code_lt _) (flag_lt _) (flag_lt _) (.append_three (by decide)
    (ChannelState.code_lt _) (flag_lt _) (flag_lt _) (.append_three (by decide) (ChannelState.code_lt _) (flag_lt _) (flag_lt _)
      (.append_three (by decide) (ChannelState.code_lt _) (flag_lt _) (flag_lt _) trivial)))

theorem sidesTiles_tiled (l : LevelUnit) : Tiled 8 (sidesTiles l) :=
  .append_three (by decide) (SideState.code_lt _) (flag_lt _) (flag_lt _)
    (.append_three (by decide) (SideState.code_lt _) (flag_lt _) (flag_lt _) trivial)

theorem pack_eq_of_sum {l : List (Nat × Nat)} {t : List (Nat × Nat × Nat)}
    (h : l.foldl (fun acc f => acc + f.1 * 2 ^ f.2) 0 = tiledSum t) : pack l = pack (tiles t) := by
  unfold pack
  rw [h, foldl_tiles, Nat.zero_add]

theorem levelWord_zero (l : LevelUnit) : (levelWords l).getD 0 0#16 = pack (tiles (levelTiles l)) := by
  refine pack_eq_of_sum ?_
  simp only [List.foldl_cons, List.foldl_nil, levelTiles, channelTiles, List.cons_append, List.nil_append, tiledSum, channelNibble]
  ring

theorem levelWord_five (l : LevelUnit) : (levelWords l).getD 5 0#16 = pack (tiles (sidesTiles l)) := by
  refine pack_eq_of_sum ?_
  simp only [List.foldl_cons, List.foldl_nil, sidesTiles, sideTiles, List.cons_append, List.nil_append, tiledSum, sideNibble]
  ring

theorem saveAndLevelSectionWords : Sys2Proof.Claim.SaveAndLevelSectionWords := by
  refine ⟨saveSectionWords, fun s => ?_⟩
  have h0 := levelTiles_tiled s.levels
  have h5 := sidesTiles_tiled s.levels
  have h5' := h5.mono (show 8 ≤ 16 by decide)
  have hw0 : (sectionAnswer .levels s).data.getD 0 0#16 = _ := levelWord_zero s.levels
  have hw5 : (sectionAnswer .levels s).data.getD 5 0#16 = _ := levelWord_five s.levels
  dsimp only
  rw [hw0, hw5]
  refine ⟨fun p hp => ?_, fun p hp => ?_, field_pack_above h5 (by decide) le_rfl, rfl⟩
  · simp only [List.mem_cons, List.not_mem_nil, or_false] at hp
    rcases hp with rfl | rfl | rfl | rfl
    · exact ⟨field_pack h0 0 rfl, bit_pack h0 1 rfl, bit_pack h0 2 rfl, rfl⟩
    · exact ⟨field_pack h0 3 rfl, bit_pack h0 4 rfl, bit_pack h0 5 rfl, rfl⟩
    · exact ⟨field_pack h0 6 rfl, bit_pack h0 7 rfl, bit_pack h0 8 rfl, rfl⟩
    · exact ⟨field_pack h0 9 rfl, bit_pack h0 10 rfl, bit_pack h0 11 rfl, rfl⟩
  · simp only [List.mem_cons, List.not_mem_nil, or_false] at hp
    rcases hp with rfl | rfl
    · exact ⟨field_pack h5' 0 rfl, bit_pack h5' 1 rfl, bit_pack h5' 2 rfl, rfl⟩
    · exact ⟨field_pack h5' 3 rfl, bit_pack h5' 4 rfl, bit_pack h5' 5 rfl, rfl⟩

end Sys2Proof.Machine
end

section
/-!
PROOFS. The threshold and pass sections of READ-STATE (11.3), and the reading requests settled.
-/

namespace Sys2Proof.Machine

/-! ### The head of a reply -/

/-- Word 0 of a reply: BEYOND, the section field, the result. -/
def headWordTiles (a : Answer) : List (Nat × Nat × Nat) := [(flag a.beyond, 15, 1), (a.sectionBits, 8, 7), (a.result.code, 0, 8)]

theorem payload_head (a : Answer) : a.payload.getD 0 0#16 = pack (tiles (headWordTiles a)) := rfl

theorem headWordTiles_tiled {a : Answer} (h : a.sectionBits < 2 ^ 7) : Tiled 16 (headWordTiles a) :=
  ⟨by decide, flag_lt _, by decide, h, by decide, by cases a.result <;> decide, trivial⟩

/-! ### The threshold section -/

theorem word_toInt_toInt (w : Word) : (word w.toInt).toInt = w.toInt := by
  unfold word
  rw [BitVec.ofInt_toInt]

theorem quad_code_lt (q : Quad) : q.code < 2 ^ 4 := flags_lt q.ha q.hw q.lw q.la

/-- The byte of a quantity: its flags above its outcomes. -/
def quantityTiles (q : Quantity) (lo : Nat) : List (Nat × Nat × Nat) := [(q.flags.code, lo + 4, 4), (q.outcomes.code, lo, 4)]

theorem Tiled.append_quantity {hi lo : Nat} (q : Quantity) {rest : List (Nat × Nat × Nat)} (hlo : lo + 8 ≤ hi)
    (hrest : Tiled lo rest) : Tiled hi (quantityTiles q lo ++ rest) :=
  ⟨hlo, quad_code_lt _, le_rfl, quad_code_lt _, hrest⟩

theorem pack_quantity (q : Quantity) : pack [(quantityByte q, 8)] = pack (tiles (quantityTiles q 8)) := by
  refine pack_eq_of_sum ?_
  simp only [List.foldl_cons, List.foldl_nil, quantityTiles, tiledSum, quantityByte]
  ring

theorem pack_quantities (l r : Quantity) : pack [(quantityByte l, 8), (quantityByte r, 0)] =
    pack (tiles (quantityTiles l 8 ++ (quantityTiles r 0 ++ []))) := by
  refine pack_eq_of_sum ?_
  simp only [List.foldl_cons, List.foldl_nil, quantityTiles, List.cons_append, List.nil_append, tiledSum, quantityByte]
  ring

theorem quantityWord_reads (q : Quantity) :
    (field (pack [(quantityByte q, 8)]) 12 4 = q.flags.code ∧ field (pack [(quantityByte q, 8)]) 8 4 = q.outcomes.code) ∧
      field (pack [(quantityByte q, 8)]) 0 8 = 0 := by
  have h : Tiled 16 (quantityTiles q 8) := ⟨by decide, quad_code_lt _, by decide, quad_code_lt _, trivial⟩
  rw [pack_quantity]
  exact ⟨⟨field_pack h 0 rfl, field_pack h 1 rfl⟩, field_pack_below h (by simp [quantityTiles])⟩

theorem quantityWords_read (l r : Quantity) :
    let w := pack [(quantityByte l, 8), (quantityByte r, 0)]
    (field w 12 4 = l.flags.code ∧ field w 8 4 = l.outcomes.code) ∧ field w 4 4 = r.flags.code ∧
      field w 0 4 = r.outcomes.code := by
  have h : Tiled 16 (quantityTiles l 8 ++ (quantityTiles r 0 ++ [])) :=
    .append_quantity l (by decide) (.append_quantity r (by decide) trivial)
  dsimp only
  rw [pack_quantities]
  exact ⟨⟨field_pack h 0 rfl, field_pack h 1 rfl⟩, field_pack h 2 rfl, field_pack h 3 rfl⟩

/-- The bits of the settle word, from the top. -/
def settleTiles (s : State) : List (Nat × Nat × Nat) :=
  allHoists.reverse.map fun h => (flag (s.hoist h).settleTimer.isSome, h.val, 1)

theorem settleTiles_tiled (s : State) : Tiled 16 (settleTiles s) :=
  ⟨by decide, flag_lt _, by decide, flag_lt _, by decide, flag_lt _, by decide, flag_lt _, by decide, flag_lt _, by decide,
    flag_lt _, by decide, flag_lt _, by decide, flag_lt _, by decide, flag_lt _, by decide, flag_lt _, by decide, flag_lt _,
    by decide, flag_lt _, by decide, flag_lt _, by decide, flag_lt _, by decide, flag_lt _, by decide, flag_lt _, trivial⟩

theorem settleWord_eq (s : State) : settleWord s = pack (tiles (settleTiles s)) := by
  refine pack_eq_of_sum ?_
  simp only [allHoists, settleTiles, List.map_cons, List.map_nil, List.foldl_cons, List.foldl_nil, List.reverse_cons,
    List.reverse_nil, List.nil_append, List.cons_append, tiledSum]
  omega

theorem settleBits (s : State) (h : HoistNo) : (settleWord s).getLsbD h.val = (s.hoist h).settleTimer.isSome := by
  rw [settleWord_eq]
  exact bit_pack (settleTiles_tiled s) (15 - h.val) (by fin_cases h <;> rfl)

theorem thresholdWords_rows (c : ThresholdClass) (s : State) {k : Nat} (hk : k < 4) :
    (((sectionAnswer (.threshold c) s).data.getD k 0#16).toInt = threshold s.store.thresholds c k) := by
  have hrow : (sectionAnswer (.threshold c) s).data.getD k 0#16 = word (threshold s.store.thresholds c k) := by
    rcases k with _ | _ | _ | _ | k
    case succ.succ.succ.succ => omega
    all_goals rfl
  rw [hrow]
  exact word_toInt_toInt _

theorem loadWord (s : State) (g : GateNo) :
    (sectionAnswer (.threshold .load) s).data.getD (4 + g.val) 0#16 =
      pack [(quantityByte (s.hoist (leftHoist g)).monitor, 8), (quantityByte (s.hoist (rightHoist g)).monitor, 0)] := by
  fin_cases g <;> rfl

theorem latch_lt (t : Vector Word 19) (c : ThresholdClass) : latchBits t c < 2 ^ 2 := by
  unfold latchBits
  cases alarmLatched t c <;> cases warningLatched t c <;> decide

theorem thresholdSectionWords (c : ThresholdClass) (s : State) :
    let a := sectionAnswer (.threshold c) s
    let w := fun (i : Nat) => a.data.getD i 0#16
    let bits := fun (q : Quad) => flag q.ha * 8 + flag q.hw * 4 + flag q.lw * 2 + flag q.la
    let shows := fun (v : Word) (lo : Nat) (q : Quantity) =>
      field v (lo + 4) 4 = bits q.flags ∧ field v lo 4 = bits q.outcomes
    let head := a.payload.getD 0 0#16
    field head 0 8 = 0 ∧ field head 10 6 = 0 ∧ head.getLsbD 9 = alarmLatched s.store.thresholds c ∧
    head.getLsbD 8 = warningLatched s.store.thresholds c ∧
    (∀ k, k < 4 → (w k).toInt = threshold s.store.thresholds c k) ∧
    (c = .levelU → shows (w 4) 8 s.monitor.up ∧ field (w 4) 0 8 = 0) ∧
    (c = .levelD → shows (w 4) 8 s.monitor.down ∧ field (w 4) 0 8 = 0) ∧
    (c = .head → shows (w 4) 8 s.monitor.head ∧ field (w 4) 0 8 = 0) ∧
    (c = .load →
      (∀ g : GateNo, shows (w (4 + g.val)) 8 (s.hoist (leftHoist g)).monitor ∧
        shows (w (4 + g.val)) 0 (s.hoist (rightHoist g)).monitor) ∧
      (w 12).toNat = settleInterval s.store.thresholds ∧
      ∀ h : HoistNo, (w 13).getLsbD h.val = (s.hoist h).settleTimer.isSome) := by
  have hhead : (sectionAnswer (.threshold c) s).payload.getD 0 0#16 =
      pack (tiles [(flag (alarmLatched s.store.thresholds c), 9, 1), (flag (warningLatched s.store.thresholds c), 8, 1),
        (0, 0, 8)]) := by
    change pack [(0, 15), (latchBits s.store.thresholds c, 8), (0, 0)] = _
    refine pack_eq_of_sum ?_
    simp only [List.foldl_cons, List.foldl_nil, tiledSum, latchBits]
    ring
  have h : Tiled 10 [(flag (alarmLatched s.store.thresholds c), 9, 1), (flag (warningLatched s.store.thresholds c), 8, 1),
      (0, 0, 8)] := ⟨by decide, flag_lt _, by decide, flag_lt _, by decide, by decide, trivial⟩
  have h' := h.mono (show 10 ≤ 16 by decide)
  dsimp only
  rw [hhead]
  refine ⟨field_pack h' 2 rfl, field_pack_above h (by decide) le_rfl, bit_pack h' 0 rfl, bit_pack h' 1 rfl,
    fun k hk => thresholdWords_rows c s hk, ?_, ?_, ?_, ?_⟩
  · rintro rfl
    exact quantityWord_reads s.monitor.up
  · rintro rfl
    exact quantityWord_reads s.monitor.down
  · rintro rfl
    exact quantityWord_reads s.monitor.head
  · rintro rfl
    refine ⟨fun g => ?_, rfl, settleBits s⟩
    rw [loadWord]
    exact quantityWords_read _ _

/-! ### The pass section -/

theorem hits_getD_le {s : State} (hcap : s.capacityRule) (e : Nat) : s.pass.hits.getD e 0 ≤ 65535 := by
  obtain ⟨_, _, _, _, _, _, _, hhits⟩ := hcap
  rw [List.getD_eq_getElem?_getD]
  cases h : s.pass.hits[e]? with
  | none => decide
  | some n => exact hhits n (List.mem_of_getElem? h)

theorem passSectionWords (start : Nat) (s : State) (hcap : s.capacityRule) (hstart : start < 32)
    (hlen : s.store.passActive.length ≤ 32) :
    let a := sectionAnswer (.pass start) s
    let head := a.payload.getD 0 0#16
    field head 0 8 = 0 ∧ field head 8 6 = s.store.passActive.length ∧ head.getLsbD 14 = s.pass.policedDrop ∧
    head.getLsbD 15 = decide (s.store.passActive.length < min 32 (start + 14)) ∧
    ∀ k, k < 14 → start + k < 32 → ∃ w, a.data[k]? = some w ∧
      w.toNat = if start + k < s.store.passActive.length then s.pass.hits.getD (start + k) 0 else 0 := by
  intro a head
  have ha : a = passAnswer start s := rfl
  unfold passAnswer at ha
  rw [if_neg (Nat.not_le.mpr hstart)] at ha
  have hcount : start + passCount start = min 32 (start + 14) := by unfold passCount; omega
  have hhead : head = pack (tiles [(flag (decide (s.store.passActive.length < start + passCount start)), 15, 1),
      (flag s.pass.policedDrop, 14, 1), (s.store.passActive.length, 8, 6), (0, 0, 8)]) := by
    change pack [(flag a.beyond, 15), (a.sectionBits, 8), (a.result.code, 0)] = _
    rw [ha]
    refine pack_eq_of_sum ?_
    simp only [List.foldl_cons, List.foldl_nil, tiledSum, Result.code]
    ring
  have h : Tiled 16 [(flag (decide (s.store.passActive.length < start + passCount start)), 15, 1),
      (flag s.pass.policedDrop, 14, 1), (s.store.passActive.length, 8, 6), (0, 0, 8)] :=
    ⟨by decide, flag_lt _, by decide, flag_lt _, by decide, lt_of_le_of_lt hlen (by decide), by decide, by decide, trivial⟩
  rw [hhead]
  refine ⟨field_pack h 3 rfl, field_pack h 2 rfl, bit_pack h 1 rfl, ?_, fun k hk hrow => ?_⟩
  · rw [← hcount]
    exact bit_pack h 0 rfl
  · have hk' : k < passCount start := by unfold passCount; omega
    rw [ha]
    dsimp only
    rw [List.getElem?_map, List.getElem?_range hk']
    refine ⟨_, rfl, wordOfNat_toNat ?_⟩
    split
    · exact hits_getD_le hcap _
    · decide

theorem thresholdAndPassSectionWords : Sys2Proof.Claim.ThresholdAndPassSectionWords :=
  ⟨thresholdSectionWords, passSectionWords⟩

/-- Settles O54: readings are answers without effect, word by word. -/
theorem readsAnswerAndChangeNothing : Obligations.ReadsAnswerAndChangeNothing :=
  ⟨readRowsAnswersRows, readStateAnswersSection, deviceSectionWords, gateSectionWords, saveAndLevelSectionWords,
    thresholdAndPassSectionWords⟩

end Sys2Proof.Machine
end

section
/-!
PROOFS. SET-MODE (R88 to R96): the entry of each mode.
-/

namespace Sys2Proof.Machine

/-! ### A request done, and the traffic around its effect -/

theorem noticeCount_fill (f : OwnFrame) (r : List ReportEntry) : noticeCount (fillReservation f r) = noticeCount r :=
  noticeCount_fillReservation f r

theorem placeReply_noticeRoom (f : Frame) (a : Answer) {s : State} (h : s.NoticeRoom) : (placeReply f a s).NoticeRoom := by
  refine arbitrate_noticeRoom ?_
  obtain ⟨hdest, hcount, hlength⟩ := h
  refine ⟨hdest, ?_, ?_⟩
  · change noticeCount (fillReservation _ _) < 12
    rwa [noticeCount_fillReservation]
  · change (fillReservation _ _).length < 16
    rwa [length_fillReservation]

section request

variable {r : RequestName} {f : Frame} {s : State}

/-- A request answered DONE: traffic before its effect and after it, the reply placed before and standing at the end. -/
theorem request_runs (hx : s.Executing r f) (ha : r.answer f s = refuse .done) :
    ∃ u t, Flow s u ∧ (s.NoticeRoom → u.NoticeRoom) ∧ exec r.command s = .next t ∧ Flow (r.effect f u) t ∧
      (KeepsPlaced u (r.effect f u) → t.Replied f (refuse .done)) := by
  have hafter := (endExecution_flow (r.effect f (placeReply f (refuse .done) s))).trans (settle_flow _)
  refine ⟨_, _, placeReply_flow f (refuse .done) s, placeReply_noticeRoom f _, ?_, hafter, fun hkeeps => ?_⟩
  · rw [exec_command, serve_of_done hx ha]
  · obtain ⟨_, _, hreserved, _⟩ := hx
    exact (hkeeps.trans hafter.placed).replied (placeReply_replied f _ hreserved)

end request

theorem SameSurroundings.of_flows {s u v t : State} (hu : Flow s u) (h : SameSurroundings u v) (ht : Flow v t) :
    SameSurroundings s t := (hu.traffic.surroundings.trans h).trans ht.traffic.surroundings

/-- What the effect of an order on one gate leaves alone, seen from before the request. -/
theorem Within.of_flows {g : GateNo} {s u v t : State} (hu : Flow s u) (h : Within (fun j => j = g) u v) (ht : Flow v t)
    (hrun : s.sup.device = .run) :
    (∀ j, j ≠ g → t.gate j = s.gate j) ∧ t.sup = s.sup ∧ SameSurroundings s t ∧
      ∀ k, gateOf k ≠ g → (t.hoist k).exceptPhase = (s.hoist k).exceptPhase := by
  have hall := ((hu.within _).trans h).trans (ht.within fun j => j = g)
  exact ⟨fun j hj => hall.gates j hj, hall.sup_of_not_drain (by rw [hrun]; nofun), hall.surroundings,
    fun k hk => hall.exceptPhase k hk⟩

/-! ### SET-MODE -/

theorem effectSetMode_of {f : Frame} {g : GateNo} {m : Mode} (h : readSetMode f = some (g, m)) (u : State) :
    RequestName.effect .setMode f u = enterMode g m u := by
  change effectSetMode f u = _
  unfold effectSetMode
  rw [h]

theorem setModeResult_of_served {g : GateNo} {m : Mode} {s : State}
    (hmotion : (s.gate g).motion = .idle ∨ (s.gate g).inFlight = true) (hoff : m ≠ .off)
    (hvalid : recordValid (s.record g) = true) (hready : s.hoistsReady g = true)
    (hlong : m = .auto ∨ m = .flood → 2 ≤ scheduleLength (s.scheduleOf g)) : setModeResult g m s = .done := by
  have hfree : ¬((s.gate g).motion = .stopping ∨ (s.gate g).motion = .faultStopping ∨ (s.gate g).motion = .faulted) := by
    rw [inFlight_iff] at hmotion
    rcases hmotion with h | h | h <;> rw [h] <;> simp
  unfold setModeResult
  dsimp only
  rw [if_neg hfree, if_neg hoff, if_neg (by simp [hvalid, hready]),
    if_neg fun h => absurd (hlong h.1) (Nat.not_le.mpr h.2)]

/-- SET-MODE taken: the mode entered between traffic, and what it leaves alone. -/
theorem setMode_runs {f : Frame} {s : State} {g : GateNo} {m : Mode} (hx : s.Executing .setMode f)
    (hread : readSetMode f = some (g, m)) (hright : s.mayOrder f.src = true) (hrun : s.sup.device = .run)
    (hresult : setModeResult g m s = .done) :
    ∃ u t, Flow s u ∧ exec .setMode s = .next t ∧ Flow (enterMode g m u) t ∧ t.Replied f (refuse .done) ∧
      (∀ j, j ≠ g → t.gate j = s.gate j) ∧ t.sup = s.sup ∧ SameSurroundings s t ∧
      ∀ k, gateOf k ≠ g → (t.hoist k).exceptPhase = (s.hoist k).exceptPhase := by
  have ha : RequestName.answer .setMode f s = refuse .done :=
    (answerSetMode_of_run hread hright hrun).trans (congrArg refuse hresult)
  obtain ⟨u, t, hu, _, ht, hafter, hreplied⟩ := request_runs hx ha
  rw [effectSetMode_of hread] at hafter hreplied
  have hwithin : Within (fun j => j = g) u (enterMode g m u) :=
    (enterMode_works (G := fun j => j = g) rfl (by rw [hu.sup]; exact hrun) (by rw [hu.traffic.setModeResult]; exact hresult)).within
  obtain ⟨hgates, hsup, hsame, hothers⟩ := hwithin.of_flows hu hafter hrun
  exact ⟨u, t, hu, ht, hafter, hreplied hwithin.placed, hgates, hsup, hsame, hothers⟩

/-! ### OFF (R91, R141) -/

theorem enterMode_off (g : GateNo) (s : State) : enterMode g .off s =
    silenceHoists g (s.onGate g (fun x => { x with mode := .off, queue := [], closurePending := false, tideClosed := false })) := by
  have hstay : leaveOff g .off s = s := if_neg fun h => h.2 rfl
  unfold enterMode
  dsimp only
  rw [hstay]
  rfl

theorem emptySlot_hoist (h k : HoistNo) (s : State) :
    (emptySlot h s).hoist k = if k = h then { s.hoist h with slot := none } else s.hoist k := by
  unfold emptySlot settleRotation
  split <;> exact State.hoist_onHoist s h (fun x => { x with slot := none }) k

theorem emptySlot_gate (h : HoistNo) (j : GateNo) (s : State) : (emptySlot h s).gate j = s.gate j := by
  unfold emptySlot settleRotation
  split <;> rfl

theorem emptySlot_queue (h k : HoistNo) (s : State) : k ∈ (emptySlot h s).post.queue ↔ k ∈ s.post.queue ∧ k ≠ h := by
  unfold emptySlot settleRotation
  split <;> simp

/-- Both hoists of the gate lose slot and refresh timer (R141). -/
theorem silenceHoists_hoist {g : GateNo} {h : HoistNo} (hg : gateOf h = g) (s : State) :
    (silenceHoists g s).hoist h = { s.hoist h with slot := none, refreshTimer := none } ∧
      h ∉ (silenceHoists g s).post.queue := by
  have hne := left_ne_right g
  unfold silenceHoists
  dsimp only
  rcases hoist_of_gate hg with rfl | rfl
  · refine ⟨?_, ?_⟩
    · simp [State.hoist_onHoist, emptySlot_hoist, hne]
    · simp [emptySlot_queue]
  · refine ⟨?_, ?_⟩
    · simp [State.hoist_onHoist, emptySlot_hoist, hne.symm]
    · simp [emptySlot_queue]

theorem silenceHoists_gate (g j : GateNo) (s : State) : (silenceHoists g s).gate j = s.gate j := by
  unfold silenceHoists
  dsimp only
  rw [State.onHoist_gate, State.onHoist_gate, emptySlot_gate, emptySlot_gate]

theorem Hoist.GrantedFrom.of_slotless {x y : Hoist} (h : x.GrantedFrom y) (hslot : x.slot = none) : y = x := by
  rcases h with rfl | ⟨sl, hsl, _⟩
  · rfl
  · rw [hslot] at hsl
    cases hsl

theorem Hoist.GrantedFrom.silenced {x y : Hoist} (h : x.GrantedFrom y) :
    { y with slot := none, refreshTimer := none } = { x with slot := none, refreshTimer := none } := by
  rcases h with rfl | ⟨sl, _, rfl⟩ <;> rfl

/-- Settles O44: OFF from IDLE, the slots and the refresh timers gone. -/
theorem setModeOffReleasesGate : Obligations.SetModeOffReleasesGate := by
  intro f s g hx hread hright hrun hidle
  have hresult : setModeResult g .off s = .done := by
    simp [setModeResult, hidle]
  obtain ⟨u, t, hu, ht, hafter, hreplied, hgates, hsup, hsame, hothers⟩ := setMode_runs hx hread hright hrun hresult
  rw [enterMode_off] at hafter
  refine ⟨t, ht, hreplied, ?_, hgates, hsup, hsame, fun h hg => ?_, hothers⟩
  · rw [hafter.gate, silenceHoists_gate, State.gate_onGate_self, hu.gate]
  · obtain ⟨hhoist, hqueue⟩ := silenceHoists_hoist hg (u.onGate g (fun x =>
      { x with mode := .off, queue := [], closurePending := false, tideClosed := false }))
    refine ⟨?_, fun hmem => hqueue (hafter.queue h hmem)⟩
    rw [(hafter.hoists h).of_slotless (by rw [hhoist]), hhoist]
    exact (hu.hoists h).silenced

/-! ### HOLD (R92) -/

/-- A gate that enters HOLD: STOPPING when it was in flight, and at its position otherwise (R92). -/
def State.heldGate (s : State) (g : GateNo) : Gate :=
  let x := { s.gate g with mode := .hold, queue := [], closurePending := false, tideClosed := false }
  if (s.gate g).inFlight then
    { x with motion := .stopping, moveTimer := none, trimHoist := none,
             stopTimer := some ((s.store.control[12]).toNat * 1000) }
  else { x with standing := s.gatePosition g }

theorem enterHold_eq (g : GateNo) (s : State) : enterHold g s = postStops g (s.onGate g fun _ => s.heldGate g) := by
  unfold enterHold State.heldGate
  dsimp only
  split
  · rw [enterStopping_eq, State.onGate_onGate]
    refine congrArg (postStops g) (State.onGate_congr ?_)
    unfold State.stoppedGate
    rw [State.gate_onGate_self]
    rfl
  · rw [State.onGate_onGate]
    exact congrArg (postStops g) (State.onGate_congr rfl)

theorem State.heldGate_of_rest {s : State} {g : GateNo} (h : (s.gate g).inFlight = false) : s.heldGate g =
    { s.gate g with mode := .hold, queue := [], closurePending := false, tideClosed := false
                    standing := s.gatePosition g } := by
  unfold State.heldGate
  rw [h]
  rfl

theorem enterHold_gate (g : GateNo) (s : State) : (enterHold g s).gate g = s.heldGate g := by
  rw [enterHold_eq, postStops_gate, State.gate_onGate_self]

/-! ### The gate, seen from the state before the request -/

section alike

variable {g : GateNo} {s t : State} (h : AlikeAt g s t)

include h

theorem AlikeAt.leaveOff (m : Mode) : AlikeAt g (leaveOff g m s) (leaveOff g m t) := by
  rw [leaveOff_eq, leaveOff_eq, h.gatePosition]
  exact h.onGate _

theorem AlikeAt.heldGate : t.heldGate g = s.heldGate g := by
  unfold State.heldGate
  rw [h.gate, h.store, h.gatePosition]

theorem AlikeAt.enterHold : AlikeAt g (enterHold g s) (enterHold g t) := by
  rw [enterHold_eq, enterHold_eq, h.heldGate]
  exact ((postStops_alikeAt g g _).symm.trans (h.onGate fun _ => s.heldGate g)).trans (postStops_alikeAt g g _)

theorem AlikeAt.enterFlood : AlikeAt g (enterFlood g s) (enterFlood g t) := by
  unfold Machine.enterFlood
  rw [h.record, h.gate]
  exact (h.onGate _).examine

theorem AlikeAt.enterMode {m : Mode} (hm : m ≠ .off) : AlikeAt g (enterMode g m s) (enterMode g m t) := by
  have hleft := h.leaveOff m
  cases m with
  | off => exact absurd rfl hm
  | hold => exact hleft.enterHold
  | manual => exact (hleft.onGate _).examine
  | auto =>
    unfold Machine.enterMode enterAuto
    exact hleft.onGate _
  | flood => exact hleft.enterFlood

end alike

theorem Flow.alikeAt {s t : State} (h : Flow s t) (g : GateNo) : AlikeAt g s t := h.aside.alikeAt g

/-- The gate after a SET-MODE is the one the entry of the mode gives from the state before it. -/
theorem setMode_gate {g : GateNo} {m : Mode} {s u t : State} (hu : Flow s u) (hafter : Flow (enterMode g m u) t) (hm : m ≠ .off) :
    t.gate g = (enterMode g m s).gate g := by
  rw [hafter.gate, ((hu.alikeAt g).enterMode hm).gate]

theorem leaveOff_of_on {g : GateNo} (m : Mode) {s : State} (h : (s.gate g).mode ≠ .off) : leaveOff g m s = s :=
  if_neg fun hoff => h hoff.1

/-- The gate on entering HOLD, one leaving OFF from IDLE among them (R92, R96). -/
theorem enterMode_hold_gate {g : GateNo} {s : State} (h : (s.gate g).inFlight = true → (s.gate g).mode ≠ .off) :
    (enterMode g .hold s).gate g = s.heldGate g := by
  unfold enterMode
  dsimp only
  rw [enterHold_gate]
  cases hflight : (s.gate g).inFlight with
  | true => rw [leaveOff_of_on _ (h hflight)]
  | false =>
    rw [leaveOff_eq, State.heldGate_of_rest, State.heldGate_of_rest hflight, State.gate_onGate_self]
    · rfl
    · rw [State.gate_onGate_self]
      exact hflight

/-- Settles O45: STOP posted to both hoists of a gate that enters HOLD. -/
theorem setModeHoldStopsGate : Obligations.SetModeHoldStopsGate := by
  intro f s g hx hread hright hrun hvalid hready hmotion
  have hresult : setModeResult g .hold s = .done :=
    setModeResult_of_served (hmotion.imp_right And.left) nofun hvalid hready (by rintro (h | h) <;> cases h)
  obtain ⟨u, t, hu, ht, hafter, hreplied, hgates, hsup, hsame, hothers⟩ := setMode_runs hx hread hright hrun hresult
  refine ⟨t, ht, hreplied, ?_, hgates, hsup, hsame, fun h hg => ?_, hothers⟩
  · rw [setMode_gate hu hafter nofun, enterMode_hold_gate]
    · rfl
    · rintro hflight
      rcases hmotion with hidle | ⟨_, hmode⟩
      · rw [not_inFlight_of_idle hidle] at hflight
        cases hflight
      · exact hmode
  · refine hafter.posted ?_
    unfold enterMode
    dsimp only
    rw [enterHold_eq]
    have hposted := postStops_posted (h := h) ((leaveOff g .hold u).onGate g fun _ => (leaveOff g .hold u).heldGate g) hg
    have hposition : stopSetpoint (s.hoist h) = stopSetpoint (((leaveOff g .hold u).onGate g fun _ =>
        (leaveOff g .hold u).heldGate g).hoist h) := by
      refine (hu.traffic.surroundings.stopSetpoint h).symm.trans ?_
      rw [leaveOff_eq]
      rfl
    rw [hposition]
    exact hposted

end Sys2Proof.Machine
end

section
/-!
PROOFS. SET-MODE to MANUAL, AUTO and FLOOD, and what is issued at once (R93 to R96, R108, R110).
-/

namespace Sys2Proof.Machine

/-! ### An examination keeps the mode -/

theorem issueClosure_mode {g : GateNo} {s : State} (hdevice : s.sup.device ≠ .drain) :
    ((issueClosure g s).gate g).mode = (s.gate g).mode := by
  cases h : s.withinTolerance g (lowerLimit (s.record g)) with
  | true => rw [(issueClosure_alikeAt_of_near h hdevice).gate, State.gate_onGate_self]; rfl
  | false => rw [(issueClosure_alikeAt_of_far h).gate, State.gate_onGate_self]; rfl

theorem takeEntry_mode {g : GateNo} {e : Entry} {rest : List Entry} {s : State} (hqueue : (s.gate g).queue = e :: rest)
    (hdevice : s.sup.device ≠ .drain) : ((takeEntry g e s).gate g).mode = (s.gate g).mode := by
  cases hin : s.inWindow g (e.target (s.gate g).standing) with
  | false => rw [(takeEntry_of_outside hqueue hin).gate, State.gate_onGate_self]
  | true =>
    cases h : s.withinTolerance g (e.target (s.gate g).standing) with
    | true => rw [(takeEntry_of_near hqueue hin h hdevice).gate, State.gate_onGate_self]; rfl
    | false => rw [(takeEntry_of_far hqueue hin h).gate, State.gate_onGate_self]; rfl

theorem examineFor_mode (n : Nat) (g : GateNo) (s : State) : ((examineFor n g s).gate g).mode = (s.gate g).mode := by
  induction n generalizing s with
  | zero => rfl
  | succ n ih =>
    unfold examineFor
    split
    next hmay =>
      split
      · rw [ih, issueClosure_mode (not_drain_of_mayIssue hmay)]
      · split
        · rfl
        next e rest hqueue =>
          split
          · rfl
          · rw [ih, takeEntry_mode hqueue (not_drain_of_mayIssue hmay)]
    next => rfl

theorem examine_mode (g : GateNo) (s : State) : ((examine g s).gate g).mode = (s.gate g).mode := examineFor_mode _ g s

/-! ### The gate a mode is entered with -/

/-- The standing target of a gate that enters a mode (R96). -/
def State.standingOn (s : State) (g : GateNo) : Int :=
  if (s.gate g).mode = .off then s.gatePosition g else (s.gate g).standing

theorem standingOn_congr {g : GateNo} {s t : State} (h : AlikeAt g s t) : t.standingOn g = s.standingOn g := by
  unfold State.standingOn
  rw [h.gate, h.gatePosition]

theorem enterMode_manual (g : GateNo) (s : State) : enterMode g .manual s = examine g (s.onGate g fun _ =>
    { s.gate g with mode := .manual, queue := (s.gate g).queue.filter (fun e => !e.automatic), closurePending := false,
                    tideClosed := false, standing := s.standingOn g }) := by
  unfold enterMode enterManual
  rw [leaveOff_eq]
  dsimp only
  rw [State.onGate_onGate]
  refine congrArg (examine g) (State.onGate_congr ?_)
  simp [State.standingOn]

theorem enterMode_auto (g : GateNo) (s : State) : enterMode g .auto s = s.onGate g fun _ =>
    { s.gate g with mode := .auto, queue := (s.gate g).queue.filter (fun e => e.origin = .auto)
                    standing := s.standingOn g } := by
  unfold enterMode enterAuto
  rw [leaveOff_eq]
  dsimp only
  rw [State.onGate_onGate]
  refine State.onGate_congr ?_
  simp [State.standingOn]

/-- The gate with the one FLOOD request, or none where it stands at the upper limit (R95). -/
theorem enterMode_flood (g : GateNo) (s : State) : enterMode g .flood s = examine g (s.onGate g fun _ =>
    { s.gate g with
      mode := .flood
      queue := if (s.gate g).motion = .idle ∧ s.standingOn g = upperLimit (s.record g) then []
        else [⟨.flood, .absolute, upperLimit (s.record g), some .fast⟩]
      standing := s.standingOn g }) := by
  unfold enterMode enterFlood
  rw [leaveOff_eq]
  dsimp only
  rw [State.onGate_onGate, State.gate_onGate_self, State.onGate_record]
  refine congrArg (examine g) (State.onGate_congr ?_)
  simp only [State.standingOn, ne_eq, reduceCtorEq, not_false_eq_true, and_true]
  congr

theorem enterMode_mode {g : GateNo} {m : Mode} {s : State} (hm : m = .manual ∨ m = .auto ∨ m = .flood) :
    ((enterMode g m s).gate g).mode = m := by
  rcases hm with rfl | rfl | rfl
  · rw [enterMode_manual, examine_mode, State.gate_onGate_self]
  · rw [enterMode_auto, State.gate_onGate_self]
  · rw [enterMode_flood, examine_mode, State.gate_onGate_self]

theorem modeEntered : Sys2Proof.Claim.ModeEntered := by
  intro f s g m hx hread hright hrun hm hmotion hvalid hready hlong
  have hon : m ≠ .off := by rintro rfl; rcases hm with h | h | h <;> cases h
  have hresult : setModeResult g m s = .done := setModeResult_of_served hmotion hon hvalid hready fun h =>
    hlong (by rintro rfl; rcases h with h | h <;> cases h)
  obtain ⟨u, t, hu, ht, hafter, hreplied, hgates, hsup, hsame, _⟩ := setMode_runs hx hread hright hrun hresult
  have hgate := setMode_gate hu hafter hon
  refine ⟨t, ht, hreplied, ?_, hgates, hsup, hsame, ?_, fun hflight hmode => ⟨?_, ?_⟩⟩
  · rw [hgate]
    exact enterMode_mode hm
  · rintro rfl
    rw [hgate, enterMode_auto, State.gate_onGate_self]
    rfl
  all_goals
    rintro rfl
    have hstanding : s.standingOn g = (s.gate g).standing := if_neg hmode
    have hmoving : (s.gate g).motion ≠ .idle := fun h => by rw [not_inFlight_of_idle h] at hflight; cases hflight
    rw [hgate]
  · rw [enterMode_manual, examine_of_not_idle (by rw [State.gate_onGate_self]; exact hmoving), State.gate_onGate_self, hstanding]
  · rw [enterMode_flood, examine_of_not_idle (by rw [State.gate_onGate_self]; exact hmoving), State.gate_onGate_self, hstanding,
      if_neg fun h => hmoving h.1]

/-! ### A gate with one entry queued -/

section single

variable {g : GateNo} {s : State} {x : Gate} {e : Entry} (hx : x.motion = (s.gate g).motion) (hqueue : x.queue = [e])
  (hpending : x.closurePending = false) (htide : e.automatic = true → x.tideClosed = false) (hfree : ¬s.HeldFromIssue g)

include hqueue in
theorem single_queue : ((s.onGate g fun _ => x).gate g).queue = e :: [] := by rw [State.gate_onGate_self, hqueue]

include hx hqueue hpending htide hfree

/-- The one entry is taken, and nothing is left to examine (R108). -/
theorem examine_single : examine g (s.onGate g fun _ => x) = takeEntry g e (s.onGate g fun _ => x) := by
  have hmay : (s.onGate g fun _ => x).mayIssue g = true := mayIssue_onGate hx hfree
  have hqueue' := single_queue (g := g) (s := s) hqueue
  have hgate : (s.onGate g fun _ => x).gate g = x := State.gate_onGate_self ..
  have hdevice := not_drain_of_mayIssue hmay
  rw [examine_of_entry hmay (by rw [hgate]; exact hpending) hqueue' fun ha => by rw [hgate]; exact htide ha]
  cases hin : (s.onGate g fun _ => x).inWindow g (e.target ((s.onGate g fun _ => x).gate g).standing) with
  | false =>
    have hleft := (takeEntry_of_outside hqueue' hin).gate
    rw [State.gate_onGate_self, hgate] at hleft
    exact examine_of_nothing (by rw [hleft]; exact hpending) fun k hk => by rw [hleft] at hk; nomatch hk
  | true =>
    cases hnear : (s.onGate g fun _ => x).withinTolerance g (e.target ((s.onGate g fun _ => x).gate g).standing) with
    | true =>
      have hleft := (takeEntry_of_near hqueue' hin hnear hdevice).gate
      rw [State.gate_onGate_self, hgate] at hleft
      exact examine_of_nothing (by rw [hleft]; exact hpending) fun k hk => by rw [hleft] at hk; nomatch hk
    | false =>
      refine examine_of_moving ?_
      rw [(takeEntry_of_far hqueue' hin hnear).gate, State.gate_onGate_self]
      rfl

theorem examine_single_near (hin : s.inWindow g (e.target x.standing) = true)
    (hnear : s.withinTolerance g (e.target x.standing) = true) :
    (examine g (s.onGate g fun _ => x)).gate g = { x.completed (e.target x.standing) e.origin with queue := [] } := by
  have hgate : (s.onGate g fun _ => x).gate g = x := State.gate_onGate_self ..
  have hdevice := not_drain_of_mayIssue (mayIssue_onGate (φ := fun _ => x) hx hfree)
  rw [examine_single hx hqueue hpending htide hfree,
    (takeEntry_of_near (single_queue hqueue) (by rwa [hgate, inWindow_onGate]) (by rwa [hgate, withinTolerance_onGate]) hdevice).gate,
    State.gate_onGate_self, hgate]

theorem examine_single_far (hin : s.inWindow g (e.target x.standing) = true)
    (hfar : s.withinTolerance g (e.target x.standing) = false) :
    (examine g (s.onGate g fun _ => x)).gate g =
      { x.started (s.contextFor g (e.target x.standing) (e.speed.getD (defaultSpeed (s.record g))) e.origin)
          (moveTimeLimit (s.record g)) with queue := [] } := by
  have hgate : (s.onGate g fun _ => x).gate g = x := State.gate_onGate_self ..
  rw [examine_single hx hqueue hpending htide hfree,
    (takeEntry_of_far (single_queue hqueue) (by rwa [hgate, inWindow_onGate]) (by rwa [hgate, withinTolerance_onGate])).gate,
    State.gate_onGate_self, hgate, contextFor_onGate, State.onGate_record]

theorem examine_single_outside (hout : s.inWindow g (e.target x.standing) = false) :
    (examine g (s.onGate g fun _ => x)).gate g = { x with queue := [], rangeFlag := true } := by
  have hgate : (s.onGate g fun _ => x).gate g = x := State.gate_onGate_self ..
  rw [examine_single hx hqueue hpending htide hfree,
    (takeEntry_of_outside (single_queue hqueue) (by rwa [hgate, inWindow_onGate])).gate, State.gate_onGate_self, hgate]

theorem examine_single_posted {h : HoistNo} (hg : gateOf h = g) (hmode : x.mode ≠ .off)
    (hin : s.inWindow g (e.target x.standing) = true) (hfar : s.withinTolerance g (e.target x.standing) = false) :
    (examine g (s.onGate g fun _ => x)).Posted h
      ⟨.move, e.target x.standing, e.speed.getD (defaultSpeed (s.record g))⟩ := by
  have hgate : (s.onGate g fun _ => x).gate g = x := State.gate_onGate_self ..
  have hrun := ((mayIssue_iff _ g).mp (mayIssue_onGate (φ := fun _ => x) hx hfree)).2.1
  rw [examine_single hx hqueue hpending htide hfree]
  have hposted := takeEntry_posted (s := s.onGate g fun _ => x) (e := e) hg hrun (by rwa [hgate])
    (by rwa [hgate, inWindow_onGate]) (by rwa [hgate, withinTolerance_onGate])
  rwa [hgate] at hposted

end single

/-- SET-MODE at an idle gate (R93, R95). -/
theorem idleGateEntersMode : Sys2Proof.Claim.IdleGateEntersMode := by
  intro f s g m hx hread hright hrun hidle hvalid hready hlong x standing upper manual flood waiting
  have hresult : setModeResult g m s = .done := by
    by_cases hoff : m = .off
    · subst hoff
      simp [setModeResult, hidle]
    · exact setModeResult_of_served (.inl hidle) hoff hvalid hready fun h =>
        hlong (by rintro rfl; rcases h with h | h <;> cases h)
  obtain ⟨u, t, hu, ht, hafter, hreplied, _⟩ := setMode_runs hx hread hright hrun hresult
  have hentered : ∀ y, (y.motion = (s.gate g).motion) → s.HeldFromIssue g → (examine g (s.onGate g fun _ => y)).gate g = y :=
    fun y hy hheld => by rw [examine_of_held (mayIssue_of_held ((held_onGate hy).mpr hheld)), State.gate_onGate_self]
  have hnothing : ∀ y : Gate, y.closurePending = false → (∀ e, y.queue.head? = some e → e.automatic = true ∧ y.tideClosed = true) →
      (examine g (s.onGate g fun _ => y)).gate g = y := fun y hpending hhead => by
    rw [examine_of_nothing (by rw [State.gate_onGate_self]; exact hpending) (by rw [State.gate_onGate_self]; exact hhead),
      State.gate_onGate_self]
  refine ⟨t, ht, hreplied, ?_, ?_, ?_⟩
  · rintro rfl
    have hgate : t.gate g = (examine g (s.onGate g fun _ => manual)).gate g := by
      rw [setMode_gate hu hafter nofun, enterMode_manual]
      rfl
    refine ⟨hgate, fun h => hgate.trans ?_⟩
    rcases h with hheld | hempty
    · exact hentered manual rfl hheld
    · exact hnothing manual rfl fun e he => by rw [hempty] at he; cases he
  · rintro rfl hstand
    have hgate : t.gate g = (examine g (s.onGate g fun _ => { flood with queue := [] })).gate g := by
      rw [setMode_gate hu hafter nofun, enterMode_flood, if_pos ⟨hidle, hstand⟩]
      rfl
    exact ⟨hgate, fun hpending => hgate.trans (hnothing _ hpending nofun)⟩
  · rintro rfl hstand
    have hentry : ∀ v : State, AlikeAt g s v → enterMode g .flood v = examine g (v.onGate g fun _ => waiting) := fun v hv => by
      rw [enterMode_flood, hv.gate, hv.record, if_neg fun h => hstand ((standingOn_congr hv).symm.trans h.2),
        standingOn_congr hv]
      rfl
    have hgate : t.gate g = (examine g (s.onGate g fun _ => waiting)).gate g := by
      rw [setMode_gate hu hafter nofun, hentry s (.refl g s)]
    refine ⟨hgate, fun hheld => hgate.trans (hentered waiting rfl hheld), fun hpending htide => hgate.trans
      (hnothing waiting hpending fun e he => ?_), fun hpending htide hfree hlower => ?_⟩
    · cases he
      exact ⟨rfl, htide⟩
    have hin : s.inWindow g upper = true := (inWindow_iff ..).mpr ⟨hlower, le_rfl⟩
    refine ⟨fun hnear => hgate.trans ?_, fun hfar => ⟨hgate.trans ?_, fun h hg => hafter.posted ?_⟩⟩
    · exact examine_single_near (x := waiting) rfl rfl hpending (fun _ => htide) hfree hin hnear
    · exact examine_single_far (x := waiting) rfl rfl hpending (fun _ => htide) hfree hin hfar
    · have hat := hu.alikeAt g
      rw [hentry u hat]
      exact examine_single_posted (x := waiting) (s := u) (by rw [hat.gate]) rfl hpending (fun _ => htide) (mt hat.held.mp hfree) hg
        nofun (by rw [hat.inWindow]; exact hin) (by rw [hat.withinTolerance]; exact hfar)

/-- Settles O43: the entry of MANUAL, AUTO and FLOOD. -/
theorem setModeTaken : Obligations.SetModeTaken := ⟨modeEntered, idleGateEntersMode⟩

end Sys2Proof.Machine
end

section
/-!
PROOFS. MOVE-TO and MOVE-BY: queued, issued at once, or the move in flight retargeted (R103 to R110).
-/

namespace Sys2Proof.Machine

/-! ### The order read and carried out -/

theorem readMove_form {form : Form} {f : Frame} {o : MoveOrder} (h : readMove form f = some o) : o.form = form := by
  unfold readMove at h
  split at h
  · split at h
    · rw [← Option.some.inj h]
    · cases h
  · cases h

theorem command_of_form (form : Form) :
    (if form = .absolute then RequestName.moveTo else .moveBy).command = if form = .absolute then .moveTo else .moveBy := by
  cases form <;> rfl

theorem effect_of_form {form : Form} {f : Frame} {o : MoveOrder} (h : readMove form f = some o) (u : State) :
    RequestName.effect (if form = .absolute then .moveTo else .moveBy) f u = effectMove o f.src f.tag u := by
  cases form <;> simp [RequestName.effect, effectMoveOrder, h]

theorem OnlyTraffic.alikeAt {s t : State} (h : OnlyTraffic s t) (g : GateNo) : AlikeAt g s t :=
  h.surroundings.alikeAt (h.gate g) h.sup

/-- A MOVE answered DONE: its effect between traffic, and what it leaves alone. -/
theorem move_runs {form : Form} {f : Frame} {s : State} {o : MoveOrder}
    (hx : s.Executing (if form = .absolute then .moveTo else .moveBy) f) (hread : readMove form f = some o)
    (hright : s.mayOrder f.src = true) (hrun : s.sup.device = .run) (hresult : moveResult o s = .done) :
    ∃ u t, Flow s u ∧ (s.NoticeRoom → u.NoticeRoom) ∧ exec (if form = .absolute then .moveTo else .moveBy) s = .next t ∧
      Flow (effectMove o f.src f.tag u) t ∧ t.Replied f (refuse .done) ∧
      (∀ j, j ≠ o.gate → t.gate j = s.gate j) ∧ t.sup = s.sup ∧ SameSurroundings s t ∧
      ∀ k, gateOf k ≠ o.gate → (t.hoist k).exceptPhase = (s.hoist k).exceptPhase := by
  have ha : RequestName.answer (if form = .absolute then .moveTo else .moveBy) f s = refuse .done := by
    rw [answer_of_form, answerMove_of_run hread hright hrun, hresult]
  obtain ⟨u, t, hu, hroom, ht, hafter, hreplied⟩ := request_runs hx ha
  rw [effect_of_form hread] at hafter hreplied
  rw [command_of_form] at ht
  have hwithin : Within (fun j => j = o.gate) u (effectMove o f.src f.tag u) :=
    (effectMove_works (G := fun j => j = o.gate) f.src f.tag rfl (by rw [hu.sup]; exact hrun)
      (by rw [hu.traffic.moveResult]; exact hresult)).within
  obtain ⟨hgates, hsup, hsame, hothers⟩ := hwithin.of_flows hu hafter hrun
  exact ⟨u, t, hu, hroom, ht, hafter, hreplied hwithin.placed, hgates, hsup, hsame, hothers⟩

theorem moveResult_of_room {o : MoveOrder} {s : State} (hfree : s.sup.holdLine = false) (hmode : (s.gate o.gate).mode = .manual)
    (hjoin : o.preempt = false) (hroom : (s.gate o.gate).queue.length < 4) : moveResult o s = .done := by
  simp [moveResult, hfree, hmode, hjoin, hroom]

theorem moveResult_of_preempt {o : MoveOrder} {s : State} (hfree : s.sup.holdLine = false)
    (hmode : (s.gate o.gate).mode = .manual) (hpreempt : o.preempt = true) : moveResult o s = preemptResult o s := by
  simp [moveResult, hfree, hmode, hpreempt]

theorem preemptResult_of_window {o : MoveOrder} {s : State}
    (h : (s.gate o.gate).inFlight = true ∨ ((s.gate o.gate).motion = .idle ∧ s.bothStill o.gate = true)) :
    preemptResult o s = if s.inWindow o.gate (o.target (s.gate o.gate)) = true then .done else .range := by
  rw [preemptResult_of_ready h]
  simp only [inWindow_iff]

theorem moveTarget_eq {form : Form} {f : Frame} {o : MoveOrder} (h : readMove form f = some o) (x : Gate) :
    o.target x = if form = .absolute then o.value else x.aim + o.value := by
  unfold MoveOrder.target
  rw [readMove_form h]
  cases form <;> rfl

/-! ### Queued (R99, R100) -/

/-- The entry a MOVE queues. -/
def MoveOrder.entry (o : MoveOrder) (src tag : Byte) : Entry := ⟨.order src tag, o.form, o.value, o.speed⟩

theorem effectMove_of_joining {o : MoveOrder} (src tag : Byte) (hjoin : o.preempt = false) (s : State) :
    effectMove o src tag s =
      examine o.gate (s.onGate o.gate fun x => { x with queue := x.queue ++ [o.entry src tag] }) := by
  unfold effectMove
  dsimp only
  rw [hjoin]
  rfl

/-- Settles O46: the order joins the tail, and the gate is held from issuing. -/
theorem moveOrderQueued : Obligations.MoveOrderQueued := by
  intro form f s o hx hread hjoin hright hrun hfree hmode hroom hheld
  obtain ⟨u, t, hu, _, ht, hafter, hreplied, _⟩ :=
    move_runs hx hread hright hrun (moveResult_of_room hfree hmode hjoin hroom)
  refine ⟨t, ht, hreplied, ?_⟩
  have hat := hu.alikeAt o.gate
  have hentry : o.entry f.src f.tag = ⟨.order f.src f.tag, form, o.value, o.speed⟩ := by
    unfold MoveOrder.entry
    rw [readMove_form hread]
  have hkept : effectMove o f.src f.tag u =
      u.onGate o.gate fun x => { x with queue := x.queue ++ [o.entry f.src f.tag] } := by
    rw [effectMove_of_joining _ _ hjoin]
    refine examine_of_held (mayIssue_of_held ((held_onGate rfl).mpr (hat.held.mpr ?_)))
    rw [State.HeldFromIssue, ← not_not (a := _ ∨ _), ← State.HeldFromIssue, ← mayIssue_iff_not_held, mayIssue_iff]
    rintro ⟨hidle, _, _, hstill⟩
    exact hheld.elim (fun h => h hidle) fun h => by rw [hstill] at h; cases h
  rw [hkept, hentry] at hafter
  exact (hu.traffic.onGate _ _).trans hafter.traffic

/-! ### Issued at once (R104, R108 to R110, R113) -/

theorem order_not_automatic (o : MoveOrder) (src tag : Byte) : (o.entry src tag).automatic = false := rfl

section ready

variable {o : MoveOrder} {u : State} {src tag : Byte} (hmay : u.mayIssue o.gate = true) (hempty : (u.gate o.gate).queue = [])
  (hpending : (u.gate o.gate).closurePending = false)

include hmay hempty hpending

/-- On a gate with nothing to issue a queued MOVE is the one entry taken. -/
theorem effectMove_of_ready_joining (hjoin : o.preempt = false) :
    effectMove o src tag u =
      takeEntry o.gate (o.entry src tag) (u.onGate o.gate fun x => { x with queue := [o.entry src tag] }) := by
  have hfree := (mayIssue_iff_not_held u o.gate).mp hmay
  have hqueued : (u.onGate o.gate fun x => { x with queue := x.queue ++ [o.entry src tag] }) =
      u.onGate o.gate fun _ => { u.gate o.gate with queue := [o.entry src tag] } :=
    State.onGate_congr (by rw [hempty]; rfl)
  rw [effectMove_of_joining _ _ hjoin, hqueued,
    examine_single (x := { u.gate o.gate with queue := [o.entry src tag] }) rfl rfl hpending
      (fun h => by rw [order_not_automatic] at h; cases h) hfree]
  exact congrArg (takeEntry o.gate _) (State.onGate_congr rfl)

omit hempty hpending in
theorem entryTarget_of_ready : (o.entry src tag).target (u.gate o.gate).standing = o.target (u.gate o.gate) := by
  unfold Entry.target MoveOrder.target
  rw [aim_of_idle ((mayIssue_iff u o.gate).mp hmay).1]
  rfl

omit hmay hpending in
theorem emptied_self : (u.onGate o.gate fun x => { x with queue := [o.entry src tag] }).onGate o.gate
    (fun x => { x with queue := x.queue.tail }) = u := by
  rw [State.onGate_onGate]
  refine State.onGate_self ?_
  rw [← hempty]
  rfl

/-- In the window the MOVE is issued, with PREEMPT or without. -/
theorem effectMove_of_ready (hin : u.inWindow o.gate (o.target (u.gate o.gate)) = true) :
    effectMove o src tag u =
      issueMove o.gate (u.contextFor o.gate (o.target (u.gate o.gate)) (u.resolveSpeed o.gate o.speed) (.order src tag)) u := by
  rw [← contextFor_eq_capture]
  cases hpreempt : o.preempt with
  | false =>
    have hstanding : ((u.onGate o.gate fun x => { x with queue := [o.entry src tag] }).gate o.gate).standing =
        (u.gate o.gate).standing := by rw [State.gate_onGate_self]
    rw [effectMove_of_ready_joining hmay hempty hpending hpreempt]
    unfold takeEntry
    dsimp only
    rw [hstanding, entryTarget_of_ready hmay, inWindow_onGate, if_pos hin,
      emptied_self hempty]
    rfl
  | true =>
    have hflight : (u.gate o.gate).inFlight = false := not_inFlight_of_idle ((mayIssue_iff u o.gate).mp hmay).1
    unfold effectMove
    dsimp only
    rw [hpreempt, hflight, if_pos rfl, if_neg Bool.false_ne_true]
    obtain ⟨hqueue, hclosure⟩ := issueMove_gate_keeps o.gate
      (u.capture o.gate (o.target (u.gate o.gate)) (u.resolveSpeed o.gate o.speed) (.order src tag)) (not_drain_of_mayIssue hmay)
    exact examine_of_nothing (hclosure.trans hpending) fun e he => by rw [hqueue, hempty] at he; cases he

/-- Out of the window a MOVE without PREEMPT is discarded (R108). -/
theorem effectMove_of_outside (hjoin : o.preempt = false) (hout : u.inWindow o.gate (o.target (u.gate o.gate)) = false) :
    effectMove o src tag u = notifyRange o.gate (o.target (u.gate o.gate)) (.order src tag)
      (u.onGate o.gate fun x => { x with rangeFlag := true }) := by
  have hstanding : ((u.onGate o.gate fun x => { x with queue := [o.entry src tag] }).gate o.gate).standing =
      (u.gate o.gate).standing := by rw [State.gate_onGate_self]
  rw [effectMove_of_ready_joining hmay hempty hpending hjoin]
  unfold takeEntry
  dsimp only
  rw [hstanding, entryTarget_of_ready hmay, inWindow_onGate, hout, if_neg Bool.false_ne_true,
    emptied_self hempty]
  rfl

end ready

/-! ### What a start and a completion leave -/

theorem startSettle_hoist {g : GateNo} {h : HoistNo} (hg : gateOf h = g) (s : State) :
    (startSettle g s).hoist h = { s.hoist h with
      settleTimer := if settleInterval s.store.thresholds = 0 then none else some (settleInterval s.store.thresholds) } := by
  have hne := left_ne_right g
  unfold startSettle
  dsimp only
  rcases hoist_of_gate hg with rfl | rfl
  · rw [State.hoist_onHoist_ne _ _ _ _ hne, State.hoist_onHoist_self]
  · rw [State.hoist_onHoist_self, State.hoist_onHoist_ne _ _ _ _ hne.symm]

theorem startMove_settleTimer {g : GateNo} {h : HoistNo} (hg : gateOf h = g) (c : MoveContext) (s : State) :
    ((startMove g c s).hoist h).settleTimer =
      if s.store.thresholds[18] = 0#16 then none else some (s.store.thresholds[18]).toNat := by
  have hstore : (postMoves g c.target c.speed (s.onGate g fun x => x.started c (moveTimeLimit (s.record g)))).store = s.store :=
    (postMoves_surroundings g c.target c.speed _).store
  rw [startMove_eq, startSettle_hoist hg, hstore]
  have hzero : settleInterval s.store.thresholds = 0 ↔ s.store.thresholds[18] = 0#16 := eq_iff_toNat_eq _ 0 (by decide)
  simp only [hzero]
  rfl

/-- MoveOrderIssued, of O47. -/
theorem moveOrderIssued : Sys2Proof.Claim.MoveOrderIssued := by
  intro form f s o hx hread hright hrun hfree hmode hidle hempty hpending hstill target speed hin hfar
  have htarget : o.target (s.gate o.gate) = target := by rw [moveTarget_eq hread, aim_of_idle hidle]
  have hresult : moveResult o s = .done := by
    cases hpreempt : o.preempt with
    | false => exact moveResult_of_room hfree hmode hpreempt (by rw [hempty]; decide)
    | true =>
      rw [moveResult_of_preempt hfree hmode hpreempt, preemptResult_of_window (.inr ⟨hidle, hstill⟩), htarget, if_pos hin]
  obtain ⟨u, t, hu, _, ht, hafter, hreplied, hgates, hsup, hsame, hothers⟩ := move_runs hx hread hright hrun hresult
  have hat := hu.alikeAt o.gate
  have heffect : effectMove o f.src f.tag u =
      startMove o.gate (s.contextFor o.gate target speed (.order f.src f.tag)) u := by
    rw [effectMove_of_ready (by rw [hat.mayIssue, mayIssue_iff]; exact ⟨hidle, hrun, hfree, hstill⟩)
      (by rw [hat.gate, hempty]) (by rw [hat.gate, hpending]) (by rw [hat.gate, htarget, hat.inWindow, hin]), issueMove_eq,
      hat.gate, htarget, ← contextFor_eq_capture, hat.capture, hat.resolveSpeed, contextFor_eq_capture, hat.withinTolerance]
    exact if_neg (by simp [State.contextFor, hfar])
  rw [heffect] at hafter
  refine ⟨t, ht, hreplied, ?_, hgates, hsup, hsame, fun h hg => ⟨hafter.posted ?_, ?_⟩, hothers⟩
  · rw [hafter.gate, startMove_gate_self, hat.gate, hat.record, ← contextFor_eq_capture]
    rfl
  · exact startMove_posted hg (by rw [hu.sup]; exact hrun) (by rw [hat.gate, hmode]; nofun)
  · rw [Hoist.settleTimer_of_exceptPhase (hafter.hoists h).exceptPhase, startMove_settleTimer hg, hat.store]

/-! ### Notices to the originator (R122) -/

theorem completeMove_order {g : GateNo} {c : MoveContext} {s : State} {src tag : Byte} (hdevice : s.sup.device ≠ .drain)
    (horigin : c.origin = .order src tag) : completeMove g c s =
      offerNotice src (arrivedPayload g c.target tag) (s.onGate g fun x => x.completed c.target c.origin) := by
  have hdrain : testDrain (s.onGate g fun x => x.completed c.target c.origin) =
      s.onGate g fun x => x.completed c.target c.origin := by simp [testDrain, hdevice]
  rw [completeMove_eq, hdrain, horigin]
  rfl

/-- A change of the gate and a notice: the gate, the frame placed, and the hoists as they were. -/
theorem notice_of_change {g : GateNo} {s u t : State} {φ : Gate → Gate} {dest : Byte} {p : List Word} (hu : Flow s u)
    (hroom : s.NoticeRoom → u.NoticeRoom) (hafter : Flow (offerNotice dest p (u.onGate g φ)) t) :
    t.gate g = φ (s.gate g) ∧ (∀ h, (t.hoist h).exceptPhase = (s.hoist h).exceptPhase) ∧
      (s.NoticeRoom → t.Placed (.notice (s.nextNotice dest p)) (s.nextNotice dest p)) := by
  have hnotices := offerNotice_notices dest p (u.onGate g φ)
  refine ⟨?_, fun h => ?_, fun hs => ?_⟩
  · rw [hafter.gate, hnotices.gate, State.gate_onGate_self, hu.gate]
  · exact ((hafter.hoists h).exceptPhase.trans (hnotices.hoists h)).trans (hu.hoists h).exceptPhase
  · have hplaced := (offerNotice_placed (s := u.onGate g φ) dest p (hroom hs)).2
    have htag : (u.onGate g φ).nextNotice dest p = s.nextNotice dest p := by
      unfold State.nextNotice
      rw [State.onGate_post, hu.traffic.tagCounter]
    rw [htag] at hplaced
    exact hafter.placed _ _ rfl hplaced

/-- MoveOrderEndsAtIssue, of O47. -/
theorem moveOrderEndsAtIssue : Sys2Proof.Claim.MoveOrderEndsAtIssue := by
  intro form f s o hx hread hright hrun hfree hmode hidle hempty hpending hstill x target lower upper notice
  have htarget : o.target (s.gate o.gate) = target := by rw [moveTarget_eq hread, aim_of_idle hidle]
  have hpreempted (hpreempt : o.preempt = true) :
      moveResult o s = if s.inWindow o.gate target = true then .done else .range := by
    rw [moveResult_of_preempt hfree hmode hpreempt, preemptResult_of_window (.inr ⟨hidle, hstill⟩), htarget]
  have hjoined (hjoin : o.preempt = false) : moveResult o s = .done :=
    moveResult_of_room hfree hmode hjoin (by rw [hempty]; decide)
  have hmay : s.mayIssue o.gate = true := (mayIssue_iff s o.gate).mpr ⟨hidle, hrun, hfree, hstill⟩
  have hdevice : s.sup.device ≠ .drain := by rw [hrun]; nofun
  cases hin : s.inWindow o.gate target with
  | true =>
    have hresult : moveResult o s = .done := by
      cases hpreempt : o.preempt with
      | false => exact hjoined hpreempt
      | true => rw [hpreempted hpreempt, if_pos hin]
    obtain ⟨u, t, hu, hroom, ht, hafter, hreplied, hgates, hsup, hsame, hothers⟩ := move_runs hx hread hright hrun hresult
    have hat := hu.alikeAt o.gate
    have heffect (hnear : s.withinTolerance o.gate target = true) : effectMove o f.src f.tag u =
        offerNotice f.src (arrivedPayload o.gate target f.tag)
          (u.onGate o.gate fun y => y.completed target (.order f.src f.tag)) := by
      rw [effectMove_of_ready (by rw [hat.mayIssue, hmay]) (by rw [hat.gate, hempty]) (by rw [hat.gate, hpending])
        (by rw [hat.gate, htarget, hat.inWindow, hin]), issueMove_eq, hat.gate, htarget,
        ← contextFor_eq_capture, hat.capture, hat.resolveSpeed, contextFor_eq_capture, hat.withinTolerance,
        if_pos (by exact hnear), completeMove_order (by rw [hat.sup]; exact hdevice) rfl]
      rfl
    refine ⟨t, ht, fun _ hnear => ?_, nofun, nofun, fun hends => ?_⟩
    · rw [heffect hnear] at hafter
      obtain ⟨hgate, _, hplaced⟩ := notice_of_change hu hroom hafter
      exact ⟨hreplied, hgate, hplaced⟩
    · rw [heffect (hends rfl)] at hafter
      exact ⟨hgates, hsup, hsame, (notice_of_change hu hroom hafter).2.1⟩
  | false =>
    cases hpreempt : o.preempt with
    | true =>
      have ha : RequestName.answer (if form = .absolute then .moveTo else .moveBy) f s = refuse .range := by
        rw [answer_of_form, answerMove_of_run hread hright hrun, hpreempted hpreempt, if_neg (by simp [hin])]
      obtain ⟨t, ht, hreplied, htraffic⟩ := request_refused hx ha nofun
      rw [command_of_form] at ht
      exact ⟨t, ht, nofun, nofun, fun _ _ => ⟨hreplied, htraffic⟩,
        fun _ => ⟨fun j _ => htraffic.gate j, htraffic.sup, htraffic.surroundings, htraffic.hoists⟩⟩
    | false =>
      obtain ⟨u, t, hu, hroom, ht, hafter, hreplied, hgates, hsup, hsame, hothers⟩ :=
        move_runs hx hread hright hrun (hjoined hpreempt)
      have hat := hu.alikeAt o.gate
      have heffect : effectMove o f.src f.tag u =
          offerNotice f.src (rangePayload o.gate target f.tag (s.record o.gate))
            (u.onGate o.gate fun y => { y with rangeFlag := true }) := by
        rw [effectMove_of_outside (by rw [hat.mayIssue, hmay]) (by rw [hat.gate, hempty]) (by rw [hat.gate, hpending]) hpreempt
          (by rw [hat.gate, htarget, hat.inWindow, hin]), hat.gate, htarget]
        unfold notifyRange
        rw [State.onGate_record, hat.record]
      rw [heffect] at hafter
      obtain ⟨hgate, hhoists, hplaced⟩ := notice_of_change hu hroom hafter
      refine ⟨t, ht, nofun, fun _ _ => ⟨hreplied, hgate, fun hs => ?_⟩, nofun, fun _ => ⟨hgates, hsup, hsame, hhoists⟩⟩
      have hword : rangePayload o.gate target f.tag (s.record o.gate) =
          [pack [(8, 8), (o.gate.val, 0)], word (max (-32768) (min 32767 target)), pack [(f.tag.toNat, 0)], word lower,
            word upper] := by
        unfold rangePayload
        rw [clamp_eq (by decide)]
        rfl
      have h := hplaced hs
      rw [hword] at h
      exact h

/-- Settles O47: an order on a gate that stands ready is issued, or ends at issue. -/
theorem moveOrderStartsMove : Obligations.MoveOrderStartsMove := ⟨moveOrderIssued, moveOrderEndsAtIssue⟩

/-- Settles O48: the order that preempts replaces the move in flight. -/
theorem preemptingMoveRetargets : Obligations.PreemptingMoveRetargets := by
  intro form f s o c hx hread hpreempt hright hrun hfree hmode hflight hc target speed hin
  have htarget : o.target (s.gate o.gate) = target := by rw [moveTarget_eq hread, aim_of_inFlight hflight hc]
  have hresult : moveResult o s = .done := by
    rw [moveResult_of_preempt hfree hmode hpreempt, preemptResult_of_window (.inl hflight), htarget, if_pos hin]
  obtain ⟨u, t, hu, _, ht, hafter, hreplied, hgates, hsup, hsame, _⟩ := move_runs hx hread hright hrun hresult
  have hat := hu.alikeAt o.gate
  have heffect : effectMove o f.src f.tag u =
      startMove o.gate (s.contextFor o.gate target speed (.order f.src f.tag)) u := by
    unfold effectMove retarget
    dsimp only
    rw [hpreempt, if_pos rfl, hat.gate, if_pos hflight, htarget, hat.capture, hat.resolveSpeed, contextFor_eq_capture]
    rfl
  rw [heffect] at hafter
  refine ⟨t, ht, hreplied, ?_, hgates, hsup, hsame, fun h hg => hafter.posted ?_⟩
  · rw [hafter.gate, startMove_gate_self, hat.gate, hat.record, ← contextFor_eq_capture]
    rfl
  · exact startMove_posted hg (by rw [hu.sup]; exact hrun) (by rw [hat.gate, hmode]; nofun)

end Sys2Proof.Machine
end

section
/-!
PROOFS. STOP (R106), CLEAR-GATE and RESUME-GATE (R166 to R168), and SOFT-RESET (R172).
-/

namespace Sys2Proof.Machine

/-! ### STOP at one gate (R106) -/

/-- The gate a STOP leaves: its queue empty, and STOPPING when it was in flight. -/
def State.haltedGate (s : State) (g : GateNo) : Gate :=
  if (s.gate g).inFlight = true then { s.stoppedGate g with queue := [] } else { s.gate g with queue := [] }

/-- STOP is posted to the hoists of a gate in flight and of one IDLE outside OFF. -/
def Gate.HaltPosts (x : Gate) : Prop := x.inFlight = true ∨ (x.motion = .idle ∧ x.mode ≠ .off)

theorem stopGate_of_posts {g : GateNo} {s : State} (h : (s.gate g).HaltPosts) :
    stopGate g s = postStops g (s.onGate g fun _ => s.haltedGate g) := by
  unfold stopGate State.haltedGate
  dsimp only
  cases hflight : (s.gate g).inFlight with
  | true =>
    rw [if_pos rfl, if_pos rfl, enterStopping_eq, State.onGate_onGate]
    refine congrArg (postStops g) (State.onGate_congr ?_)
    unfold State.stoppedGate
    rw [State.gate_onGate_self]
    rfl
  | false =>
    have hidle : (s.gate g).motion = .idle ∧ (s.gate g).mode ≠ .off := h.resolve_left (by rw [hflight]; nofun)
    rw [if_neg Bool.false_ne_true, if_neg Bool.false_ne_true, if_pos hidle]
    exact congrArg (postStops g) (State.onGate_congr rfl)

theorem stopGate_of_no_posts {g : GateNo} {s : State} (h : ¬(s.gate g).HaltPosts) :
    stopGate g s = s.onGate g fun _ => s.haltedGate g := by
  have hflight : ¬(s.gate g).inFlight = true := fun hf => h (.inl hf)
  unfold stopGate State.haltedGate
  dsimp only
  rw [if_neg hflight, if_neg fun hidle => h (.inr hidle), if_neg hflight]
  exact State.onGate_congr rfl

theorem stopGate_gate (g : GateNo) (s : State) : (stopGate g s).gate g = s.haltedGate g := by
  by_cases h : (s.gate g).HaltPosts
  · rw [stopGate_of_posts h, postStops_gate, State.gate_onGate_self]
  · rw [stopGate_of_no_posts h, State.gate_onGate_self]

theorem stopGate_alikeAt (g : GateNo) (s : State) : AlikeAt g (s.onGate g fun _ => s.haltedGate g) (stopGate g s) := by
  by_cases h : (s.gate g).HaltPosts
  · rw [stopGate_of_posts h]
    exact postStops_alikeAt g g _
  · rw [stopGate_of_no_posts h]
    exact .refl g _

theorem AlikeAt.haltedGate {g : GateNo} {s t : State} (h : AlikeAt g s t) : t.haltedGate g = s.haltedGate g := by
  unfold State.haltedGate State.stoppedGate
  rw [h.gate, h.store]

theorem AlikeAt.stopGate {g : GateNo} {s t : State} (h : AlikeAt g s t) : AlikeAt g (stopGate g s) (stopGate g t) := by
  have hchange := h.onGate fun _ => s.haltedGate g
  have ht := stopGate_alikeAt g t
  rw [h.haltedGate] at ht
  exact ((stopGate_alikeAt g s).symm.trans hchange).trans ht

theorem stopGate_posted {h : HoistNo} {g : GateNo} {s : State} (hg : gateOf h = g) (hposts : (s.gate g).HaltPosts) :
    (stopGate g s).Posted h (stopSetpoint (s.hoist h)) := by
  rw [stopGate_of_posts hposts]
  exact postStops_posted (s.onGate g fun _ => s.haltedGate g) hg

theorem stopGate_keeps_stop {h : HoistNo} {g : GateNo} {s : State} (hs : s.Posted h (stopSetpoint (s.hoist h))) :
    (stopGate g s).Posted h (stopSetpoint (s.hoist h)) := by
  have hkept : (s.onGate g fun _ => s.haltedGate g).Posted h (stopSetpoint (s.hoist h)) := posted_congr rfl rfl hs
  by_cases hposts : (s.gate g).HaltPosts
  · rw [stopGate_of_posts hposts]
    exact postStops_keeps_stop hkept rfl
  · rw [stopGate_of_no_posts hposts]
    exact hkept

/-! ### STOP at the gates named (R102) -/

theorem foldl_stopGate_surroundings (gs : List GateNo) (s : State) :
    SameSurroundings s (gs.foldl (fun acc g => stopGate g acc) s) :=
  (foldl_works (G := fun _ => True) _ gs (fun t _ _ => stopGate_works t trivial) s).within.surroundings

theorem foldl_stopGate_keeps_stop (gs : List GateNo) {h : HoistNo} {s : State} (hs : s.Posted h (stopSetpoint (s.hoist h))) :
    (gs.foldl (fun acc g => stopGate g acc) s).Posted h (stopSetpoint (s.hoist h)) := by
  induction gs generalizing s with
  | nil => exact hs
  | cons g gs ih =>
    have hposition := (stopGate_works (G := fun _ => True) s (g := g) trivial).within.surroundings.stopSetpoint h
    rw [← hposition]
    refine ih ?_
    rw [hposition]
    exact stopGate_keeps_stop hs

theorem foldl_stopGate_posted {gs : List GateNo} {h : HoistNo} {s : State} (hmem : gateOf h ∈ gs)
    (hdevice : s.sup.device ≠ .drain) (hposts : (s.gate (gateOf h)).HaltPosts) :
    (gs.foldl (fun acc g => stopGate g acc) s).Posted h (stopSetpoint (s.hoist h)) := by
  induction gs generalizing s with
  | nil => cases hmem
  | cons g gs ih =>
    have hwithin := (stopGate_works (G := (· = g)) s rfl).within
    have hposition := hwithin.surroundings.stopSetpoint h
    rw [List.foldl_cons, ← hposition]
    by_cases e : gateOf h = g
    · refine foldl_stopGate_keeps_stop gs ?_
      rw [hposition]
      exact stopGate_posted e (e ▸ hposts)
    · refine ih (List.mem_of_ne_of_mem e hmem) (by rwa [hwithin.device]) ?_
      rwa [hwithin.gates _ e]

theorem foldl_stopGate_gate {gs : List GateNo} (hgs : gs.Nodup) {s : State} (hdevice : s.sup.device ≠ .drain) (g : GateNo) :
    (gs.foldl (fun acc k => stopGate k acc) s).gate g = if g ∈ gs then s.haltedGate g else s.gate g := by
  rw [(foldl_alikeAt (f := stopGate) (g := g) (fun k t => stopGate_works t rfl) (fun _ _ h => h.stopGate) hgs hdevice).gate]
  split
  · exact stopGate_gate g s
  · rfl

/-- The gates a STOP frame names. -/
theorem readStop_named {f : Frame} {named : GateNo → Prop}
    (h : (orderGate f = 15 ∧ ∀ g, named g) ∨ (orderGate f < 8 ∧ ∀ g, named g ↔ g.val = orderGate f)) :
    ∃ gs, readStop f = some gs ∧ gs.Nodup ∧ ∀ g, g ∈ gs ↔ named g := by
  unfold readStop
  rcases h with ⟨hall, hnamed⟩ | ⟨hone, hnamed⟩
  · exact ⟨allGates, if_pos hall, allGates_nodup, fun g => ⟨fun _ => hnamed g, fun _ => mem_allGates g⟩⟩
  · refine ⟨[⟨orderGate f, hone⟩], ?_, List.nodup_singleton _, fun g => ?_⟩
    · rw [if_neg (by omega), gateOfNat_of_val (g := ⟨orderGate f, hone⟩) rfl]
      rfl
    · rw [List.mem_singleton, hnamed, Fin.ext_iff]

/-- Settles O49: each named gate is stopped as if alone. -/
theorem stopOrderStopsGates : Obligations.StopOrderStopsGates := by
  intro f s named hx hright hrun hnamed
  obtain ⟨gs, hread, hgs, hmem⟩ := readStop_named hnamed
  have ha : RequestName.answer .stop f s = refuse .done := by
    change decideOrder f s (readStop f).isNone .done = _
    rw [hread]
    exact decideOrder_of_run _ hright hrun
  obtain ⟨u, t, hu, _, ht, hafter, hreplied⟩ := request_runs hx ha
  have heffect : RequestName.effect .stop f u = gs.foldl (fun acc g => stopGate g acc) u := by
    change effectStop f u = _
    unfold effectStop
    rw [hread]
  rw [heffect] at hafter hreplied
  have hdevice : u.sup.device ≠ .drain := by rw [hu.sup, hrun]; nofun
  have hwithin : Within named u (gs.foldl (fun acc g => stopGate g acc) u) :=
    (foldl_works (G := named) _ gs (fun v g hg => stopGate_works v ((hmem g).mp hg)) u).within
  have hall := ((hu.within _).trans hwithin).trans (hafter.within named)
  refine ⟨t, ht, hreplied hwithin.placed, fun g hg => ?_, fun g hg => hall.gates g hg,
    hall.sup_of_not_drain (by rw [hrun]; nofun), hall.surroundings, fun h hg hposts => hafter.posted ?_,
    fun h hg => hall.exceptPhase h hg⟩
  · rw [hafter.gate, foldl_stopGate_gate hgs hdevice, if_pos ((hmem g).mpr hg), (hu.alikeAt g).haltedGate]
    rfl
  · rw [← hu.traffic.surroundings.stopSetpoint]
    exact foldl_stopGate_posted ((hmem _).mpr hg) hdevice (by rw [hu.gate]; exact hposts)

/-! ### CLEAR-GATE (R166) -/

theorem clearGate_within (g : GateNo) (s : State) : Within (fun j => j = g) s (clearGate g s) := by
  rw [clearGate_eq]
  exact (onGate_within (G := fun j => j = g) s g _ rfl).trans (postStops_works (G := fun j => j = g) (g := g) _ rfl).within

theorem clearGate_gate (g : GateNo) (s : State) : (clearGate g s).gate g =
    { s.gate g with mode := .hold, motion := .idle, queue := [], closurePending := false, tideClosed := false
                    standing := s.gatePosition g
                    save := { (s.gate g).save with occupied := false, resumed := false } } := by
  rw [clearGate_eq, postStops_gate, State.gate_onGate_self]

theorem clearGate_posted {h : HoistNo} {g : GateNo} (hg : gateOf h = g) (s : State) :
    (clearGate g s).Posted h (stopSetpoint (s.hoist h)) := by
  rw [clearGate_eq]
  exact postStops_posted (s.onGate g _) hg

/-- Settles O57: the gate cleared is in HOLD, and STOP is posted to both hoists. -/
theorem clearGateReturnsToHold : Obligations.ClearGateReturnsToHold := by
  intro f s g hx hnamed hright hrun hfaulted
  have ha : RequestName.answer .clearGate f s = refuse .done := by
    refine (answerClearGate_of_run hnamed hright hrun).trans ?_
    rw [clearGateResult_eq, if_pos hfaulted]
  obtain ⟨u, t, hu, _, ht, hafter, hreplied⟩ := request_runs hx ha
  have heffect : RequestName.effect .clearGate f u = clearGate g u := by
    change effectClearGate f u = _
    unfold effectClearGate
    rw [hnamed]
  rw [heffect] at hafter hreplied
  obtain ⟨hgates, hsup, hsame, _⟩ := (clearGate_within g u).of_flows hu hafter hrun
  refine ⟨t, ht, hreplied (clearGate_within g u).placed, ?_, hgates, hsup, hsame, request_faultLine hx ht,
    fun h hg => hafter.posted ?_⟩
  · rw [hafter.gate, clearGate_gate, hu.gate, (hu.alikeAt g).gatePosition]
  · rw [← hu.traffic.surroundings.stopSetpoint]
    exact clearGate_posted hg u

/-! ### RESUME-GATE (R167, R168) -/

theorem resumeResult_of_recoverable {g : GateNo} {s : State} (hfaulted : (s.gate g).motion = .faulted)
    (hresumed : (s.gate g).save.resumed = false) (hrecoverable : (s.gate g).save.recoverable = .yes)
    (hstanding : s.standing g = false) (hin : s.inWindow g (s.gate g).save.target = true) : resumeResult g s = .done := by
  simp [resumeResult, hfaulted, hresumed, hrecoverable, hstanding, hin]

/-- Settles O58: the saved move starts anew, and the record is marked. -/
theorem resumeGateReissuesMove : Obligations.ResumeGateReissuesMove := by
  intro f s g hx hnamed hright hrun hfaulted hmode hresumed hrecoverable hstill hfree hcalm r hlower hupper
  have hstanding : s.standing g = false := by
    rw [Bool.eq_false_iff, Ne, standing_iff]
    rintro (hline | ⟨h, hg, hout⟩)
    · rw [hfree] at hline
      cases hline
    · obtain ⟨hha, hla⟩ := hcalm h hg
      obtain ⟨hl, hr⟩ := (bothStill_iff s g).mp hstill
      rcases hout with h1 | h1 | h1
      · rw [hha] at h1
        cases h1
      · rw [hla] at h1
        cases h1
      · rcases eq_leftHoist_or_rightHoist.mpr hg with rfl | rfl
        exacts [h1 hl, h1 hr]
  have hresult : resumeResult g s = .done :=
    resumeResult_of_recoverable hfaulted hresumed hrecoverable hstanding ((inWindow_iff ..).mpr ⟨hlower, hupper⟩)
  have ha : RequestName.answer .resumeGate f s = refuse .done :=
    (answerResumeGate_of_run hnamed hright hrun).trans (congrArg refuse hresult)
  obtain ⟨u, t, hu, _, ht, hafter, hreplied⟩ := request_runs hx ha
  have heffect : RequestName.effect .resumeGate f u = resumeGate g u := by
    change effectResumeGate f u = _
    unfold effectResumeGate
    rw [hnamed]
  have hwithin : Within (fun j => j = g) u (resumeGate g u) :=
    (resumeGate_works (G := fun j => j = g) rfl (by rw [hu.sup]; exact hrun) (by rw [hu.traffic.resumeResult]; exact hresult)).within
  rw [heffect] at hafter hreplied
  obtain ⟨hgates, hsup, hsame, _⟩ := hwithin.of_flows hu hafter hrun
  have hat := hu.alikeAt g
  unfold resumeGate at hafter
  dsimp only at hafter
  rw [hat.capture, hu.gate] at hafter
  refine ⟨t, ht, hreplied hwithin.placed, ?_, hgates, hsup, hsame, fun h hg => hafter.posted ?_⟩
  · rw [hafter.gate, startMove_gate_self, State.gate_onGate_self, State.onGate_record, hat.record, hu.gate]
    rfl
  · exact startMove_posted (c := s.capture g r.target r.speed r.origin) hg (by rw [State.onGate_sup, hu.sup]; exact hrun)
      (by rw [State.gate_onGate_self, hu.gate]; exact hmode)

/-! ### SOFT-RESET (R172 to R174) -/

/-- The entry into DRAIN before the gates are stopped. -/
def State.draining (s : State) : State :=
  s.onSup fun x => { x with device := .drain, lockoutLine := false, drainTimer := some (drainLimit s.store.control),
                            drainFulfilled := false }

theorem enterDrain_eq (s : State) : enterDrain s = testDrain (stopMovingGates s.draining) := rfl

theorem enterDrain_keepsPlaced (s : State) : KeepsPlaced s (enterDrain s) :=
  (Soundless.keepsPlaced (s := s) (t := s.draining) ⟨rfl, rfl, rfl, rfl⟩).trans (enterDrain_works s).within.placed

/-- What the test of the completion conditions leaves at the Supervisor when the timer has just been started. -/
theorem testDrain_sup_of_started {s : State} (hdrain : s.sup.device = .drain) (hopen : s.sup.drainFulfilled = false) :
    (testDrain s).sup = { s.sup with drainFulfilled := s.drained
                                     drainTimer := if s.drained then none else s.sup.drainTimer } := by
  unfold testDrain
  cases hd : s.drained with
  | true =>
    rw [if_pos (by simp [hdrain])]
    rfl
  | false =>
    have hkept : s.sup = { s.sup with drainFulfilled := false } := by rw [← hopen]
    rw [if_neg (by simp)]
    exact hkept

theorem enterDrain_sup (s : State) :
    (enterDrain s).sup = { s.sup with device := .drain, lockoutLine := false, drainFulfilled := (enterDrain s).drained
                                      drainTimer := if (enterDrain s).drained then none
                                        else some (drainLimit s.store.control) } := by
  obtain ⟨_, hsup, _⟩ := stopMovingGates_summary s.draining
  obtain ⟨hhoists, hgates, _⟩ := testDrain_rest (stopMovingGates s.draining)
  have hdrained : (enterDrain s).drained = (stopMovingGates s.draining).drained :=
    drained_congr hgates fun h => by simp [State.hoist, enterDrain_eq, hhoists]
  rw [hdrained, enterDrain_eq, testDrain_sup_of_started (by rw [hsup]; rfl) (by rw [hsup]; rfl), hsup]
  rfl

theorem enterDrain_gate (s : State) (g : GateNo) :
    (enterDrain s).gate g = if (s.gate g).inFlight = true then s.stoppedGate g else s.gate g := by
  obtain ⟨hgate, _⟩ := stopMovingGates_summary s.draining
  obtain ⟨_, hgates, _⟩ := testDrain_rest (stopMovingGates s.draining)
  have htested : (enterDrain s).gate g = (stopMovingGates s.draining).gate g := by simp [State.gate, enterDrain_eq, hgates]
  exact htested.trans (hgate g)

theorem enterDrain_surroundings (s : State) : SameSurroundings s (enterDrain s) :=
  (onSup_surroundings s _ rfl).trans (enterDrain_works s).within.surroundings

/-- Settles O40: the answer, then the entry into DRAIN. -/
theorem softResetEntersDrain : Obligations.SoftResetEntersDrain := by
  intro f s hx hright hdevice
  have hserving : s.sup.device = .run ∨ (s.sup.device = .lockout ∧ RequestName.softReset.TakenInLockout) := by
    cases hd : s.sup.device with
    | run => exact .inl rfl
    | lockout => exact .inr ⟨rfl, .inr (.inr (.inr rfl))⟩
    | drain => exact absurd hd hdevice
  have ha : RequestName.answer .softReset f s = refuse .done := by
    refine answer_of_taken ?_ hright hserving (by simp)
    exact nofun
  obtain ⟨u, t, hu, _, ht, hafter, hreplied⟩ := request_runs hx ha
  change Flow (enterDrain u) t at hafter
  have hdrained : t.drained = (enterDrain u).drained := hafter.aside.drained
  refine ⟨t, ht, hreplied (enterDrain_keepsPlaced u), ?_, fun g => ?_,
    (hu.traffic.surroundings.trans (enterDrain_surroundings u)).trans hafter.traffic.surroundings⟩
  · rw [hafter.sup, enterDrain_sup, hdrained, hu.sup, hu.traffic.store]
    rfl
  · rw [hafter.gate, enterDrain_gate, hu.gate, stoppedGate_congr hu.traffic.store (hu.gate g)]
    rfl

end Sys2Proof.Machine
end

section
/-!
PROOFS. The completion of a drain (R17, R174 to R176).
-/

namespace Sys2Proof.Machine

/-! ### What every command ends with keeps -/

/-- What the arbiter, the Request Unit's own changes and the FAULT line keep, the end of a command keeps (R180). -/
theorem settle_keeps {P : State → Prop} (hreq : ∀ s φ, P s → P (s.onReq φ)) (harbitrate : ∀ s, P s → P (arbitrate s))
    (hrotation : ∀ s, P s → P (settleRotation s)) (hmonitor : ∀ s φ, P s → P (s.onMonitor φ)) {s : State} (hs : P s) :
    P (settle s) := by
  have hstart (u : State) (hu : P u) : P (startExecution u) := by
    unfold startExecution
    split
    · exact hreq _ _ hu
    · exact hu
  have hanswer (f : Frame) (u : State) (hu : P u) : P (answerUnlisted f u) := by
    unfold answerUnlisted
    split
    · exact hreq _ _ (harbitrate _ (hrotation _ (hreq _ _ hu)))
    · exact hreq _ _ (harbitrate _ (hreq _ _ hu))
  have hnext (n : Nat) (u : State) (hu : P u) : P (nextExecution n u) := by
    induction n generalizing u with
    | zero => exact hu
    | succ n ih =>
      unfold nextExecution
      split
      · split
        · split
          · exact hstart u hu
          · exact ih _ (hanswer _ _ (hstart u hu))
        · exact hu
      · exact hu
  unfold settle updateFaultLine
  exact hmonitor _ _ (hnext _ s hs)

/-- The count stands at 0 and no transit frame can be granted next (R17). -/
def State.Unturned (s : State) : Prop := s.ring.consecutive = 0 ∧ (s.ring.out ≠ .idle ∨ s.ring.transit = [])

theorem State.Unturned.congr {s t : State} (h : t.ring = s.ring) (hs : s.Unturned) : t.Unturned := by
  unfold State.Unturned
  rwa [h]

theorem zeroed_unturned {s : State} (hs : s.Unturned) : (s.onRing fun r => { r with consecutive := 0 }).Unturned := ⟨rfl, hs.2⟩

theorem grantOwn_unturned {s : State} (hs : s.Unturned) : (grantOwn s).Unturned := by
  unfold grantOwn
  split
  · split
    · exact ⟨rfl, .inl nofun⟩
    · exact hs
  · split
    · exact ⟨rfl, .inl nofun⟩
    · exact hs

theorem arbitrate_unturned {s : State} (hs : s.Unturned) : (arbitrate s).Unturned := by
  unfold arbitrate
  split
  next hidle =>
    have htransit : s.ring.transit = [] := hs.2.resolve_left fun h => h hidle
    unfold grant
    rw [if_pos (by simp [htransit])]
    split
    · exact grantOwn_unturned hs
    · exact zeroed_unturned hs
  next => exact hs

theorem settleRotation_unturned {s : State} (hs : s.Unturned) : (settleRotation s).Unturned := by
  unfold settleRotation
  split
  · exact hs
  · exact zeroed_unturned hs

theorem settle_unturned {s : State} (hs : s.Unturned) : (settle s).Unturned :=
  settle_keeps (P := State.Unturned) (fun _ _ h => h.congr rfl) (fun _ h => arbitrate_unturned h)
    (fun _ h => settleRotation_unturned h) (fun _ _ h => h.congr rfl) hs

/-! ### A notice offered -/

theorem offerNotice_unturned (d : Byte) (p : List Word) {s : State} (hs : s.Unturned) : (offerNotice d p s).Unturned := by
  unfold offerNotice
  split
  · exact hs
  · dsimp only
    split
    · exact arbitrate_unturned (hs.congr rfl)
    · exact hs.congr rfl

theorem offerNotice_queue (d : Byte) (p : List Word) {s : State} {h : HoistNo} (hmem : h ∈ (offerNotice d p s).post.queue) :
    h ∈ s.post.queue := by
  unfold offerNotice at hmem
  split at hmem
  · exact hmem
  · dsimp only at hmem
    split at hmem
    · have hold := (arbitrate_flow _).queue h hmem
      exact hold
    · exact hmem

theorem offerNotice_tagCounter (d : Byte) (p : List Word) (s : State) :
    (offerNotice d p s).post.tagCounter =
      if noticeDest s.store.control = 0#8 then s.post.tagCounter else nextTag s.post.tagCounter := by
  unfold offerNotice
  split
  · rfl
  · dsimp only
    split
    · exact (arbitrate_flow _).traffic.tagCounter
    · rfl

theorem offerNotice_noticeLost (d : Byte) (p : List Word) {s : State} (hroom : s.NoticeRoom) :
    (offerNotice d p s).req.noticeLost = s.req.noticeLost := by
  rw [offerNotice_of_room d p hroom, (arbitrate_flow _).traffic.noticeLost]
  rfl

/-! ### The blocks reinitialised (R175) -/

/-- The part as a drain's completion leaves its blocks, before the notice. -/
def State.reinitialised (s : State) : State := drainBlocks (drainGates (drainHoists s))

theorem reinitialised_eq (s : State) :
    s.reinitialised = drainBlocks { s with
      hoists := s.hoists.map Hoist.drained, gates := Vector.ofFn fun g => Gate.drained (s.gatePosition g) (s.gate g) } := by
  unfold State.reinitialised
  rw [drainGates_eq, drainHoists_eq]
  congr 2
  refine congrArg Vector.ofFn (funext fun g => ?_)
  simp [State.gate, State.gatePosition, State.leftOf, State.rightOf, State.hoist, Hoist.drained]

section reinitialised

variable (s : State)

theorem reinitialised_gate (g : GateNo) : s.reinitialised.gate g = Gate.drained (s.gatePosition g) (s.gate g) := by
  rw [reinitialised_eq]
  simp [drainBlocks, State.gate]

theorem reinitialised_hoist (h : HoistNo) : s.reinitialised.hoist h = (s.hoist h).drained := by
  rw [reinitialised_eq]
  simp [drainBlocks, State.hoist]

theorem reinitialised_post : s.reinitialised.post = { s.post with queue := [] } := by
  rw [reinitialised_eq]
  rfl

theorem reinitialised_sup : s.reinitialised.sup =
    { s.sup with device := .run, lockoutCause := .unset, lockoutGate := none, drainTimer := none, drainFulfilled := false } := by
  rw [reinitialised_eq]
  rfl

theorem reinitialised_forcedIndex : s.reinitialised.forcedIndex = none := by
  rw [reinitialised_eq]
  rfl

theorem reinitialised_levels : s.reinitialised.levels =
    { s.levels with up := { s.levels.up with updated := false, disagree := false }
                    down := { s.levels.down with updated := false, disagree := false } } := by
  rw [reinitialised_eq]
  rfl

theorem reinitialised_pass : s.reinitialised.pass = { s.pass with policedDrop := false } := by
  rw [reinitialised_eq]
  rfl

theorem reinitialised_monitor : s.reinitialised.monitor =
    { s.monitor with up := s.monitor.up.clearFlags, down := s.monitor.down.clearFlags
                     head := s.monitor.head.clearFlags } := by
  rw [reinitialised_eq]
  rfl

theorem reinitialised_store : s.reinitialised.store = s.store := by
  rw [reinitialised_eq]
  rfl

theorem reinitialised_req : s.reinitialised.req = { s.req with requestLost := false, noticeLost := false } := by
  rw [reinitialised_eq]
  rfl

theorem reinitialised_ring : s.reinitialised.ring = { s.ring with consecutive := 0 } := by
  rw [reinitialised_eq]
  rfl

variable {s}

theorem reinitialised_noticeRoom (h : s.NoticeRoom) : s.reinitialised.NoticeRoom := by
  unfold State.NoticeRoom
  rw [reinitialised_store, reinitialised_req]
  exact h

theorem reinitialised_unturned (h : s.ring.out ≠ .idle ∨ s.ring.transit = []) : s.reinitialised.Unturned := by
  unfold State.Unturned
  rw [reinitialised_ring]
  exact ⟨rfl, h⟩

end reinitialised

theorem Gate.drained_of_off {p : Int} {x : Gate} (h : x.mode = .off) :
    x.drained p = { x with rangeFlag := false, blockedNotice := false } := if_pos h

theorem Gate.drained_of_on {p : Int} {x : Gate} (h : x.mode ≠ .off) : x.drained p =
    { x with mode := .hold, motion := .idle, standing := p, queue := [], context := none, trimHoist := none,
             closurePending := false, tideClosed := false, rangeFlag := false, moveTimer := none, stopTimer := none,
             save := { x.save with occupied := false, resumed := false }, blockedNotice := false } := if_neg h

/-! ### The completion (R174, R176) -/

theorem completeDrain_eq (yes : Bool) (s : State) : completeDrain yes s =
    offerNotice (noticeDest s.store.control) (resetDonePayload true yes (if yes then 0 else s.cutOffGates)) s.reinitialised := by
  unfold completeDrain notify
  dsimp only
  have hstore := reinitialised_store s
  unfold State.reinitialised at hstore ⊢
  rw [hstore]

theorem resetDonePayload_soft (yes : Bool) (n : Nat) :
    resetDonePayload true yes n = [0x0700#16, if yes then 3#16 else 2#16, BitVec.ofNat 16 n] := by
  have hlast : pack [(n, 0)] = BitVec.ofNat 16 n := by simp [pack]
  unfold resetDonePayload
  rw [hlast]
  cases yes <;> rfl

theorem exec_completion {c : Instr} {yes : Bool} {s : State} (hdrain : s.sup.device = .drain)
    (h : (c = .drainCompletion ∧ yes = true ∧ s.sup.drainFulfilled = true) ∨
      (c = .drainTimerExpiry ∧ yes = false ∧ s.sup.drainTimer.isSome = true)) :
    exec c s = .next (settle (completeDrain yes s)) := by
  rcases h with ⟨rfl, rfl, hfulfilled⟩ | ⟨rfl, rfl, htimer⟩
  · have hruns : drainCompletes s = completeDrain true s := if_pos (by simp [hdrain, hfulfilled])
    exact congrArg (fun t => Host.Outcome.next (settle t)) hruns
  · have hruns : drainExpires s = completeDrain false s := if_pos (by simp [hdrain, htimer])
    exact congrArg (fun t => Host.Outcome.next (settle t)) hruns

/-- DrainCompletionReinitialises, of O39. -/
theorem drainCompletionReinitialises : Sys2Proof.Claim.DrainCompletionReinitialises := by
  intro c yes s hdrain hc
  refine ⟨_, exec_completion hdrain hc, ?_⟩
  rw [completeDrain_eq]
  generalize hp : resetDonePayload true yes (if yes then 0 else s.cutOffGates) = p
  have hnotices := offerNotice_notices (noticeDest s.store.control) p s.reinitialised
  have hflow := settle_flow (offerNotice (noticeDest s.store.control) p s.reinitialised)
  have hsame := hnotices.surroundings.trans hflow.traffic.surroundings
  have hgate (g : GateNo) := (hflow.gate g).trans ((hnotices.gate g).trans (reinitialised_gate s g))
  have hmonitor := reinitialised_monitor s
  have hring := reinitialised_ring s
  refine ⟨?_, fun g hoff => (hgate g).trans (Gate.drained_of_off hoff), fun g hon => (hgate g).trans (Gate.drained_of_on hon),
    fun h => ?_, ?_, ?_, ?_, ?_, ?_, ?_, ?_, ?_, ?_, ?_, ?_, ?_, ?_, fun hquiet => ?_, settle_faultLine _, ?_, fun hroom => ?_⟩
  · exact hflow.sup.trans (hnotices.sup.trans (reinitialised_sup s))
  · have hslotless : (s.reinitialised.hoist h).slot = none := by
      rw [reinitialised_hoist]
      rfl
    have hoffered := ((offerNotice_works (G := fun _ => False) (noticeDest s.store.control) p s.reinitialised).within.hoists h
      id).of_slotless hslotless
    rw [(hflow.hoists h).of_slotless (by rw [hoffered, hslotless]), hoffered, reinitialised_hoist]
    rfl
  · refine List.eq_nil_iff_forall_not_mem.mpr fun h hmem => ?_
    have hold := offerNotice_queue _ _ (hflow.queue h hmem)
    rw [reinitialised_post] at hold
    cases hold
  · exact hsame.forcedIndex.trans (reinitialised_forcedIndex s)
  · exact hsame.levels.trans (reinitialised_levels s)
  · exact hsame.pass.trans (reinitialised_pass s)
  · rw [hflow.traffic.up, hnotices.up, hmonitor]
    rfl
  · rw [hflow.traffic.down, hnotices.down, hmonitor]
    rfl
  · rw [hflow.traffic.head, hnotices.head, hmonitor]
    rfl
  · exact hsame.store.trans (reinitialised_store s)
  · rw [hsame.requestLost, reinitialised_req]
  · rw [hsame.own, hring]
  · rw [hsame.commissioning, hring]
  · rw [hsame.checkErrors, hring]
  · rw [hsame.transitLosses, hring]
  · exact (settle_unturned (offerNotice_unturned _ _ (reinitialised_unturned hquiet))).1
  · rw [hflow.traffic.tagCounter, offerNotice_tagCounter, reinitialised_store, reinitialised_post]
  · have hroom' := reinitialised_noticeRoom hroom
    refine ⟨?_, ?_⟩
    · rw [hflow.traffic.noticeLost, offerNotice_noticeLost _ _ hroom', reinitialised_req]
    · have hplaced := (offerNotice_placed (noticeDest s.store.control) p hroom').2
      have htag : s.reinitialised.nextNotice (noticeDest s.store.control) p =
          ⟨noticeDest s.store.control, kindNotice, nextTag s.post.tagCounter, p⟩ := by
        unfold State.nextNotice
        rw [reinitialised_post]
      rw [htag] at hplaced
      have hend := hflow.placed _ _ rfl hplaced
      have hwords := (resetDonePayload_soft yes (if yes then 0 else s.cutOffGates)).symm.trans hp
      dsimp only
      rw [hwords]
      exact hend

/-- NoDrainNothingToComplete, of O39. -/
theorem noDrainNothingToComplete : Sys2Proof.Claim.NoDrainNothingToComplete := fun s hs => by
  refine ⟨fun h => ?_, fun h => ?_⟩
  · have hnone : drainCompletes s = s := if_neg (by rcases h with h | h <;> simp [h])
    exact congrArg Host.Outcome.next ((congrArg settle hnone).trans (settle_of_settled s hs))
  · have hnone : drainExpires s = s := if_neg (by rcases h with h | h <;> simp [h])
    exact congrArg Host.Outcome.next ((congrArg settle hnone).trans (settle_of_settled s hs))

/-- Settles O39: a drain completes with the blocks reinitialised, and once. -/
theorem drainCompletesOnce : Obligations.DrainCompletesOnce := ⟨drainCompletionReinitialises, noDrainNothingToComplete⟩

end Sys2Proof.Machine
end

section
/-!
PROOFS. What a status leaves of settle timers and held outcomes: a sequencer starts settle timers with a move alone, and
compares nothing (R146, R149).
-/

namespace Sys2Proof.Machine

/-- The settle timer a start gives both hoists (R149). -/
def State.settleStart (s : State) : Option Nat :=
  if settleInterval s.store.thresholds = 0 then none else some (settleInterval s.store.thresholds)

/-- Between `s` and `t` nothing was compared, and settle timers were started at most where `start` allows. -/
structure Settling (start : Prop) (s t : State) : Prop where
  store : t.store = s.store
  monitors : ∀ k, (t.hoist k).monitor = (s.hoist k).monitor
  settle : ∀ k, (t.hoist k).settleTimer = (s.hoist k).settleTimer ∨ (start ∧ (t.hoist k).settleTimer = s.settleStart)
  quantities : t.monitor.up = s.monitor.up ∧ t.monitor.down = s.monitor.down ∧ t.monitor.head = s.monitor.head

section settling

variable {start : Prop} {s t u : State}

theorem Settling.settleStart (h : Settling start s t) : t.settleStart = s.settleStart := by
  unfold State.settleStart
  rw [h.store]

theorem Settling.of_hoists (hhoists : t.hoists = s.hoists) (hmonitor : t.monitor = s.monitor) (hstore : t.store = s.store) :
    Settling start s t := by
  have hhoist (k : HoistNo) : t.hoist k = s.hoist k := by simp [State.hoist, hhoists]
  exact ⟨hstore, fun k => by rw [hhoist], fun k => .inl (by rw [hhoist]), by rw [hmonitor]; exact ⟨rfl, rfl, rfl⟩⟩

theorem Settling.refl (s : State) : Settling start s s := .of_hoists rfl rfl rfl

theorem Settling.trans (h : Settling start s t) (k : Settling start t u) : Settling start s u where
  store := k.store.trans h.store
  monitors := fun j => (k.monitors j).trans (h.monitors j)
  settle := fun j => by
    rcases k.settle j with e | ⟨hs, e⟩
    · rw [e]
      exact h.settle j
    · exact .inr ⟨hs, e.trans h.settleStart⟩
  quantities := ⟨k.quantities.1.trans h.quantities.1, k.quantities.2.1.trans h.quantities.2.1,
    k.quantities.2.2.trans h.quantities.2.2⟩

theorem Settling.of_exceptPhase (hstore : t.store = s.store) (hhoists : ∀ k, (t.hoist k).exceptPhase = (s.hoist k).exceptPhase)
    (hquantities : t.monitor.up = s.monitor.up ∧ t.monitor.down = s.monitor.down ∧ t.monitor.head = s.monitor.head) :
    Settling start s t :=
  ⟨hstore, fun k => Hoist.monitor_of_exceptPhase (hhoists k), fun k => .inl (Hoist.settleTimer_of_exceptPhase (hhoists k)),
    hquantities⟩

theorem Flow.settling (h : Flow s t) : Settling start s t :=
  .of_exceptPhase h.traffic.store h.traffic.hoists ⟨h.traffic.up, h.traffic.down, h.traffic.head⟩

theorem Aside.settling (h : Aside s t) : Settling start s t :=
  .of_exceptPhase h.store h.exceptPhase ⟨h.up, h.down, h.head⟩

theorem OnlyNotices.settling (h : OnlyNotices s t) : Settling start s t :=
  .of_exceptPhase h.store h.hoists ⟨h.up, h.down, h.head⟩

theorem onHoist_settling (s : State) (h : HoistNo) {φ : Hoist → Hoist} (hmonitor : (φ (s.hoist h)).monitor = (s.hoist h).monitor)
    (hsettle : (φ (s.hoist h)).settleTimer = (s.hoist h).settleTimer ∨ (start ∧ (φ (s.hoist h)).settleTimer = s.settleStart)) :
    Settling start s (s.onHoist h φ) where
  store := rfl
  monitors := fun k => by
    rw [State.hoist_onHoist]
    split
    next e => rw [e, hmonitor]
    next => rfl
  settle := fun k => by
    rw [State.hoist_onHoist]
    split
    next e =>
      rw [e]
      exact hsettle
    next => exact .inl rfl
  quantities := ⟨rfl, rfl, rfl⟩

theorem onGate_settling (s : State) (g : GateNo) (φ : Gate → Gate) : Settling start s (s.onGate g φ) := .of_hoists rfl rfl rfl

theorem onSup_settling (s : State) (φ : Supervisor → Supervisor) : Settling start s (s.onSup φ) := .of_hoists rfl rfl rfl

theorem foldl_settling {α : Type} {f : State → α → State} (hf : ∀ s a, Settling start s (f s a)) (xs : List α) (s : State) :
    Settling start s (xs.foldl f s) := by
  induction xs generalizing s with
  | nil => exact .refl s
  | cons a xs ih => exact (hf s a).trans (ih (f s a))

end settling

/-! ### Posts and stops -/

section operations

variable {start : Prop}

theorem onPost_settling (s : State) (φ : PostUnit → PostUnit) : Settling start s (s.onPost φ) := .of_hoists rfl rfl rfl

theorem occupySlot_settling (h : HoistNo) (sp : Setpoint) (tag : Byte) (s : State) :
    Settling start s (arbitrate (occupySlot h sp tag s)) :=
  (onHoist_settling s h rfl (.inl rfl)).trans (arbitrate_flow _).settling

theorem post_settling (h : HoistNo) (sp : Setpoint) (s : State) : Settling start s (post h sp s) := by
  have htag : Settling start s (takeTag s) := onPost_settling s _
  unfold post
  split
  · by_cases hw : (s.hoist h).phase = some .waiting
    · rw [placePost_of_waiting sp hw]
      exact htag.trans (occupySlot_settling h sp _ _)
    · rw [placePost_of_not_waiting sp hw]
      exact (htag.trans (onPost_settling _ _)).trans (occupySlot_settling h sp _ _)
  · exact .refl s

theorem postStop_settling (h : HoistNo) (s : State) : Settling start s (postStop h s) := post_settling h _ s

theorem postStops_settling (g : GateNo) (s : State) : Settling start s (postStops g s) :=
  (postStop_settling _ s).trans (postStop_settling _ _)

theorem postMoves_settling (g : GateNo) (x : Int) (v : Speed) (s : State) : Settling start s (postMoves g x v s) :=
  (post_settling _ _ s).trans (post_settling _ _ _)

theorem enterStopping_settling (g : GateNo) (s : State) : Settling start s (enterStopping g s) := by
  rw [enterStopping_eq]
  exact (onGate_settling s g _).trans (postStops_settling g _)

theorem stopIfMoving_settling (g : GateNo) (s : State) : Settling start s (stopIfMoving g s) := by
  unfold stopIfMoving
  split
  · exact enterStopping_settling g s
  · exact .refl s

theorem testDrain_settling (s : State) : Settling start s (testDrain s) := by
  unfold testDrain
  split
  · exact onSup_settling s _
  · exact .refl s

/-! ### Faults and lockout -/

theorem lockoutStops_settling (s : State) : Settling start s (lockoutStops s) :=
  foldl_settling (fun t h => by
    split
    · exact post_settling h _ t
    · exact .refl t) allHoists s

theorem takeLockout_settling (k : EntryTaker) (s : State) : Settling start s (takeLockout k s) := by
  cases k with
  | sequencer g => exact stopIfMoving_settling g s
  | hoistInterface => exact lockoutStops_settling s

theorem handLockout_settling (s : State) : Settling start s (handLockout s) := by
  unfold handLockout
  dsimp only
  refine Settling.trans (t := (drawOrder _ _ s).2) ?_ (foldl_settling (fun t k => takeLockout_settling k t) _ _)
  rw [drawOrder_eq]
  exact .of_hoists rfl rfl rfl

theorem demandLockout_settling (c : LockoutCause) (g : GateNo) (s : State) : Settling start s (demandLockout c g s) := by
  unfold demandLockout
  split
  · exact ((onSup_settling s _).trans (notify_notices _ _).settling).trans (handLockout_settling _)
  · exact .refl s

theorem faultStop_settling (g : GateNo) (c : Cause) (b : Bool) (s : State) :
    Settling start s (faultStop g (s.savedMove g c) b s) := by
  rw [faultStop_savedMove_eq]
  exact ((onGate_settling s g _).trans (postStops_settling g _)).trans (notify_notices _ _).settling

theorem addCause_settling (g : GateNo) (c : Cause) (s : State) : Settling start s (addCause g c s) := onGate_settling s g _

theorem reachCause_settling (g : GateNo) (c : Cause) (s : State) : Settling start s (reachCause g c s) := by
  by_cases hmode : (s.gate g).mode = .off
  · rw [reachCause_of_off g c s hmode]
    exact .refl s
  · cases hfaulty : (s.gate g).faulty with
    | true =>
      rw [reachCause_of_faulty c hmode hfaulty]
      exact addCause_settling g c s
    | false =>
      rw [reachCause_of_sound c hmode hfaulty]
      split
      · exact (faultStop_settling g c true s).trans (demandLockout_settling _ _ _)
      · exact faultStop_settling g c false s

theorem endFaultStop_settling (g : GateNo) (s : State) : Settling start s (endFaultStop g s) :=
  (onGate_settling s g _).trans (testDrain_settling _)

/-! ### Moves: the settle timers start -/

theorem startSettle_settling (g : GateNo) (s : State) : Settling True s (startSettle g s) := by
  unfold startSettle
  dsimp only
  exact (onHoist_settling s _ rfl (.inr ⟨trivial, rfl⟩)).trans (onHoist_settling _ _ rfl (.inr ⟨trivial, rfl⟩))

theorem startMove_settling (g : GateNo) (c : MoveContext) (s : State) : Settling True s (startMove g c s) := by
  rw [startMove_eq]
  exact ((onGate_settling s g _).trans (postMoves_settling g _ _ _)).trans (startSettle_settling g _)

theorem completeMove_settling (g : GateNo) (c : MoveContext) (s : State) : Settling start s (completeMove g c s) := by
  rw [completeMove_eq]
  exact ((onGate_settling s g _).trans (testDrain_settling _)).trans (notifyArrived_notices g _ _ _).settling

theorem issueMove_settling (g : GateNo) (c : MoveContext) (s : State) : Settling True s (issueMove g c s) := by
  rw [issueMove_eq]
  split
  · exact completeMove_settling g c s
  · exact startMove_settling g c s

theorem issueClosure_settling (g : GateNo) (s : State) : Settling True s (issueClosure g s) :=
  ((onGate_settling s g _).trans (issueMove_settling g _ _)).trans (notify_notices _ _).settling

theorem takeEntry_settling (g : GateNo) (e : Entry) (s : State) : Settling True s (takeEntry g e s) := by
  unfold takeEntry
  dsimp only
  split
  · exact (onGate_settling s g _).trans (issueMove_settling g _ _)
  · exact ((onGate_settling s g _).trans (onGate_settling _ g _)).trans (notifyRange_notices g _ _ _).settling

theorem examineFor_settling (n : Nat) (g : GateNo) (s : State) : Settling True s (examineFor n g s) := by
  induction n generalizing s with
  | zero => exact .refl s
  | succ n ih =>
    unfold examineFor
    split
    · split
      · exact (issueClosure_settling g s).trans (ih _)
      · split
        · exact .refl s
        · split
          · exact .refl s
          · exact (takeEntry_settling g _ s).trans (ih _)
    · exact .refl s

/-- The gate has nothing to issue, or a drive that is not STILL. -/
def State.NoStart (s : State) (g : GateNo) : Prop :=
  ((s.gate g).queue = [] ∧ (s.gate g).closurePending = false) ∨ s.bothStill g = false

theorem examine_of_noStart {g : GateNo} {s : State} (h : s.NoStart g) : examine g s = s := by
  rcases h with ⟨hqueue, hpending⟩ | hstill
  · exact examine_of_nothing hpending fun e he => by rw [hqueue] at he; cases he
  · exact examine_of_held (by simp [State.mayIssue, hstill])

/-- An examination starts settle timers only where it can start a move. -/
theorem examine_settling {g : GateNo} {s : State} (h : ¬start → s.NoStart g) : Settling start s (examine g s) := by
  by_cases hstart : start
  · have hall := examineFor_settling ((s.gate g).queue.length + 2) g s
    exact { hall with settle := fun k => (hall.settle k).imp_right fun e => ⟨hstart, e.2⟩ }
  · rw [examine_of_noStart (h hstart)]
    exact .refl s

/-! ### The status at the sequencer -/

theorem noStart_congr {g : GateNo} {s t : State} (hsame : SameSurroundings s t) (hqueue : (t.gate g).queue = (s.gate g).queue)
    (hpending : (t.gate g).closurePending = (s.gate g).closurePending) (h : s.NoStart g) : t.NoStart g := by
  unfold State.NoStart State.bothStill State.leftOf State.rightOf at *
  rwa [hqueue, hpending, hsame.drive, hsame.drive]

theorem testDrain_gate (s : State) (g : GateNo) : (testDrain s).gate g = s.gate g := by
  obtain ⟨_, hgates, _⟩ := testDrain_rest s
  simp [State.gate, hgates]

theorem endStop_settling {g : GateNo} {s : State} (h : ¬start → s.NoStart g) : Settling start s (endStop g s) := by
  unfold endStop
  refine ((onGate_settling s g _).trans (testDrain_settling _)).trans (examine_settling fun hs => ?_)
  refine noStart_congr ((onGate_surroundings s g _).trans (testDrain_surroundings _)) ?_ ?_ (h hs) <;>
  · rw [testDrain_gate, State.gate_onGate_self]

theorem enterTrim_settling (g : GateNo) (c : MoveContext) (s : State) : Settling start s (enterTrim g c s) :=
  (onGate_settling s g _).trans (postStop_settling _ _)

theorem releaseTrim_settling (g : GateNo) (c : MoveContext) (s : State) : Settling start s (releaseTrim g c s) := by
  unfold releaseTrim
  dsimp only
  split
  · exact (onGate_settling s g _).trans (post_settling _ _ _)
  · exact onGate_settling s g _

theorem completeMove_gate (g : GateNo) (c : MoveContext) (s : State) :
    (completeMove g c s).gate g = (s.gate g).completed c.target c.origin := by
  rw [completeMove_eq, (notifyArrived_notices g _ _ _).gate, testDrain_gate, State.gate_onGate_self]

theorem checkMove_settling {g : GateNo} {c : MoveContext} {s : State} (h : ¬start → s.NoStart g) :
    Settling start s (checkMove g c s) := by
  unfold checkMove
  dsimp only
  split
  · exact reachCause_settling g _ s
  · split
    · refine (completeMove_settling g c s).trans (examine_settling fun hs => ?_)
      refine noStart_congr (completeMove_surroundings g c s) ?_ ?_ (h hs) <;>
      · rw [completeMove_gate]
        rfl
    · split
      · split
        · exact enterTrim_settling g c s
        · exact .refl s
      · split
        · exact releaseTrim_settling g c s
        · exact .refl s

theorem checkMotion_settling {g : GateNo} {s : State} (h : ¬start → s.NoStart g) : Settling start s (checkMotion g s) := by
  unfold checkMotion
  split
  · split
    · exact checkMove_settling h
    · exact .refl s
  · split
    · exact checkMove_settling h
    · exact .refl s
  · split
    · exact endStop_settling h
    · exact .refl s
  · exact examine_settling h
  · split
    · exact endFaultStop_settling g s
    · exact .refl s
  · exact .refl s

theorem sequencerStatus_settling {h : HoistNo} {s : State} (hstart : ¬start → s.NoStart (gateOf h)) :
    Settling start s (sequencerStatus h s) := by
  unfold sequencerStatus
  dsimp only
  split
  · exact .refl s
  next hmode =>
    split
    · split
      next hfaulty =>
        refine (reachCause_settling _ _ s).trans (checkMotion_settling fun hs => ?_)
        rw [reachCause_of_faulty _ hmode hfaulty]
        refine noStart_congr (onGate_surroundings s _ _) ?_ ?_ (hstart hs) <;>
        · unfold addCause
          rw [State.gate_onGate_self]
      next => exact reachCause_settling _ _ s
    · split
      · exact reachCause_settling _ _ s
      · exact checkMotion_settling hstart
    · exact checkMotion_settling hstart

/-- A sequencer compares no load (R127). -/
theorem sequencerStatus_monitor (h k : HoistNo) (s : State) : ((sequencerStatus h s).hoist k).monitor = (s.hoist k).monitor :=
  (sequencerStatus_settling (start := True) fun hs => absurd trivial hs).monitors k

end operations

end Sys2Proof.Machine
end

section
/-!
PROOFS. A status up to the sequencer: recorded, matched, its load compared (R126, R127, R134, R146).
-/

namespace Sys2Proof.Machine

/-! ### The record (R126) -/

/-- The record of a hoist as a status leaves it. -/
def Hoist.applied (d : StatusData) (x : Hoist) : Hoist :=
  { x with position := max 0 (min 16000 d.position), load := max (-4000) (min 4000 d.load), drive := d.drive, valid := true }

theorem withStatus_eq (s : State) (h : HoistNo) (d : StatusData) : s.withStatus h d = s.onHoist h (Hoist.applied d) := rfl

theorem applyStatus_eq (h : HoistNo) (d : StatusData) (s : State) : applyStatus h d s = s.withStatus h d := by
  unfold applyStatus
  rw [clamp_eq (by decide), clamp_eq (by decide)]
  rfl

theorem withStatus_hoist_self (s : State) (h : HoistNo) (d : StatusData) :
    (s.withStatus h d).hoist h = (s.hoist h).applied d := State.hoist_onHoist_self ..

theorem withStatus_hoist_ne (s : State) {h k : HoistNo} (d : StatusData) (hk : k ≠ h) :
    (s.withStatus h d).hoist k = s.hoist k := State.hoist_onHoist_ne _ _ _ _ hk

theorem Hoist.exceptPhase_applied (d : StatusData) (x : Hoist) : (x.applied d).exceptPhase = x.exceptPhase.applied d := rfl

/-! ### The acknowledgement (R134) -/

theorem matchAck_of_other {h : HoistNo} {tag : Byte} {s : State} (ha : (s.hoist h).acknowledgedBy tag = false) :
    matchAck h tag s = s := if_neg (by simp [ha])

theorem matchAck_of_acknowledged {h : HoistNo} {tag : Byte} {s : State} (ha : (s.hoist h).acknowledgedBy tag = true) :
    matchAck h tag s = testDrain (restartRefresh h (emptySlot h s)) := if_pos ha

theorem testDrain_hoist (s : State) (k : HoistNo) : (testDrain s).hoist k = s.hoist k := by
  obtain ⟨hhoists, _⟩ := testDrain_rest s
  simp [State.hoist, hhoists]

theorem emptySlot_store (h : HoistNo) (s : State) : (emptySlot h s).store = s.store := (emptySlot_surroundings h s).store

theorem acknowledged_hoist (h k : HoistNo) (s : State) :
    (testDrain (restartRefresh h (emptySlot h s))).hoist k =
      if k = h then { s.hoist h with slot := none, refreshTimer := if refreshInterval s.store.control = 0 then none
                                       else some (refreshInterval s.store.control) }
      else s.hoist k := by
  rw [testDrain_hoist]
  unfold restartRefresh
  rw [State.hoist_onHoist, emptySlot_store]
  split
  · rw [emptySlot_hoist, if_pos rfl]
  next hk => rw [emptySlot_hoist, if_neg hk]

theorem acknowledged_queue {h : HoistNo} (s : State) : h ∉ (testDrain (restartRefresh h (emptySlot h s))).post.queue := fun hmem => by
  obtain ⟨_, _, hpost, _⟩ := testDrain_rest (restartRefresh h (emptySlot h s))
  rw [hpost] at hmem
  exact ((emptySlot_queue h h s).mp hmem).2 rfl

theorem matchAck_hoist_ne {h k : HoistNo} (tag : Byte) (s : State) (hk : k ≠ h) : (matchAck h tag s).hoist k = s.hoist k := by
  cases ha : (s.hoist h).acknowledgedBy tag with
  | false => rw [matchAck_of_other ha]
  | true => rw [matchAck_of_acknowledged ha, acknowledged_hoist, if_neg hk]

theorem emptySlot_settling {start : Prop} (h : HoistNo) (s : State) : Settling start s (emptySlot h s) :=
  ((onHoist_settling s h rfl (.inl rfl)).trans (onPost_settling _ _)).trans (settleRotation_flow _).settling

theorem matchAck_settling {start : Prop} (h : HoistNo) (tag : Byte) (s : State) : Settling start s (matchAck h tag s) := by
  unfold matchAck
  split
  · exact ((emptySlot_settling h s).trans (onHoist_settling _ h rfl (.inl rfl))).trans (testDrain_settling _)
  · exact .refl s

theorem matchAck_surroundings (h : HoistNo) (tag : Byte) (s : State) : SameSurroundings s (matchAck h tag s) :=
  (matchAck_works (G := fun _ => True) tag s trivial).within.surroundings

theorem matchAck_gates (h : HoistNo) (tag : Byte) (s : State) : (matchAck h tag s).gates = s.gates := by
  unfold matchAck
  split
  · obtain ⟨_, hgates, _⟩ := testDrain_rest (restartRefresh h (emptySlot h s))
    have hempty : (emptySlot h s).gates = s.gates := by
      unfold emptySlot settleRotation
      split <;> rfl
    exact hgates.trans hempty
  · rfl

theorem matchAck_noticeRoom (h : HoistNo) (tag : Byte) {s : State} (hroom : s.NoticeRoom) : (matchAck h tag s).NoticeRoom := by
  have hreq : (matchAck h tag s).req = s.req := by
    unfold matchAck emptySlot settleRotation testDrain
    split_ifs <;> rfl
  refine noticeRoom_of_le (matchAck_surroundings h tag s).store ?_ hroom
  rw [hreq]
  exact ⟨le_rfl, le_rfl⟩

theorem matchAck_tagCounter (h : HoistNo) (tag : Byte) (s : State) : (matchAck h tag s).post.tagCounter = s.post.tagCounter := by
  unfold matchAck emptySlot settleRotation testDrain
  split_ifs <;> rfl

/-- Every gate outside OFF is IDLE or FAULTED (R174). -/
def State.AtRest (s : State) : Prop := ∀ g, (s.gate g).mode = .off ∨ (s.gate g).motion = .idle ∨ (s.gate g).motion = .faulted

theorem atRest_of_drained {s : State} (h : s.drained = true) : s.AtRest := fun g => by
  unfold State.drained at h
  rw [Bool.and_eq_true, List.all_eq_true] at h
  have hg := h.1 g (mem_allGates g)
  simpa [or_assoc] using hg

/-- The test of the drain's conditions marks a drain whose gates rest, and nothing else (R174). -/
theorem testDrain_sup (s : State) : (testDrain s).sup = s.sup ∨ (s.sup.device = .drain ∧ s.AtRest) := by
  unfold testDrain
  split
  next h =>
    simp only [Bool.and_eq_true, decide_eq_true_eq] at h
    exact .inr ⟨h.1, atRest_of_drained h.2⟩
  next => exact .inl rfl

theorem matchAck_sup (h : HoistNo) (tag : Byte) (s : State) :
    (matchAck h tag s).sup = s.sup ∨ (s.sup.device = .drain ∧ s.AtRest) := by
  have hempty : (emptySlot h s).sup = s.sup ∧ (emptySlot h s).gates = s.gates := by
    unfold emptySlot settleRotation
    split <;> exact ⟨rfl, rfl⟩
  obtain ⟨hsup, hgates⟩ := hempty
  unfold matchAck
  split
  · rcases testDrain_sup (restartRefresh h (emptySlot h s)) with e | ⟨hdrain, hrest⟩
    · exact .inl (e.trans hsup)
    · refine .inr ⟨?_, fun g => ?_⟩
      · rw [← hsup]
        exact hdrain
      · have hg := hrest g
        simpa [State.gate, restartRefresh, hgates] using hg
  · exact .inl rfl

/-! ### The state in which the status is handed on (R127) -/

/-- The record and the acknowledgement taken, before the status is handed on. -/
def State.received (u : State) (h : HoistNo) (d : StatusData) (matching : Bool) : State :=
  if matching then matchAck h d.ackTag (u.withStatus h d) else u.withStatus h d

/-- The held outcomes and flags of a hoist's load replaced. -/
def State.withMonitor (s : State) (h : HoistNo) (q : Quantity) : State := s.onHoist h fun x => { x with monitor := q }

theorem withMonitor_self (s : State) (h : HoistNo) : s.withMonitor h (s.hoist h).monitor = s := by
  have hvector : s.hoists.set h.val { s.hoist h with monitor := (s.hoist h).monitor } h.isLt = s.hoists :=
    Vector.set_getElem_self h.isLt
  unfold State.withMonitor State.onHoist
  rw [hvector]

theorem withMonitor_hoist_self (s : State) (h : HoistNo) (q : Quantity) :
    (s.withMonitor h q).hoist h = { s.hoist h with monitor := q } := State.hoist_onHoist_self ..

theorem withMonitor_hoist_ne (s : State) {h k : HoistNo} (q : Quantity) (hk : k ≠ h) :
    (s.withMonitor h q).hoist k = s.hoist k := State.hoist_onHoist_ne _ _ _ _ hk

/-- `w` is `s` with a status in the record of hoist `h`; its slot may be emptied, its load compared, notices offered. -/
structure Noted (s w : State) (h : HoistNo) (d : StatusData) : Prop where
  gates : w.gates = s.gates
  store : w.store = s.store
  forcedIndex : w.forcedIndex = s.forcedIndex
  position : ∀ k, (w.hoist k).position = ((s.withStatus h d).hoist k).position
  load : ∀ k, (w.hoist k).load = ((s.withStatus h d).hoist k).load
  drive : ∀ k, (w.hoist k).drive = ((s.withStatus h d).hoist k).drive
  settle : ∀ k, (w.hoist k).settleTimer = (s.hoist k).settleTimer
  others : ∀ j, j ≠ h → (w.hoist j).exceptPhase = (s.hoist j).exceptPhase
  device : w.sup.device = s.sup.device
  holdLine : w.sup.holdLine = s.sup.holdLine
  sup : w.sup = s.sup ∨ (s.sup.device = .drain ∧ s.AtRest)

/-- The same with no notice offered. -/
structure Seen (s w : State) (h : HoistNo) (d : StatusData) : Prop extends Noted s w h d where
  tagCounter : w.post.tagCounter = s.post.tagCounter
  room : s.NoticeRoom → w.NoticeRoom

theorem Noted.withMonitor {s w : State} {h : HoistNo} {d : StatusData} (hw : Noted s w h d) (q : Quantity) :
    Noted s (w.withMonitor h q) h d := by
  have hsame := onHoist_surroundings w h (fun x => { x with monitor := q }) (fun _ => rfl) (fun _ => rfl) (fun _ => rfl)
    (fun _ => rfl) (fun _ => rfl) (fun _ => rfl)
  refine { hw with position := fun k => ?_, load := fun k => ?_, drive := fun k => ?_, settle := fun k => ?_, others := fun j hj => ?_ }
  · exact (hsame.position k).trans (hw.position k)
  · exact (hsame.load k).trans (hw.load k)
  · exact (hsame.drive k).trans (hw.drive k)
  · refine Eq.trans ?_ (hw.settle k)
    by_cases hk : k = h
    · rw [hk, withMonitor_hoist_self]
    · rw [withMonitor_hoist_ne _ _ hk]
  · rw [withMonitor_hoist_ne _ _ hj]
    exact hw.others j hj

theorem Seen.withMonitor {s w : State} {h : HoistNo} {d : StatusData} (hw : Seen s w h d) (q : Quantity) :
    Seen s (w.withMonitor h q) h d := ⟨hw.toNoted.withMonitor q, hw.tagCounter, hw.room⟩

theorem Seen.withOrders {s w : State} {h : HoistNo} {d : StatusData} (hw : Seen s w h d) (o : Orders) :
    Seen s { w with orders := o } h d := ⟨{ hw with }, hw.tagCounter, hw.room⟩

theorem Aside.seen_withStatus {s u : State} (hu : Aside s u) (hroom : s.NoticeRoom → u.NoticeRoom) (h : HoistNo)
    (d : StatusData) : Seen s (u.withStatus h d) h d where
  gates := hu.gates
  store := hu.store
  forcedIndex := hu.forcedIndex
  position := fun k => by
    by_cases hk : k = h
    · rw [hk, withStatus_hoist_self, withStatus_hoist_self]
      rfl
    · rw [withStatus_hoist_ne _ _ hk, withStatus_hoist_ne _ _ hk]
      exact Hoist.position_of_exceptPhase (hu.exceptPhase k)
  load := fun k => by
    by_cases hk : k = h
    · rw [hk, withStatus_hoist_self, withStatus_hoist_self]
      rfl
    · rw [withStatus_hoist_ne _ _ hk, withStatus_hoist_ne _ _ hk]
      exact Hoist.load_of_exceptPhase (hu.exceptPhase k)
  drive := fun k => by
    by_cases hk : k = h
    · rw [hk, withStatus_hoist_self, withStatus_hoist_self]
      rfl
    · rw [withStatus_hoist_ne _ _ hk, withStatus_hoist_ne _ _ hk]
      exact Hoist.drive_of_exceptPhase (hu.exceptPhase k)
  settle := fun k => by
    refine Eq.trans ?_ (Hoist.settleTimer_of_exceptPhase (hu.exceptPhase k))
    by_cases hk : k = h
    · rw [hk, withStatus_hoist_self]
      rfl
    · rw [withStatus_hoist_ne _ _ hk]
  others := fun j hj => by
    rw [withStatus_hoist_ne _ _ hj]
    exact hu.exceptPhase j
  device := congrArg Supervisor.device hu.sup
  holdLine := congrArg Supervisor.holdLine hu.sup
  sup := .inl hu.sup
  tagCounter := hu.tagCounter
  room := hroom

theorem atRest_congr {s t : State} (h : t.gates = s.gates) (hs : t.AtRest) : s.AtRest := fun g => by
  have hg := hs g
  simpa [State.gate, h] using hg

theorem Seen.matched {s w : State} {h : HoistNo} {d : StatusData} (hw : Seen s w h d) (tag : Byte) :
    Seen s (matchAck h tag w) h d := by
  have hsame := matchAck_surroundings h tag w
  have hsettle := matchAck_settling (start := False) h tag w
  have hwithin := (matchAck_works (G := fun _ => True) (h := h) tag w trivial).within
  refine ⟨⟨(matchAck_gates h tag w).trans hw.gates, hsame.store.trans hw.store, hsame.forcedIndex.trans hw.forcedIndex,
    fun k => (hsame.position k).trans (hw.position k), fun k => (hsame.load k).trans (hw.load k),
    fun k => (hsame.drive k).trans (hw.drive k), fun k => ?_, fun j hj => ?_, hwithin.device.trans hw.device,
    hwithin.holdLine.trans hw.holdLine, ?_⟩, (matchAck_tagCounter h tag w).trans hw.tagCounter,
    fun hroom => matchAck_noticeRoom h tag (hw.room hroom)⟩
  · exact ((hsettle.settle k).resolve_right And.left).trans (hw.settle k)
  · rw [matchAck_hoist_ne tag w hj]
    exact hw.others j hj
  · rcases matchAck_sup h tag w with e | ⟨hdrain, hrest⟩
    · rw [e]
      exact hw.sup
    · exact .inr ⟨hw.device.symm.trans hdrain, atRest_congr hw.gates hrest⟩

theorem Aside.seen_received {s u : State} (hu : Aside s u) (hroom : s.NoticeRoom → u.NoticeRoom) (h : HoistNo)
    (d : StatusData) (m : Bool) : Seen s (u.received h d m) h d := by
  unfold State.received
  split
  · exact (hu.seen_withStatus hroom h d).matched _
  · exact hu.seen_withStatus hroom h d

/-- A status at one hoist is handed on once recorded and matched, in an order left open. -/
theorem takeStatus_eq (h : HoistNo) (d : StatusData) (m : Bool) (u : State) :
    ∃ place o, takeStatus h d m u = handOnStatus h place { u.received h d m with orders := o } := by
  refine ⟨(chooseOrder 4 (u.received h d m)).1, (chooseOrder 4 (u.received h d m)).2.orders, ?_⟩
  unfold takeStatus
  rw [applyStatus_eq, ← chooseOrder_eq]
  rfl

theorem readData_of_status {f : Frame} {d : StatusData} (m : Bool) (u : State) (hkind : f.kind = kindHoistStatus)
    (hdata : readStatus f = some d) :
    readData f m u = (u.hoistsAt f.src).foldl (fun acc h => takeStatus h d m acc) u := by
  unfold readData
  rw [hkind, if_neg (by decide), if_pos rfl]
  unfold receiveStatus
  rw [hdata]

theorem Aside.hoistsAt {s u : State} (hu : Aside s u) (a : Byte) : u.hoistsAt a = s.hoistsAt a := by
  unfold State.hoistsAt State.driveOf
  rw [hu.store]

/-- A status of one hoist, up to the order in which it is handed on. -/
theorem exec_status {ws : List Word} {k : Nat} {f : Frame} {s : State} {d : StatusData} {h : HoistNo}
    (hr : s.StatusReaches ws k f d h) :
    ∃ t u place o, exec (.frameArrival ws k) s = .next t ∧ Aside s u ∧ (s.NoticeRoom → u.NoticeRoom) ∧
      Aside (handOnStatus h place { u.received h d (s.matches f) with orders := o }) t := by
  obtain ⟨harrives, hkind, hdata, hhoist, hconsumed⟩ := hr
  obtain ⟨t, u, ht, hu, hroom, hafter⟩ := exec_frameArrival_consumed harrives (.inr hkind) hconsumed
  obtain ⟨place, o, htaken⟩ := takeStatus_eq h d (s.matches f) u
  rw [readData_of_status _ _ hkind hdata, hu.hoistsAt, hhoist, List.foldl_cons, List.foldl_nil, htaken] at hafter
  exact ⟨t, u, place, o, ht, hu, hroom, hafter⟩

/-! ### A load within its alarm thresholds (R146, R151) -/

theorem compared_calm {w : State} {h : HoistNo} (hover : ¬w.Overloads (w.hoist h).load) (hslack : ¬w.Slackens (w.hoist h).load) :
    let q := (w.hoist h).monitor.compared w.store.thresholds .load (w.hoist h).load (w.hoist h).settleTimer.isSome
    q.outcomes.ha = false ∧ q.outcomes.la = false ∧ compareLoad h w = w.withMonitor h q := by
  intro q
  have hq := compared_from (w.hoist h).monitor w.store.thresholds .load (w.hoist h).load (w.hoist h).settleTimer.isSome
  have hha : q.outcomes.ha = false := hq.ha.trans (decide_eq_false hover)
  have hla : q.outcomes.la = false := by
    unfold State.Slackens at hslack
    exact hq.la.trans (by rw [decide_eq_false hslack, Bool.and_false])
  refine ⟨hha, hla, notifyAlarms_of_quiet _ ⟨fun h1 => ?_, fun h1 => ?_⟩⟩
  · have hflag := hq.haFlag.symm.trans h1
    rw [hha, Bool.false_or, Bool.and_eq_true] at hflag
    exact hflag.2
  · have hflag := hq.laFlag.symm.trans h1
    rw [hla, Bool.false_or, Bool.and_eq_true] at hflag
    exact hflag.2

theorem deliverOverload_of_calm {h : HoistNo} {s : State} (hha : (s.hoist h).monitor.outcomes.ha = false) :
    deliverOverload h s = s := if_neg (by simp [hha])

theorem deliverSlack_of_calm {h : HoistNo} {s : State} (hla : (s.hoist h).monitor.outcomes.la = false) :
    deliverSlack h s = s := if_neg (by simp [hla])

/-- With a calm load the status is handed to the sequencer, and the outcomes held are replaced before or after it. -/
theorem handOnStatus_of_calm {w : State} {h : HoistNo} (place : Nat) (hover : ¬w.Overloads (w.hoist h).load)
    (hslack : ¬w.Slackens (w.hoist h).load) :
    ∃ q q', handOnStatus h place w = (sequencerStatus h (w.withMonitor h q)).withMonitor h q' := by
  obtain ⟨hha, hla, hcompare⟩ := compared_calm hover hslack
  generalize (w.hoist h).monitor.compared w.store.thresholds .load (w.hoist h).load (w.hoist h).settleTimer.isSome = q at *
  have hquiet : deliverSlack h (deliverOverload h (w.withMonitor h q)) = w.withMonitor h q := by
    rw [deliverOverload_of_calm (by rw [withMonitor_hoist_self, hha]), deliverSlack_of_calm (by rw [withMonitor_hoist_self, hla])]
  have hover' : deliverOverload h (w.withMonitor h q) = w.withMonitor h q :=
    deliverOverload_of_calm (by rw [withMonitor_hoist_self, hha])
  have hmonitor : ((sequencerStatus h (w.withMonitor h q)).hoist h).monitor = q := by
    rw [sequencerStatus_monitor, withMonitor_hoist_self]
  unfold handOnStatus
  split_ifs
  · have hsame := sequencerStatus_surroundings h w
    have hload : ((sequencerStatus h w).hoist h).load = (w.hoist h).load := hsame.load h
    obtain ⟨hha', hla', hcompare'⟩ := compared_calm (w := sequencerStatus h w) (h := h)
      (by rw [hload]; unfold State.Overloads; rwa [hsame.store]) (by rw [hload]; unfold State.Slackens; rwa [hsame.store])
    rw [hcompare', deliverOverload_of_calm (by rw [withMonitor_hoist_self, hha']),
      deliverSlack_of_calm (by rw [withMonitor_hoist_self, hla'])]
    exact ⟨(w.hoist h).monitor, _, by rw [withMonitor_self w h]⟩
  · refine ⟨q, q, ?_⟩
    rw [hcompare, deliverOverload_of_calm (by rw [hmonitor, hha]), deliverSlack_of_calm (by rw [hmonitor, hla])]
    exact (hmonitor ▸ withMonitor_self _ h).symm
  · refine ⟨q, q, ?_⟩
    rw [hcompare, hover', deliverSlack_of_calm (by rw [hmonitor, hla])]
    exact (hmonitor ▸ withMonitor_self _ h).symm
  · refine ⟨q, q, ?_⟩
    rw [hcompare, hquiet]
    exact (hmonitor ▸ withMonitor_self _ h).symm

end Sys2Proof.Machine
end

section
/-!
PROOFS. A status with a calm load: what the sequencer makes of it is what the command leaves (R111, R127). The matching of
an acknowledgement (R134).
-/

namespace Sys2Proof.Machine

/-! ### What follows the sequencer -/

/-- After the sequencer there was traffic, and the outcomes held for hoist `h` were replaced at most. -/
structure Ended (h : HoistNo) (z t : State) : Prop where
  gates : t.gates = z.gates
  sup : t.sup = z.sup
  store : t.store = z.store
  hoist : ∃ q, Hoist.GrantedFrom { z.hoist h with monitor := q } (t.hoist h)
  others : ∀ j, j ≠ h → (t.hoist j).exceptPhase = (z.hoist j).exceptPhase
  queue : ∀ k, k ∈ t.post.queue → k ∈ z.post.queue
  posted : ∀ k sp, z.Posted k sp → t.Posted k sp
  placed : KeepsPlaced z t
  drained : t.drained = z.drained

theorem Ended.gate {h : HoistNo} {z t : State} (e : Ended h z t) (g : GateNo) : t.gate g = z.gate g := by
  simp [State.gate, e.gates]

theorem withMonitor_posted {h k : HoistNo} {sp : Setpoint} {z : State} (q : Quantity) (hp : z.Posted k sp) :
    (z.withMonitor h q).Posted k sp := by
  refine posted_of_hoist (s := z) rfl ?_ ?_ hp <;>
  · unfold State.withMonitor
    rw [State.hoist_onHoist]
    split
    next e => rw [e]
    next => rfl

theorem withMonitor_drained (z : State) (h : HoistNo) (q : Quantity) : (z.withMonitor h q).drained = z.drained := by
  refine drained_congr rfl fun k => ?_
  unfold State.withMonitor
  rw [State.hoist_onHoist]
  split
  next e => rw [e]
  next => rfl

theorem Aside.ended {h : HoistNo} {z t : State} {q : Quantity} (ht : Aside (z.withMonitor h q) t) : Ended h z t where
  gates := ht.gates
  sup := ht.sup
  store := ht.store
  hoist := ⟨q, by
    have hh := ht.hoists h
    rwa [withMonitor_hoist_self] at hh⟩
  others := fun j hj => by
    rw [ht.exceptPhase j, withMonitor_hoist_ne _ _ hj]
  queue := ht.queue
  posted := fun _ _ hp => ht.posted (withMonitor_posted q hp)
  placed := KeepsPlaced.trans (Soundless.keepsPlaced ⟨rfl, rfl, rfl, rfl⟩) ht.placed
  drained := ht.drained.trans (withMonitor_drained z h q)

/-! ### What the sequencer reads (R97, R112, R116) -/

section seen

variable {s w : State} {h : HoistNo} {d : StatusData} (hw : Noted s w h d)

include hw

theorem Noted.gate (g : GateNo) : w.gate g = s.gate g := by simp [State.gate, hw.gates]

theorem Noted.record (g : GateNo) : w.record g = s.record g := by simp [State.record, hw.store]

theorem Noted.bothStill (g : GateNo) : w.bothStill g = (s.withStatus h d).bothStill g := by
  unfold State.bothStill State.leftOf State.rightOf
  rw [hw.drive, hw.drive]

theorem Noted.bothAtRest (g : GateNo) : w.bothAtRest g = (s.withStatus h d).bothAtRest g := by
  unfold State.bothAtRest State.leftOf State.rightOf
  rw [hw.drive, hw.drive]

theorem Noted.skew (g : GateNo) : w.skew g = (s.withStatus h d).skew g := by
  simp [State.skew, State.leftOf, State.rightOf, hw.position]

theorem Noted.withinTolerance (g : GateNo) (x : Int) : w.withinTolerance g x = (s.withStatus h d).withinTolerance g x := by
  have hrecord : w.record g = (s.withStatus h d).record g := hw.record g
  unfold State.withinTolerance State.leftOf State.rightOf
  rw [hw.position, hw.position, hrecord]

theorem Noted.faultedGate (g : GateNo) (c : Cause) : w.faultedGate g c = (s.withStatus h d).faultedGate g c := by
  have hrecord : w.record g = (s.withStatus h d).record g := hw.record g
  have hgate : w.gate g = (s.withStatus h d).gate g := hw.gate g
  have hstore : w.store = (s.withStatus h d).store := hw.store
  unfold State.faultedGate
  rw [hw.position, hw.position, hrecord, hgate, hstore]

theorem Noted.stopSetpoint (k : HoistNo) : stopSetpoint (w.hoist k) = stopSetpoint ((s.withStatus h d).hoist k) :=
  stopSetpoint_congr (hw.position k)

theorem Noted.drive_self : (w.hoist h).drive = d.drive := by
  rw [hw.drive, withStatus_hoist_self]
  rfl

theorem Noted.sup_of_not_drain (hdevice : s.sup.device ≠ .drain) : w.sup = s.sup := hw.sup.resolve_right fun e => hdevice e.1

/-- While a gate in service is under way no test can find the drain's conditions fulfilled. -/
theorem Noted.sup_of_busy {g : GateNo} (hmode : (s.gate g).mode ≠ .off) (hidle : (s.gate g).motion ≠ .idle)
    (hfaulted : (s.gate g).motion ≠ .faulted) : w.sup = s.sup := by
  refine hw.sup.resolve_right fun e => ?_
  rcases e.2 g with h1 | h1 | h1
  exacts [hmode h1, hidle h1, hfaulted h1]

theorem Noted.alikeAt (g : GateNo) (hsup : w.sup = s.sup) : AlikeAt g (s.withStatus h d) w :=
  ⟨hw.gate g, hw.store, hsup, hw.forcedIndex, hw.position, hw.drive⟩

theorem Noted.noStart {g : GateNo} (hns : (s.withStatus h d).NoStart g) : w.NoStart g := by
  unfold State.NoStart at hns ⊢
  rw [hw.gate, hw.bothStill]
  exact hns

theorem Noted.demandsLockout (g : GateNo) : w.demandsLockout g = s.demandsLockout g := by
  unfold State.demandsLockout
  rw [hw.gate, hw.store]

end seen

/-- A status of one hoist with a calm load. -/
theorem exec_calm_status {ws : List Word} {k : Nat} {f : Frame} {s : State} {d : StatusData} {h : HoistNo}
    (hr : s.StatusReaches ws k f d h) (hcalm : s.LoadCalm h d) :
    ∃ t u o q, exec (.frameArrival ws k) s = .next t ∧ Aside s u ∧
      Seen s (State.withMonitor { u.received h d (s.matches f) with orders := o } h q) h d ∧
      Ended h (sequencerStatus h (State.withMonitor { u.received h d (s.matches f) with orders := o } h q)) t := by
  obtain ⟨t, u, place, o, ht, hu, hroom, hafter⟩ := exec_status hr
  have hw := (hu.seen_received hroom h d (s.matches f)).withOrders o
  obtain ⟨hover, hslack⟩ := hcalm
  obtain ⟨q, q', hhanded⟩ := handOnStatus_of_calm (w := { u.received h d (s.matches f) with orders := o }) (h := h) place
    (by rw [hw.load]; unfold State.Overloads; rw [hw.store]; exact hover)
    (by rw [hw.load]; unfold State.Slackens; rw [hw.store]; exact hslack)
  rw [hhanded] at hafter
  exact ⟨t, u, o, q, ht, hu, hw.withMonitor q, hafter.ended⟩

/-- The same, with what the sequencer saw. -/
theorem exec_seen_status {ws : List Word} {k : Nat} {f : Frame} {s : State} {d : StatusData} {h : HoistNo}
    (hr : s.StatusReaches ws k f d h) (hcalm : s.LoadCalm h d) :
    ∃ t v, exec (.frameArrival ws k) s = .next t ∧ Seen s v h d ∧ Ended h (sequencerStatus h v) t := by
  obtain ⟨t, u, o, q, ht, _, hv, hend⟩ := exec_calm_status hr hcalm
  exact ⟨t, _, ht, hv, hend⟩

/-! ### A gate with nothing to do -/

theorem sequencerStatus_of_sound {h : HoistNo} {v : State} (hmode : (v.gate (gateOf h)).mode ≠ .off)
    (hfault : (v.hoist h).drive ≠ .fault)
    (hlocal : (v.hoist h).drive = .takenLocal → (v.gate (gateOf h)).takesLocal = false) :
    sequencerStatus h v = checkMotion (gateOf h) v := by
  unfold sequencerStatus
  dsimp only
  rw [if_neg hmode]
  cases hd : (v.hoist h).drive with
  | fault => exact absurd hd hfault
  | takenLocal =>
    dsimp only
    rw [hlocal hd, if_neg Bool.false_ne_true]
  | still => rfl
  | running => rfl

theorem checkMotion_of_idle {g : GateNo} {v : State} (hidle : (v.gate g).motion = .idle) : checkMotion g v = examine g v := by
  unfold checkMotion
  rw [hidle]

theorem takesLocal_of_idle {x : Gate} (h : x.motion = .idle) : x.takesLocal = false := by
  simp [Gate.takesLocal, Gate.inFlight, h]

/-- A gate in service, IDLE with nothing to issue, does nothing with a status whose drive reports no FAULT (R111). -/
theorem sequencerStatus_of_quiet {h : HoistNo} {v : State} (hmode : (v.gate (gateOf h)).mode ≠ .off)
    (hidle : (v.gate (gateOf h)).motion = .idle) (hns : v.NoStart (gateOf h)) (hfault : (v.hoist h).drive ≠ .fault) :
    sequencerStatus h v = v := by
  rw [sequencerStatus_of_sound hmode hfault fun _ => takesLocal_of_idle hidle, checkMotion_of_idle hidle, examine_of_noStart hns]

/-! ### Acknowledgements (R134) -/

theorem acknowledgedBy_iff (x : Hoist) (tag : Byte) :
    x.acknowledgedBy tag = true ↔ tag ≠ 0#8 ∧ ∃ sl, x.slot = some sl ∧ sl.tag = tag := by
  unfold Hoist.acknowledgedBy
  cases x.slot <;> simp

/-- A slot granted RING-OUT keeps its tag. -/
theorem acknowledgedBy_of_granted {x y : Hoist} (h : x.GrantedFrom y) (tag : Byte) :
    y.acknowledgedBy tag = x.acknowledgedBy tag := by
  rcases h with rfl | ⟨sl, hsl, rfl⟩
  · rfl
  · simp [Hoist.acknowledgedBy, hsl]

theorem acknowledgedBy_applied (d : StatusData) (x : Hoist) (tag : Byte) :
    (x.applied d).acknowledgedBy tag = x.acknowledgedBy tag := rfl

theorem received_of_matched {u : State} {h : HoistNo} {d : StatusData} (ha : (u.hoist h).acknowledgedBy d.ackTag = true) :
    u.received h d true = testDrain (restartRefresh h (emptySlot h (u.withStatus h d))) := by
  unfold State.received
  rw [if_pos rfl, matchAck_of_acknowledged]
  rwa [withStatus_hoist_self]

theorem received_of_unmatched {u : State} {h : HoistNo} {d : StatusData} {m : Bool}
    (ha : m = false ∨ (u.hoist h).acknowledgedBy d.ackTag = false) : u.received h d m = u.withStatus h d := by
  unfold State.received
  split
  next hm =>
    refine matchAck_of_other ?_
    rw [withStatus_hoist_self]
    exact ha.resolve_left (by rw [hm]; nofun)
  next => rfl

/-- AcknowledgementMatched, of O28. -/
theorem acknowledgementMatched : Sys2Proof.Claim.AcknowledgementMatched := by
  intro ws k f s d h sl hr hdest hmode hidle hqueue hpending hfault hrun hcalm hsl htag hzero
  obtain ⟨t, u, o, q, ht, hu, hseen, hend⟩ := exec_calm_status hr hcalm
  have hmatches : s.matches f = true := decide_eq_true hdest
  have hacked : (u.hoist h).acknowledgedBy d.ackTag = true := by
    rw [acknowledgedBy_of_granted (hu.hoists h), acknowledgedBy_iff]
    exact ⟨hzero, sl, hsl, htag⟩
  rw [hmatches, received_of_matched hacked] at hseen hend
  rw [sequencerStatus_of_quiet (by rw [hseen.gate, hmode]; nofun) (by rw [hseen.gate, hidle])
    (.inl (by rw [hseen.gate]; exact ⟨hqueue, hpending⟩)) (by rw [hseen.drive_self]; exact hfault)] at hend
  have hsame := hu.exceptPhase h
  obtain ⟨q', hgranted⟩ := hend.hoist
  have hrecord : State.hoist { testDrain (restartRefresh h (emptySlot h (u.withStatus h d))) with orders := o } h =
      { (u.hoist h).applied d with
        slot := none
        refreshTimer := if refreshInterval u.store.control = 0 then none else some (refreshInterval u.store.control) } :=
    (acknowledged_hoist h h _).trans (by rw [if_pos rfl, withStatus_hoist_self]; rfl)
  rw [withMonitor_hoist_self, hrecord] at hgranted
  have hhoist := hgranted.of_slotless rfl
  have hzero : refreshInterval s.store.control = 0 ↔ s.store.control[11] = 0#16 := eq_iff_toNat_eq _ 0 (by decide)
  refine ⟨t, ht, ?_, fun hmem => acknowledged_queue _ (hend.queue h hmem), ?_, ?_, ?_, ?_, hend.gates.trans hseen.gates,
    hend.sup.trans (hseen.sup_of_not_drain (by rw [hrun]; nofun)), fun j hj => (hend.others j hj).trans (hseen.others j hj)⟩
  · rw [hhoist]
  · rw [hhoist, hu.store]
    simp only [hzero]
    rfl
  · rw [hhoist]
    exact (Hoist.lastPosted_of_exceptPhase hsame :)
  · rw [hhoist]
    exact (Hoist.retry_of_exceptPhase hsame :)
  · rw [hhoist]
    exact (Hoist.exhausted_of_exceptPhase hsame :)

/-- AcknowledgementNotMatched, of O28. -/
theorem acknowledgementNotMatched : Sys2Proof.Claim.AcknowledgementNotMatched := by
  intro ws k f s d h hr hother hmode hidle hqueue hpending hfault hcalm
  obtain ⟨t, u, o, q, ht, hu, hseen, hend⟩ := exec_calm_status hr hcalm
  have hunmatched : s.matches f = false ∨ (u.hoist h).acknowledgedBy d.ackTag = false := by
    rcases hother with ⟨hown, hb⟩ | hzero | htag
    · exact .inl (decide_eq_false fun hd => hd.elim hown hb)
    · refine .inr (Bool.eq_false_iff.mpr fun ha => ?_)
      exact ((acknowledgedBy_iff _ _).mp ha).1 hzero
    · refine .inr (Bool.eq_false_iff.mpr fun ha => ?_)
      rw [acknowledgedBy_of_granted (hu.hoists h), acknowledgedBy_iff] at ha
      obtain ⟨_, sl, hsl, e⟩ := ha
      exact htag sl hsl e
  rw [received_of_unmatched hunmatched] at hseen hend
  rw [sequencerStatus_of_quiet (by rw [hseen.gate, hmode]; nofun) (by rw [hseen.gate, hidle])
    (.inl (by rw [hseen.gate]; exact ⟨hqueue, hpending⟩)) (by rw [hseen.drive_self]; exact hfault)] at hend
  obtain ⟨q', hgranted⟩ := hend.hoist
  have hrecord : State.hoist { u.withStatus h d with orders := o } h = (u.hoist h).applied d := withStatus_hoist_self u h d
  rw [withMonitor_hoist_self, hrecord] at hgranted
  refine ⟨t, ht, ?_, hend.gates.trans hseen.gates, hend.sup.trans hu.sup, fun j hj => (hend.others j hj).trans (hseen.others j hj)⟩
  have hmonitor : (t.hoist h).monitor = q' := Hoist.monitor_of_exceptPhase hgranted.exceptPhase
  have hbefore : ((s.withStatus h d).hoist h).exceptPhase = ((u.hoist h).applied d).exceptPhase := by
    rw [withStatus_hoist_self, Hoist.exceptPhase_applied, Hoist.exceptPhase_applied, hu.exceptPhase h]
  rw [hmonitor, hbefore, hgranted.exceptPhase]
  rfl

/-- Settles O28: an acknowledgement that matches empties the slot, and any other leaves it. -/
theorem acknowledgementEmptiesSlot : Obligations.AcknowledgementEmptiesSlot :=
  ⟨acknowledgementMatched, acknowledgementNotMatched⟩

end Sys2Proof.Machine
end

section
/-!
PROOFS. A status at a gate in motion that brings no fault: arrival, the end of a stop, trim (R97, R111 to R113, R116).
-/

namespace Sys2Proof.Machine

/-! ### The checks of R111, case by case -/

theorem drive_of_bothStill {g : GateNo} {h : HoistNo} {s : State} (hg : gateOf h = g) (hstill : s.bothStill g = true) :
    (s.hoist h).drive = .still := by
  obtain ⟨hl, hr⟩ := (bothStill_iff s g).mp hstill
  rcases hoist_of_gate hg with rfl | rfl
  exacts [hl, hr]

/-- With its drive STILL or RUNNING a status is the checks by motion state alone. -/
theorem sequencerStatus_of_free {h : HoistNo} {v : State} (hmode : (v.gate (gateOf h)).mode ≠ .off)
    (hfree : (v.hoist h).drive = .still ∨ (v.hoist h).drive = .running) : sequencerStatus h v = checkMotion (gateOf h) v := by
  refine sequencerStatus_of_sound hmode ?_ ?_
  · rcases hfree with e | e <;> rw [e] <;> nofun
  · rcases hfree with e | e <;> rw [e] <;> nofun

theorem checkMotion_of_inFlight {g : GateNo} {c : MoveContext} {v : State} (hflight : (v.gate g).inFlight = true)
    (hc : (v.gate g).context = some c) : checkMotion g v = checkMove g c v := by
  unfold checkMotion
  rcases (inFlight_iff _).mp hflight with h | h <;> rw [h, hc]

theorem checkMotion_of_stopping {g : GateNo} {v : State} (hmotion : (v.gate g).motion = .stopping) :
    checkMotion g v = if v.bothAtRest g then endStop g v else v := by
  unfold checkMotion
  rw [hmotion]

section check

variable {g : GateNo} {c : MoveContext} {v : State} (hskew : |v.skew g| ≤ skewAlarm (v.record g))

include hskew

theorem checkMove_of_arrival (hstill : v.bothStill g = true) (hnear : v.withinTolerance g c.target = true) :
    checkMove g c v = examine g (completeMove g c v) := by
  unfold checkMove
  dsimp only
  rw [magnitude_eq, if_neg (by omega), if_pos (by simp [hstill, hnear])]

theorem checkMove_of_moving (hfar : ¬(v.bothStill g = true ∧ v.withinTolerance g c.target = true))
    (hmoving : (v.gate g).motion = .moving) :
    checkMove g c v = if trimThreshold (v.record g) < |v.skew g| then enterTrim g c v else v := by
  unfold checkMove
  dsimp only
  rw [magnitude_eq, if_neg (by omega), if_neg (by simpa using hfar), if_pos hmoving]

theorem checkMove_of_trim (hfar : ¬(v.bothStill g = true ∧ v.withinTolerance g c.target = true))
    (htrim : (v.gate g).motion = .trim) :
    checkMove g c v = if |v.skew g| ≤ trimRelease (v.record g) then releaseTrim g c v else v := by
  unfold checkMove
  dsimp only
  rw [magnitude_eq, if_neg (by omega), if_neg (by simpa using hfar), if_neg (by rw [htrim]; nofun)]

end check

/-! ### Arrival (R113) -/

theorem completeMove_gate_ne {g j : GateNo} (c : MoveContext) (s : State) (hj : j ≠ g) :
    (completeMove g c s).gate j = s.gate j := by
  rw [completeMove_eq, (notifyArrived_notices g _ _ _).gate, testDrain_gate, State.gate_onGate_ne _ _ _ _ hj]

theorem completeMove_sup {g : GateNo} {c : MoveContext} {s : State} (hdevice : s.sup.device ≠ .drain) :
    (completeMove g c s).sup = s.sup := by
  have hdrain : testDrain (s.onGate g fun x => x.completed c.target c.origin) =
      s.onGate g fun x => x.completed c.target c.origin := by simp [testDrain, hdevice]
  rw [completeMove_eq, (notifyArrived_notices g _ _ _).sup, hdrain, State.onGate_sup]

/-- ArrivalCompletesMove, of O29. -/
theorem arrivalCompletesMove : Sys2Proof.Claim.ArrivalCompletesMove := by
  intro ws k f s d h c hr g u hmode hflight hc hqueue hpending hrun hcalm hstill hskew hnear
  obtain ⟨t, v, ht, hv, hend⟩ := exec_seen_status hr hcalm
  have hgate := hv.gate g
  have hstill' : v.bothStill g = true := (hv.bothStill g).trans hstill
  have hsup : v.sup = s.sup := hv.sup_of_not_drain (by rw [hrun]; nofun)
  have hdevice : v.sup.device ≠ .drain := by rw [hsup, hrun]; nofun
  have hruns : sequencerStatus h v = completeMove g c v := by
    rw [sequencerStatus_of_free (by rw [hgate]; exact hmode) (.inl (drive_of_bothStill rfl hstill')),
      checkMotion_of_inFlight (c := c) (by rw [hgate]; exact hflight) (by rw [hgate]; exact hc),
      checkMove_of_arrival (by rw [hv.skew, hv.record]; exact hskew) hstill' ((hv.withinTolerance g _).trans hnear)]
    refine examine_of_noStart (.inl ?_)
    rw [completeMove_gate, hgate]
    exact ⟨hqueue, hpending⟩
  rw [hruns] at hend
  refine ⟨t, ht, ?_, fun j hj => ?_, ?_, fun src tag horigin hroom => ?_⟩
  · rw [hend.gate, completeMove_gate, hgate]
  · rw [hend.gate, completeMove_gate_ne c v hj, hv.gate]
  · rw [hend.sup, completeMove_sup hdevice, hsup]
  · rw [completeMove_order hdevice horigin] at hend
    have hplaced := (offerNotice_placed (s := v.onGate g fun x => x.completed c.target c.origin) src
      (arrivedPayload g c.target tag) (hv.room hroom)).2
    unfold State.nextNotice at hplaced
    rw [State.onGate_post, hv.tagCounter] at hplaced
    exact hend.placed _ _ rfl hplaced

/-! ### The end of a stop (R116) -/

/-- The gate as the end of its stop leaves it, before it is examined. -/
def State.stopEnded (s : State) (g : GateNo) (x : Gate) : Gate :=
  { x with stopTimer := none, motion := .idle, context := none, standing := s.gatePosition g, save := x.save.releaseResumed }

theorem endStop_eq (g : GateNo) (s : State) : endStop g s = examine g (testDrain (s.onGate g (s.stopEnded g))) := rfl

theorem endStop_gate {g : GateNo} {u v : State} (hgate : v.gate g = u.gate g)
    (halike : v.sup.device ≠ .drain → AlikeAt g u v) (hposition : v.gatePosition g = u.gatePosition g)
    (hdevice : v.sup.device = u.sup.device) :
    (endStop g v).gate g = (examine g (u.onGate g (u.stopEnded g))).gate g := by
  have hended : v.stopEnded g = u.stopEnded g := by
    unfold State.stopEnded
    rw [hposition]
  rw [endStop_eq, hended]
  by_cases hdrain : v.sup.device = .drain
  · have hdrain' : (testDrain (v.onGate g (u.stopEnded g))).sup.device = .drain := (testDrain_rest _).2.2.2.trans hdrain
    rw [examine_of_not_run (by rw [hdrain']; nofun), testDrain_gate, State.gate_onGate_self, hgate,
      examine_of_not_run (by rw [State.onGate_sup, ← hdevice, hdrain]; nofun), State.gate_onGate_self]
  · have hnone : testDrain (v.onGate g (u.stopEnded g)) = v.onGate g (u.stopEnded g) := by simp [testDrain, hdrain]
    rw [hnone]
    exact ((halike hdrain).onGate _).examine.gate

/-- In DRAIN the end of a stop tests the conditions, with the gate at rest (R174). -/
theorem endStop_fulfilled {g : GateNo} {v : State} (hdrain : v.sup.device = .drain) :
    (endStop g v).sup.drainFulfilled = (v.sup.drainFulfilled || (endStop g v).drained) := by
  have hdrain' : (testDrain (v.onGate g (v.stopEnded g))).sup.device = .drain := (testDrain_rest _).2.2.2.trans hdrain
  rw [endStop_eq, examine_of_not_run (by rw [hdrain']; nofun), testDrain_fulfilled (s := v.onGate g (v.stopEnded g)) hdrain]
  obtain ⟨hhoists, hgates, _⟩ := testDrain_rest (v.onGate g (v.stopEnded g))
  rw [drained_congr hgates fun k => by simp [State.hoist, hhoists]]
  rfl

theorem Seen.gatePosition {s w : State} {h : HoistNo} {d : StatusData} (hw : Seen s w h d) (g : GateNo) :
    w.gatePosition g = (s.withStatus h d).gatePosition g := by
  simp [State.gatePosition, State.leftOf, State.rightOf, hw.position]

/-- RestEndsStop, of O29. -/
theorem restEndsStop : Sys2Proof.Claim.RestEndsStop := by
  intro ws k f s d h hr g u hmode hmotion hcalm stopped
  obtain ⟨t, v, ht, hv, hend⟩ := exec_seen_status hr hcalm
  have hgate := hv.gate g
  have hsup : v.sup = s.sup := hv.sup_of_busy hmode (by rw [hmotion]; nofun) (by rw [hmotion]; nofun)
  have hmotion' : (v.gate g).motion = .stopping := by rw [hgate, hmotion]
  have hruns (hfree : d.drive = .still ∨ d.drive = .running) :
      sequencerStatus h v = if u.bothAtRest g then endStop g v else v := by
    rw [sequencerStatus_of_free (by rw [hgate]; exact hmode) (by rw [hv.drive_self]; exact hfree),
      checkMotion_of_stopping hmotion', hv.bothAtRest]
  have hstopped : stopped = u.onGate g (u.stopEnded g) := by
    refine State.onGate_congr ?_
    unfold State.stopEnded
    rw [releaseResumed_eq]
    simp [State.gatePosition, State.leftOf, State.rightOf, Int.fdiv_eq_ediv]
  refine ⟨t, ht, fun hfree j hj => ?_, fun hstill hrest => ?_, fun hrunning => ?_⟩
  · rw [hend.gate, hruns hfree, ← hv.gate j]
    split
    · exact (endStop_works (G := fun i => i = g) rfl hmotion').within.gates j hj
    · rfl
  · rw [hruns (.inl hstill), if_pos hrest] at hend
    have hended : t.gate g = (examine g stopped).gate g := by
      rw [hend.gate, hstopped]
      exact endStop_gate hgate (fun _ => hv.alikeAt g hsup) (hv.gatePosition g) hv.device
    refine ⟨hended, fun hstays => ?_, fun hdevice => ?_, fun hdrain => ?_⟩
    · rw [hended]
      rcases hstays with hheld | hnothing
      · rw [examine_of_held (mayIssue_of_held hheld)]
      · rw [examine_of_noStart (.inl ?_)]
        rw [State.gate_onGate_self]
        exact hnothing
    · rw [hend.sup, (endStop_works (G := fun i => i = g) rfl hmotion').within.sup_of_not_drain (by rwa [hsup]), hsup]
    · rw [hend.sup, endStop_fulfilled (by rw [hsup, hdrain]), hend.drained, hsup]
  · rw [hend.gate, hruns (hrunning.symm.imp_left And.left), ← hgate]
    rcases hrunning with hrunning | ⟨_, hmoving⟩
    · have hmoves : u.bothAtRest g = false := by
        have hdrive : (u.hoist h).drive = .running := by
          rw [← hv.drive, hv.drive_self]
          exact hrunning
        unfold State.bothAtRest State.leftOf State.rightOf
        rcases hoist_of_gate (h := h) (g := g) rfl with e | e <;> rw [← e, hdrive] <;> simp
      rw [hmoves]
      rfl
    · rw [hmoving]
      rfl

/-! ### Trim (R112) -/

theorem post_exceptPhase_ne {h j : HoistNo} (hj : j ≠ h) (sp : Setpoint) (s : State) :
    ((post h sp s).hoist j).exceptPhase = (s.hoist j).exceptPhase := by
  unfold post
  split
  · exact placePost_hoist_ne hj sp s
  · rfl

/-- The hoist that leads is the one the manual names, where they stand apart. -/
theorem leadingHoist_eq {v : State} {g : GateNo} (up : Bool) (hskew : v.skew g ≠ 0) : v.leadingHoist g up =
    if (0 < v.skew g ∧ up = true) ∨ (v.skew g < 0 ∧ up = false) then leftHoist g else rightHoist g := by
  unfold State.leadingHoist
  refine if_congr ?_ rfl rfl
  cases up with
  | true => simp
  | false =>
    simp only [decide_eq_false_iff_not, Bool.false_eq_true, and_false, and_true, false_or]
    omega

section trim

variable (g : GateNo) (c : MoveContext) (v : State)

theorem enterTrim_gate (j : GateNo) : (enterTrim g c v).gate j =
    if j = g then { v.gate g with motion := .trim, trimHoist := some (v.leadingHoist g c.up) } else v.gate j := by
  unfold enterTrim postStop
  rw [post_gate, State.gate_onGate]

theorem enterTrim_sup : (enterTrim g c v).sup = v.sup := post_sup _ _ _

theorem enterTrim_posted : (enterTrim g c v).Posted (v.leadingHoist g c.up) (stopSetpoint (v.hoist (v.leadingHoist g c.up))) :=
  postStop_posted _ (v.onGate g _)

theorem enterTrim_exceptPhase {j : HoistNo} (hj : j ≠ v.leadingHoist g c.up) :
    ((enterTrim g c v).hoist j).exceptPhase = (v.hoist j).exceptPhase := post_exceptPhase_ne hj _ (v.onGate g _)

theorem releaseTrim_gate (j : GateNo) : (releaseTrim g c v).gate j =
    if j = g then { v.gate g with motion := .moving, trimHoist := none } else v.gate j := by
  unfold releaseTrim
  dsimp only
  split
  · rw [post_gate, State.gate_onGate]
  · rw [State.gate_onGate]

theorem releaseTrim_sup : (releaseTrim g c v).sup = v.sup := by
  unfold releaseTrim
  dsimp only
  split
  · exact post_sup _ _ _
  · rfl

theorem releaseTrim_of_hoist {j : HoistNo} (hj : (v.gate g).trimHoist = some j) : releaseTrim g c v =
    post j (moveSetpoint c.target c.speed) (v.onGate g fun x => { x with motion := .moving, trimHoist := none }) := by
  unfold releaseTrim
  rw [hj]

end trim

/-- SkewTrimsGate, of O29. -/
theorem skewTrimsGate : Sys2Proof.Claim.SkewTrimsGate := by
  intro ws k f s d h c hr g x u hmode hflight hc hrun hcalm hfree hskew hfar leading
  obtain ⟨t, v, ht, hv, hend⟩ := exec_seen_status hr hcalm
  have hgate : v.gate g = x := hv.gate g
  have hsup : v.sup = s.sup := hv.sup_of_not_drain (by rw [hrun]; nofun)
  have hskew' : |v.skew g| ≤ skewAlarm (v.record g) := by rw [hv.skew, hv.record]; exact hskew
  have hfar' : ¬(v.bothStill g = true ∧ v.withinTolerance g c.target = true) := by
    rw [hv.bothStill, hv.withinTolerance]
    exact hfar
  have hruns : sequencerStatus h v = checkMove g c v := by
    rw [sequencerStatus_of_free (by rw [hgate]; exact hmode) (by rw [hv.drive_self]; exact hfree),
      checkMotion_of_inFlight (by rw [hgate]; exact hflight) (by rw [hgate]; exact hc)]
  have hmoving (hm : x.motion = .moving) : sequencerStatus h v =
      if trimThreshold (s.record g) < |u.skew g| then enterTrim g c v else v := by
    rw [hruns, checkMove_of_moving hskew' hfar' (by rw [hgate, hm]), hv.record, hv.skew]
  have htrim (hm : x.motion = .trim) : sequencerStatus h v =
      if |u.skew g| ≤ trimRelease (s.record g) then releaseTrim g c v else v := by
    rw [hruns, checkMove_of_trim hskew' hfar' (by rw [hgate, hm]), hv.record, hv.skew]
  have hkept : (sequencerStatus h v).sup = v.sup ∧ ∀ j, j ≠ g → (sequencerStatus h v).gate j = v.gate j := by
    rcases (inFlight_iff _).mp hflight with hm | hm
    · rw [hmoving hm]
      split
      · exact ⟨enterTrim_sup g c v, fun j hj => (enterTrim_gate g c v j).trans (if_neg hj)⟩
      · exact ⟨rfl, fun _ _ => rfl⟩
    · rw [htrim hm]
      split
      · exact ⟨releaseTrim_sup g c v, fun j hj => (releaseTrim_gate g c v j).trans (if_neg hj)⟩
      · exact ⟨rfl, fun _ _ => rfl⟩
  have hstays (hnone : sequencerStatus h v = v) : t.gate g = x := by rw [hend.gate, hnone, hgate]
  refine ⟨t, ht, (hend.sup.trans hkept.1).trans hsup, fun j hj => ?_, fun hm hapart => ?_, fun hm hclose => ?_,
    fun hm hapart => ?_, fun hm hclose => ⟨?_, fun j hj hg => ?_⟩⟩
  · rw [hend.gate, hkept.2 j hj, hv.gate]
  · have hnonzero : v.skew g ≠ 0 := fun h0 => by
      have hnonneg : 0 ≤ trimThreshold (s.record g) := Int.natCast_nonneg _
      rw [← hv.skew, h0, abs_zero] at hapart
      omega
    have hlead : v.leadingHoist g c.up = leading := by rw [leadingHoist_eq _ hnonzero, hv.skew]
    have hposted := enterTrim_posted g c v
    have hrest (j : HoistNo) := enterTrim_exceptPhase g c v (j := j)
    rw [hmoving hm, if_pos hapart] at hend
    rw [hlead] at hposted hrest
    refine ⟨?_, ?_, fun j hj hh => ((hend.others j hh).trans (hrest j hj)).trans (hv.others j hh)⟩
    · rw [hend.gate, enterTrim_gate, if_pos rfl, hgate, hlead]
    · rw [← hv.stopSetpoint]
      exact hend.posted _ _ hposted
  · exact hstays (by rw [hmoving hm, if_neg (by omega)])
  · exact hstays (by rw [htrim hm, if_neg (by omega)])
  · rw [hend.gate, htrim hm, if_pos hclose, releaseTrim_gate, if_pos rfl, hgate]
  · rw [htrim hm, if_pos hclose, releaseTrim_of_hoist (j := j) g c v (by rw [hgate, hj])] at hend
    refine ⟨hend.posted _ _ (post_posted ((mayPost_move_iff _ j).mpr ⟨by rw [State.onGate_sup, hsup, hrun], ?_⟩)),
      fun i hi hh => ((hend.others i hh).trans (post_exceptPhase_ne hi _ (v.onGate g _))).trans (hv.others i hh)⟩
    rw [hg, State.gate_onGate_self, hgate]
    exact hmode

/-- Settles O29: arrival, the end of a stop, trim. -/
theorem arrivalEndsMove : Obligations.ArrivalEndsMove := ⟨arrivalCompletesMove, restEndsStop, skewTrimsGate⟩

end Sys2Proof.Machine
end

section
/-!
PROOFS. A status that faults a gate by skew or drive state, and the commands that lock the device out (R112, R114, R116, R136,
R158, R160, R162).
-/

namespace Sys2Proof.Machine

/-! ### A fault brought by a status -/

section fault

variable {s v t : State} {h : HoistNo} {d : StatusData} {c : Cause} (hv : Seen s v h d) (hend : Ended h (sequencerStatus h v) t)
  (hruns : sequencerStatus h v = reachCause (gateOf h) c v) (hmode : (s.gate (gateOf h)).mode ≠ .off)
  (hsound : (s.gate (gateOf h)).faulty = false)

include hv hend hruns hmode hsound

/-- A fault without lockout, seen from before the status. -/
theorem Ended.of_fault (hfresh : (s.gate (gateOf h)).save.resumed = false) (henabled : faultResponse s.store.control = true) :
    t.gate (gateOf h) = (s.withStatus h d).faultedGate (gateOf h) c ∧ (∀ j, j ≠ gateOf h → t.gate j = s.gate j) ∧
      (s.sup.device ≠ .drain → t.sup = s.sup) ∧
      ∀ j, gateOf j = gateOf h → t.Posted j (stopSetpoint ((s.withStatus h d).hoist j)) := by
  have hfault := reachCause_of_no_demand (s := v) (g := gateOf h) c (by rwa [hv.gate]) (by rwa [hv.gate])
    (by rw [hv.demandsLockout]; exact demandsLockout_of_fresh hfresh henabled)
  rw [← hruns] at hfault
  refine ⟨?_, fun j hj => ?_, fun hdevice => ?_, fun j hj => ?_⟩
  · rw [hend.gate, hfault.gate, hv.faultedGate]
  · rw [hend.gate, hfault.others j hj, hv.gate]
  · rw [hend.sup, hfault.sup, hv.sup_of_not_drain hdevice]
  · rw [← hv.stopSetpoint]
    exact hend.posted _ _ (hfault.posted j hj)

end fault

/-- SkewFaultsGate, of O30. -/
theorem skewFaultsGate : Sys2Proof.Claim.SkewFaultsGate := by
  intro ws k f s d h hr g u hfree hmode hflight hc hfresh henabled hskew hcalm
  obtain ⟨t, v, ht, hv, hend⟩ := exec_seen_status hr hcalm
  obtain ⟨c, hc⟩ := Option.isSome_iff_exists.mp hc
  have hruns : sequencerStatus h v = reachCause g .skew v := by
    rw [sequencerStatus_of_free (by rw [hv.gate]; exact hmode) (by rw [hv.drive_self]; exact hfree),
      checkMotion_of_inFlight (c := c) (by rw [hv.gate]; exact hflight) (by rw [hv.gate]; exact hc)]
    unfold checkMove
    dsimp only
    rw [magnitude_eq, if_pos (by rw [hv.skew, hv.record]; exact hskew)]
  exact ⟨t, ht, hend.of_fault hv hruns hmode (sound_of_inFlight hflight) hfresh henabled⟩

theorem sequencerStatus_of_driveFault {h : HoistNo} {v : State} (hmode : (v.gate (gateOf h)).mode ≠ .off)
    (hdrive : (v.hoist h).drive = .fault) (hsound : (v.gate (gateOf h)).faulty = false) :
    sequencerStatus h v = reachCause (gateOf h) .driveFault v := by
  unfold sequencerStatus
  dsimp only
  rw [if_neg hmode, hdrive, hsound]
  rfl

theorem sequencerStatus_of_local {h : HoistNo} {v : State} (hmode : (v.gate (gateOf h)).mode ≠ .off)
    (hdrive : (v.hoist h).drive = .takenLocal) (htakes : (v.gate (gateOf h)).takesLocal = true) :
    sequencerStatus h v = reachCause (gateOf h) .localTakeover v := by
  unfold sequencerStatus
  dsimp only
  rw [if_neg hmode, hdrive, htakes]
  rfl

theorem takesLocal_iff (x : Gate) : x.takesLocal = true ↔ x.inFlight = true ∨ x.motion = .stopping := by
  simp [Gate.takesLocal]

theorem sound_of_takesLocal {x : Gate} (h : x.takesLocal = true) : x.faulty = false := by
  rcases (takesLocal_iff x).mp h with hflight | hstopping
  · exact sound_of_inFlight hflight
  · simp [Gate.faulty, hstopping]

theorem bothStill_of_drive {h : HoistNo} {v : State} (hdrive : (v.hoist h).drive ≠ .still) : v.bothStill (gateOf h) = false :=
  Bool.eq_false_iff.mpr fun hstill => hdrive (drive_of_bothStill rfl hstill)

/-- DriveStateFaultsGate, of O30. -/
theorem driveStateFaultsGate : Sys2Proof.Claim.DriveStateFaultsGate := by
  intro ws k f s d h hr g x u hmode hcalm
  obtain ⟨t, v, ht, hv, hend⟩ := exec_seen_status hr hcalm
  have hmode' : (v.gate (gateOf h)).mode ≠ .off := by rw [hv.gate]; exact hmode
  refine ⟨t, ht, fun c hc hfresh henabled => ?_, fun hlocal hidle => ?_⟩
  · rcases hc with ⟨hdrive, rfl, hsound⟩ | ⟨hdrive, rfl, htakes⟩
    · exact hend.of_fault hv (sequencerStatus_of_driveFault hmode' (by rw [hv.drive_self, hdrive]) (by rw [hv.gate]; exact hsound))
        hmode hsound hfresh henabled
    · have htakes' : (s.gate (gateOf h)).takesLocal = true := (takesLocal_iff _).mpr htakes
      exact hend.of_fault hv (sequencerStatus_of_local hmode' (by rw [hv.drive_self, hdrive]) (by rw [hv.gate]; exact htakes'))
        hmode (sound_of_takesLocal htakes') hfresh henabled
  · rw [hend.gates, sequencerStatus_of_quiet hmode' (by rw [hv.gate]; exact hidle)
      (.inr (bothStill_of_drive (by rw [hv.drive_self, hlocal]; nofun))) (by rw [hv.drive_self, hlocal]; nofun), hv.gates]

/-! ### Lockout by command (R140, R162, R170) -/

theorem LockedOut.of_alike {s u t : State} {g : GateNo} {c : LockoutCause} (h : LockedOut u t g c) (hsup : u.sup = s.sup)
    (hgates : ∀ j, u.gate j = s.gate j) (hstore : u.store = s.store)
    (hstops : ∀ k, stopSetpoint (u.hoist k) = stopSetpoint (s.hoist k)) : LockedOut s t g c where
  sup := by rw [h.sup, hsup]
  faulted := h.faulted
  others := fun j hj => by rw [h.others j hj, hgates, stoppedGate_congr hstore (hgates j)]
  stops := fun k hdrive hservice => by
    rw [← hstops]
    refine h.stops k ?_ (by rwa [hgates])
    unfold State.driveOf at hdrive ⊢
    rwa [hstore]

theorem LockedOut.ended {s z t : State} {g : GateNo} {h : HoistNo} {c : LockoutCause} (hz : LockedOut s z g c)
    (hend : Ended h z t) : LockedOut s t g c where
  sup := hend.sup.trans hz.sup
  faulted := by rw [hend.gate, hz.faulted]
  others := fun j hj => (hend.gate j).trans (hz.others j hj)
  stops := fun k hdrive hservice => hend.posted _ _ (hz.stops k hdrive hservice)

section lockout

variable {g : GateNo} {s : State} (c : Cause) (hmode : (s.gate g).mode ≠ .off) (hsound : (s.gate g).faulty = false)
  (hrun : s.sup.device = .run)
  (hdemand : (s.gate g).resumedMove = true ∨ faultResponse s.store.control = false)

include hmode hsound hrun hdemand

/-- What a command leaves that ends with a fault and its lockout. -/
theorem settle_lockedOut :
    LockedOut s (settle (reachCause g c s)) g (if (s.gate g).resumedMove then .recoveryFault else .responseOff) ∧
      (settle (reachCause g c s)).gate g = s.faultedGate g c ∧ SameSurroundings s (settle (reachCause g c s)) := by
  obtain ⟨hlocked, hgate, hsame⟩ := reachCause_lockedOut c hmode hsound hrun (demandsLockout_iff.mpr hdemand)
  exact ⟨hlocked.aside (settle_aside _), ((settle_flow _).gate g).trans hgate,
    hsame.trans (settle_traffic _).surroundings⟩

end lockout

/-- CommandLocksOut, of O34. -/
theorem commandLocksOut : Sys2Proof.Claim.CommandLocksOut := by
  intro g s hmode hsound hrun hdemand cause
  refine ⟨fun htimer hflight => ?_, fun htimer hstopping => ?_, fun h sl hg hsl hsent htimer hpast habandon => ?_,
    fun ws k f d h hr hg hfault hcalm => ?_⟩
  · obtain ⟨hlocked, hgate, hsame⟩ := settle_lockedOut .moveTimeout hmode hsound hrun hdemand
    rw [← moveTimerExpires_of_running htimer hflight hmode] at hlocked hgate hsame
    exact ⟨_, rfl, hlocked, hsame, by rw [hgate]; rfl⟩
  · obtain ⟨hlocked, hgate, hsame⟩ := settle_lockedOut .stopTimeout hmode hsound hrun hdemand
    rw [← stopTimerExpires_of_stopping htimer hstopping hmode] at hlocked hgate hsame
    exact ⟨_, rfl, hlocked, hsame, by rw [hgate]; rfl⟩
  · subst hg
    obtain ⟨hlocked, hgate, _⟩ := settle_lockedOut (s := s.abandoned h) .driveSilent (by rwa [abandoned_gate])
      (by rwa [abandoned_gate]) (by rwa [abandoned_sup]) (by rwa [abandoned_gate, abandoned_store])
    have hexpires := ackExpires_of_abandon hsl hsent htimer hpast habandon
    rw [if_neg (by rw [hrun]; nofun)] at hexpires
    rw [← hexpires] at hlocked hgate
    rw [abandoned_gate] at hlocked
    refine ⟨settle (ackExpires h s), rfl, ?_, by rw [hgate]; rfl⟩
    exact hlocked.of_alike (abandoned_sup s h) (abandoned_gate s h) (abandoned_store s h) (abandoned_stopSetpoint s h)
  · subst hg
    obtain ⟨t, v, ht, hv, hend⟩ := exec_seen_status hr hcalm
    have hmode' : (v.gate (gateOf h)).mode ≠ .off := by rwa [hv.gate]
    have hsound' : (v.gate (gateOf h)).faulty = false := by rwa [hv.gate]
    have hsup : v.sup = s.sup := hv.sup_of_not_drain (by rw [hrun]; nofun)
    have hruns := sequencerStatus_of_driveFault hmode' (by rw [hv.drive_self, hfault]) hsound'
    obtain ⟨hlocked, hgate, _⟩ := reachCause_lockedOut .driveFault hmode' hsound' (by rwa [hsup])
      (by rw [hv.demandsLockout]; exact demandsLockout_iff.mpr hdemand)
    rw [← hruns] at hlocked hgate
    rw [hv.gate] at hlocked
    refine ⟨t, ht, (hlocked.ended hend).of_alike hsup hv.gate hv.store hv.stopSetpoint, ?_⟩
    rw [hend.gate, hgate]
    rfl

/-- Settles O34: the sequencer's lockouts, and those of the commands that bring a cause. -/
theorem faultLocksDeviceOut : Obligations.FaultLocksDeviceOut := ⟨causeLocksOut, commandLocksOut⟩

end Sys2Proof.Machine
end

section
/-!
PROOFS. The outcomes of a load: which are delivered, and what they make of the gate wherever the status stands among them
(R146, R149 to R151).
-/

namespace Sys2Proof.Machine

/-! ### The comparison of a load (R146, R150) -/

/-- What the comparison of a hoist's load makes of its outcomes and flags. -/
def State.comparedLoad (s : State) (h : HoistNo) : Quantity :=
  (s.hoist h).monitor.compared s.store.thresholds .load (s.hoist h).load (s.hoist h).settleTimer.isSome

theorem compareLoad_notices (h : HoistNo) (s : State) : OnlyNotices (s.withMonitor h (s.comparedLoad h)) (compareLoad h s) :=
  notifyAlarms_notices _ _ _ _ _ _

theorem compareLoad_monitor (h : HoistNo) (s : State) : ((compareLoad h s).hoist h).monitor = s.comparedLoad h := by
  rw [Hoist.monitor_of_exceptPhase ((compareLoad_notices h s).hoists h), withMonitor_hoist_self]

theorem compareLoad_gates (h : HoistNo) (s : State) : (compareLoad h s).gates = s.gates := (compareLoad_notices h s).gates

theorem compareLoad_gate (h : HoistNo) (g : GateNo) (s : State) : (compareLoad h s).gate g = s.gate g := by
  simp [State.gate, compareLoad_gates]

theorem compareLoad_ha (h : HoistNo) (s : State) :
    ((compareLoad h s).hoist h).monitor.outcomes.ha = true ↔ s.Overloads (s.hoist h).load := by
  rw [compareLoad_monitor]
  exact decide_eq_true_iff

theorem compareLoad_la (h : HoistNo) (s : State) :
    ((compareLoad h s).hoist h).monitor.outcomes.la = true ↔
      s.Slackens (s.hoist h).load ∧ (s.hoist h).settleTimer = none := by
  have hla : (s.comparedLoad h).outcomes.la =
      (!(s.hoist h).settleTimer.isSome && decide ((s.hoist h).load < threshold s.store.thresholds .load 3)) := rfl
  rw [compareLoad_monitor, hla]
  simp [State.Slackens, and_comm]

theorem OnlyNotices.noted {s w z : State} {h : HoistNo} {d : StatusData} (hz : OnlyNotices w z) (hw : Noted s w h d) :
    Noted s z h d where
  gates := hz.gates.trans hw.gates
  store := hz.store.trans hw.store
  forcedIndex := hz.forcedIndex.trans hw.forcedIndex
  position := fun k => (Hoist.position_of_exceptPhase (hz.hoists k)).trans (hw.position k)
  load := fun k => (Hoist.load_of_exceptPhase (hz.hoists k)).trans (hw.load k)
  drive := fun k => (Hoist.drive_of_exceptPhase (hz.hoists k)).trans (hw.drive k)
  settle := fun k => (Hoist.settleTimer_of_exceptPhase (hz.hoists k)).trans (hw.settle k)
  others := fun j hj => (hz.hoists j).trans (hw.others j hj)
  device := (congrArg Supervisor.device hz.sup).trans hw.device
  holdLine := (congrArg Supervisor.holdLine hz.sup).trans hw.holdLine
  sup := by
    rw [hz.sup]
    exact hw.sup

theorem Noted.compareLoad {s w : State} {h : HoistNo} {d : StatusData} (hw : Noted s w h d) :
    Noted s (compareLoad h w) h d := (compareLoad_notices h w).noted (hw.withMonitor _)

section noted

variable {s w : State} {h : HoistNo} {d : StatusData} (hw : Noted s w h d)

include hw

theorem Noted.overloads_iff : w.Overloads (w.hoist h).load ↔ s.Overloads ((s.withStatus h d).hoist h).load := by
  unfold State.Overloads
  rw [hw.load, hw.store]

theorem Noted.slackens_iff : w.Slackens (w.hoist h).load ∧ (w.hoist h).settleTimer = none ↔
    s.Slackens ((s.withStatus h d).hoist h).load ∧ (s.hoist h).settleTimer = none := by
  unfold State.Slackens
  rw [hw.load, hw.store, hw.settle]

end noted

/-! ### What the sequencer and the deliveries keep -/

theorem demandLockout_gate {g j : GateNo} (c : LockoutCause) {s : State} (hrest : (s.gate j).inFlight = false) :
    (demandLockout c g s).gate j = s.gate j := by
  unfold demandLockout
  split
  · unfold enterLockout
    dsimp only
    rw [(handLockout_summary _).1 j, (notify_notices _ _).gate]
    exact if_neg (by rw [State.onSup_gate, hrest]; exact Bool.false_ne_true)
  · rfl

/-- A cause that reaches a sound gate leaves it faulted, whatever it demands (R160). -/
theorem reachCause_gate {g : GateNo} {s : State} (c : Cause) (hmode : (s.gate g).mode ≠ .off)
    (hsound : (s.gate g).faulty = false) : (reachCause g c s).gate g = s.faultedGate g c := by
  have hstop (b : Bool) := (faultStop_taken c b hmode hsound).gate
  rw [reachCause_of_sound c hmode hsound]
  split
  · rw [demandLockout_gate _ (by rw [hstop, faultedGate_not_inFlight]), hstop]
  · exact hstop false

theorem reachCause_mode (g : GateNo) (c : Cause) (s : State) : ((reachCause g c s).gate g).mode = (s.gate g).mode := by
  by_cases hmode : (s.gate g).mode = .off
  · rw [reachCause_of_off g c s hmode]
  · cases hfaulty : (s.gate g).faulty with
    | true => rw [reachCause_of_faulty c hmode hfaulty, addCause_mode]
    | false => rw [reachCause_gate c hmode hfaulty, faultedGate_mode]

theorem checkMove_mode (g : GateNo) (c : MoveContext) (s : State) : ((checkMove g c s).gate g).mode = (s.gate g).mode := by
  unfold checkMove
  dsimp only
  split
  · exact reachCause_mode g _ s
  · split
    · rw [examine_mode, completeMove_gate]
      rfl
    · split
      · split
        · rw [enterTrim_gate, if_pos rfl]
        · rfl
      · split
        · rw [releaseTrim_gate, if_pos rfl]
        · rfl

theorem checkMotion_mode (g : GateNo) (s : State) : ((checkMotion g s).gate g).mode = (s.gate g).mode := by
  unfold checkMotion
  split
  · split
    · exact checkMove_mode g _ s
    · rfl
  · split
    · exact checkMove_mode g _ s
    · rfl
  · split
    · rw [endStop_eq, examine_mode, testDrain_gate, State.gate_onGate_self]
      rfl
    · rfl
  · exact examine_mode g s
  · split
    · unfold endFaultStop
      rw [testDrain_gate, State.gate_onGate_self]
    · rfl
  · rfl

theorem sequencerStatus_mode (h : HoistNo) (s : State) :
    ((sequencerStatus h s).gate (gateOf h)).mode = (s.gate (gateOf h)).mode := by
  unfold sequencerStatus
  dsimp only
  split
  · rfl
  · split
    · split
      · rw [checkMotion_mode, reachCause_mode]
      · exact reachCause_mode _ _ s
    · split
      · exact reachCause_mode _ _ s
      · exact checkMotion_mode _ s
    · exact checkMotion_mode _ s

theorem deliverOverload_mode (h : HoistNo) (s : State) :
    ((deliverOverload h s).gate (gateOf h)).mode = (s.gate (gateOf h)).mode := by
  unfold deliverOverload
  split
  · exact reachCause_mode _ _ s
  · rfl

theorem deliverOverload_settling {start : Prop} (h : HoistNo) (s : State) : Settling start s (deliverOverload h s) := by
  unfold deliverOverload
  split
  · exact reachCause_settling _ _ s
  · exact .refl s

theorem deliverOverload_monitor (h k : HoistNo) (s : State) : ((deliverOverload h s).hoist k).monitor = (s.hoist k).monitor :=
  (deliverOverload_settling (start := True) h s).monitors k

/-! ### A gate that holds a cause (R151, R161) -/

/-- The gate is in service and faulted, with a bit of its cause set. -/
structure Marked (g : GateNo) (bit : Nat) (s : State) : Prop where
  mode : (s.gate g).mode ≠ .off
  faulty : (s.gate g).faulty = true
  cause : (s.gate g).save.causes.getLsbD bit = true

section marked

variable {g : GateNo} {bit : Nat} {s t : State}

theorem Marked.of_gate (h : t.gate g = s.gate g) (hs : Marked g bit s) : Marked g bit t := by
  obtain ⟨hmode, hfaulty, hcause⟩ := hs
  exact ⟨by rwa [h], by rwa [h], by rwa [h]⟩

theorem reachCause_marks {c : Cause} (hbit : (BitVec.ofNat 8 (2 ^ c.code)).getLsbD bit = true)
    (hmode : (s.gate g).mode ≠ .off) : Marked g bit (reachCause g c s) := by
  cases hfaulty : (s.gate g).faulty with
  | true =>
    rw [reachCause_of_faulty c hmode hfaulty]
    unfold addCause
    constructor <;> rw [State.gate_onGate_self]
    · exact hmode
    · exact hfaulty
    · simp only [BitVec.getLsbD_or, hbit, Bool.or_true]
  | false =>
    have hgate := reachCause_gate c hmode hfaulty
    constructor <;> rw [hgate]
    · exact hmode
    · rfl
    · rw [← hbit]
      cases c <;> rfl

theorem Marked.addCause (c : Cause) (hs : Marked g bit s) : Marked g bit (addCause g c s) := by
  unfold Machine.addCause
  constructor <;> rw [State.gate_onGate_self]
  · exact hs.mode
  · exact hs.faulty
  · simp only [BitVec.getLsbD_or, hs.cause, Bool.true_or]

theorem Marked.reachCause (c : Cause) (hs : Marked g bit s) : Marked g bit (reachCause g c s) := by
  rw [reachCause_of_faulty c hs.mode hs.faulty]
  exact hs.addCause c

theorem Marked.checkMotion (hs : Marked g bit s) : Marked g bit (checkMotion g s) := by
  unfold Machine.checkMotion
  have hfaulty := hs.faulty
  unfold Gate.faulty at hfaulty
  split <;> rename_i hmotion
  case h_5 =>
    split
    · unfold endFaultStop
      constructor <;> rw [testDrain_gate, State.gate_onGate_self]
      · exact hs.mode
      · rfl
      · exact hs.cause
    · exact hs
  case h_6 => exact hs
  all_goals
    rw [hmotion] at hfaulty
    exact absurd hfaulty (by decide)

theorem Marked.sequencerStatus {h : HoistNo} (hs : Marked (gateOf h) bit s) :
    Marked (gateOf h) bit (sequencerStatus h s) := by
  unfold Machine.sequencerStatus
  dsimp only
  rw [if_neg hs.mode]
  split
  · split
    · exact (hs.reachCause _).checkMotion
    · exact hs.reachCause _
  · split
    · exact hs.reachCause _
    · exact hs.checkMotion
  · exact hs.checkMotion

theorem Marked.deliverSlack {h : HoistNo} (hs : Marked (gateOf h) bit s) : Marked (gateOf h) bit (deliverSlack h s) := by
  unfold Machine.deliverSlack
  split
  · exact hs.reachCause _
  · exact hs

end marked

section handed

variable {h : HoistNo} {s : State}

theorem deliverOverload_marks (hmode : (s.gate (gateOf h)).mode ≠ .off) (hha : (s.hoist h).monitor.outcomes.ha = true) :
    Marked (gateOf h) 0 (deliverOverload h s) := by
  unfold deliverOverload
  rw [if_pos hha]
  exact reachCause_marks rfl hmode

theorem deliverSlack_marks (hmode : (s.gate (gateOf h)).mode ≠ .off) (hla : (s.hoist h).monitor.outcomes.la = true) :
    Marked (gateOf h) 1 (deliverSlack h s) := by
  unfold deliverSlack
  rw [if_pos hla]
  exact reachCause_marks rfl hmode

variable (place : Nat) (hmode : (s.gate (gateOf h)).mode ≠ .off)

include hmode

/-- OVERLOAD reaches a gate in service wherever the status stands among the events (R151). -/
theorem handOnStatus_overload (hover : s.Overloads (s.hoist h).load) : Marked (gateOf h) 0 (handOnStatus h place s) := by
  have hmode' : ((compareLoad h s).gate (gateOf h)).mode ≠ .off := by rwa [compareLoad_gate]
  have hha := (compareLoad_ha h s).mpr hover
  unfold handOnStatus
  split_ifs
  · have hsame := sequencerStatus_surroundings h s
    refine (deliverOverload_marks (by rwa [compareLoad_gate, sequencerStatus_mode]) ((compareLoad_ha h _).mpr ?_)).deliverSlack
    unfold State.Overloads
    rwa [hsame.load, hsame.store]
  · exact (deliverOverload_marks (by rwa [sequencerStatus_mode]) (by rwa [sequencerStatus_monitor])).deliverSlack
  · exact (deliverOverload_marks hmode' hha).sequencerStatus.deliverSlack
  · exact (deliverOverload_marks hmode' hha).deliverSlack.sequencerStatus

/-- SLACK reaches it with the settle timer stopped, unless a move can start with the status (R149 to R151). -/
theorem handOnStatus_slack (hslack : s.Slackens (s.hoist h).load) (hsettle : (s.hoist h).settleTimer = none)
    (hns : s.NoStart (gateOf h)) : Marked (gateOf h) 1 (handOnStatus h place s) := by
  have hmode' : ((deliverOverload h (compareLoad h s)).gate (gateOf h)).mode ≠ .off := by
    rwa [deliverOverload_mode, compareLoad_gate]
  have hla : ((deliverOverload h (compareLoad h s)).hoist h).monitor.outcomes.la = true := by
    rw [deliverOverload_monitor]
    exact (compareLoad_la h s).mpr ⟨hslack, hsettle⟩
  unfold handOnStatus
  split_ifs
  · have hsame := sequencerStatus_surroundings h s
    have hstill := ((sequencerStatus_settling (start := False) fun _ => hns).settle h).resolve_right And.left
    refine deliverSlack_marks (by rwa [deliverOverload_mode, compareLoad_gate, sequencerStatus_mode]) ?_
    rw [deliverOverload_monitor]
    refine (compareLoad_la h _).mpr ⟨?_, hstill.trans hsettle⟩
    unfold State.Slackens
    rwa [hsame.load, hsame.store]
  · refine deliverSlack_marks (by rwa [deliverOverload_mode, sequencerStatus_mode, compareLoad_gate]) ?_
    rw [deliverOverload_monitor, sequencerStatus_monitor]
    exact (compareLoad_la h s).mpr ⟨hslack, hsettle⟩
  · exact deliverSlack_marks (by rwa [sequencerStatus_mode]) (by rwa [sequencerStatus_monitor])
  · exact (deliverSlack_marks hmode' hla).sequencerStatus

end handed

theorem exec_noted_status {ws : List Word} {k : Nat} {f : Frame} {s : State} {d : StatusData} {h : HoistNo}
    (hr : s.StatusReaches ws k f d h) :
    ∃ t w place, exec (.frameArrival ws k) s = .next t ∧ Seen s w h d ∧ Aside (handOnStatus h place w) t := by
  obtain ⟨t, u, place, o, ht, hu, hroom, hafter⟩ := exec_status hr
  exact ⟨t, _, place, ht, (hu.seen_received hroom h d (s.matches f)).withOrders o, hafter⟩

/-- LoadOutcomeReachesGate, of O30. -/
theorem loadOutcomeReachesGate : Sys2Proof.Claim.LoadOutcomeReachesGate := by
  intro ws k f s d h hr g u hmode
  obtain ⟨t, w, place, ht, hw, hend⟩ := exec_noted_status hr
  have hmode' : (w.gate (gateOf h)).mode ≠ .off := by rwa [hw.gate]
  refine ⟨t, ht, fun hover => ?_, fun hslack hsettle hns => ?_⟩
  · have hmarked := (handOnStatus_overload place hmode' (hw.overloads_iff.mpr hover)).of_gate (hend.gate _)
    exact ⟨hmarked.faulty, hmarked.cause⟩
  · obtain ⟨hslack', hsettle'⟩ := hw.slackens_iff.mpr ⟨hslack, hsettle⟩
    have hmarked := (handOnStatus_slack place hmode' hslack' hsettle' (hw.noStart hns)).of_gate (hend.gate _)
    exact ⟨hmarked.faulty, hmarked.cause⟩

end Sys2Proof.Machine
end

section
/-!
PROOFS. A load outcome at a gate the status gives nothing else to do, and a status at a gate that is faulted (R150, R151, R158,
R160, R161, R163).
-/

namespace Sys2Proof.Machine

/-! ### A status with which the sequencer does nothing (R111) -/

theorem bothAtRest_of_running {h : HoistNo} {v : State} (hdrive : (v.hoist h).drive = .running) :
    v.bothAtRest (gateOf h) = false := by
  unfold State.bothAtRest State.leftOf State.rightOf
  rcases hoist_of_gate (h := h) (g := gateOf h) rfl with e | e <;> rw [← e, hdrive] <;> simp

theorem sequencerStatus_of_faultStopping {h : HoistNo} {v : State} (hmode : (v.gate (gateOf h)).mode ≠ .off)
    (hdrive : (v.hoist h).drive = .running) (hmotion : (v.gate (gateOf h)).motion = .faultStopping) :
    sequencerStatus h v = v := by
  rw [sequencerStatus_of_free hmode (.inr hdrive)]
  unfold checkMotion
  rw [hmotion, bothAtRest_of_running hdrive]
  rfl

theorem checkMove_of_running {h : HoistNo} {c : MoveContext} {v : State} (hdrive : (v.hoist h).drive = .running)
    (hskew : |v.skew (gateOf h)| ≤ skewAlarm (v.record (gateOf h))) (hflight : (v.gate (gateOf h)).inFlight = true)
    (hmoving : (v.gate (gateOf h)).motion = .moving → |v.skew (gateOf h)| ≤ trimThreshold (v.record (gateOf h)))
    (htrim : (v.gate (gateOf h)).motion = .trim → trimRelease (v.record (gateOf h)) < |v.skew (gateOf h)|) :
    checkMove (gateOf h) c v = v := by
  have hfar : ¬(v.bothStill (gateOf h) = true ∧ v.withinTolerance (gateOf h) c.target = true) := fun e => by
    rw [bothStill_of_drive (by rw [hdrive]; nofun)] at e
    exact Bool.false_ne_true e.1
  rcases (inFlight_iff _).mp hflight with hm | hm
  · rw [checkMove_of_moving hskew hfar hm]
    exact if_neg (not_lt.mpr (hmoving hm))
  · rw [checkMove_of_trim hskew hfar hm]
    exact if_neg (not_le.mpr (htrim hm))

/-- A sound gate does nothing with a status of a drive that runs, when neither a skew alarm nor a trim is due. -/
theorem sequencerStatus_of_running {h : HoistNo} {v : State} (hmode : (v.gate (gateOf h)).mode ≠ .off)
    (hsound : (v.gate (gateOf h)).faulty = false) (hdrive : (v.hoist h).drive = .running)
    (hskew : |v.skew (gateOf h)| ≤ skewAlarm (v.record (gateOf h)))
    (hmoving : (v.gate (gateOf h)).motion = .moving → |v.skew (gateOf h)| ≤ trimThreshold (v.record (gateOf h)))
    (htrim : (v.gate (gateOf h)).motion = .trim → trimRelease (v.record (gateOf h)) < |v.skew (gateOf h)|) :
    sequencerStatus h v = v := by
  rw [sequencerStatus_of_free hmode (.inr hdrive)]
  have hmove (hflight : (v.gate (gateOf h)).inFlight = true) (c : MoveContext) :=
    checkMove_of_running (c := c) hdrive hskew hflight hmoving htrim
  have hnot : (v.gate (gateOf h)).motion ≠ .faultStopping := fun e => by simp [Gate.faulty, e] at hsound
  unfold checkMotion
  split
  next e =>
    split
    · exact hmove ((inFlight_iff _).mpr (.inl e)) _
    · rfl
  next e =>
    split
    · exact hmove ((inFlight_iff _).mpr (.inr e)) _
    · rfl
  · rw [bothAtRest_of_running hdrive]
    rfl
  · exact examine_of_noStart (.inr (bothStill_of_drive (by rw [hdrive]; nofun)))
  next e => exact absurd e hnot
  · rfl

/-- Where the sequencer does nothing, its place among the events does not matter. -/
theorem handOnStatus_of_steady {h : HoistNo} {w : State} (place : Nat) (h0 : sequencerStatus h w = w)
    (h1 : sequencerStatus h (compareLoad h w) = compareLoad h w)
    (h2 : sequencerStatus h (deliverOverload h (compareLoad h w)) = deliverOverload h (compareLoad h w))
    (h3 : sequencerStatus h (deliverSlack h (deliverOverload h (compareLoad h w))) =
      deliverSlack h (deliverOverload h (compareLoad h w))) :
    handOnStatus h place w = deliverSlack h (deliverOverload h (compareLoad h w)) := by
  unfold handOnStatus
  rw [h0, h1, h2, h3]
  simp

/-! ### OVERLOAD and SLACK at a sound gate (R150, R160, R161) -/

/-- The gate with SLACK added besides OVERLOAD, or faulted by the one of the two that is due. -/
def State.loadFaulted (s : State) (g : GateNo) (heavy slack : Bool) : Gate :=
  let y := s.faultedGate g (if heavy then .overload else .slack)
  if heavy && slack then { y with save := { y.save with causes := 3#8 } } else y

section delivered

variable {h : HoistNo} {z : State} (hmode : (z.gate (gateOf h)).mode ≠ .off) (hsound : (z.gate (gateOf h)).faulty = false)
  (hdemand : z.demandsLockout (gateOf h) = false)

include hmode hsound hdemand

theorem deliverOverload_taken (hha : (z.hoist h).monitor.outcomes.ha = true) :
    FaultTaken z (deliverOverload h z) (gateOf h) .overload false := by
  unfold deliverOverload
  rw [if_pos hha]
  exact reachCause_of_no_demand .overload hmode hsound hdemand

/-- What the deliveries leave where one of the two is due. -/
theorem deliveries_taken (hdue : (z.hoist h).monitor.outcomes.ha = true ∨ (z.hoist h).monitor.outcomes.la = true) :
    let y := deliverSlack h (deliverOverload h z)
    y.gate (gateOf h) = z.loadFaulted (gateOf h) (z.hoist h).monitor.outcomes.ha (z.hoist h).monitor.outcomes.la ∧
      (∀ j, j ≠ gateOf h → y.gate j = z.gate j) ∧ y.sup = z.sup ∧ SameSurroundings z y ∧
      ∀ j, gateOf j = gateOf h → y.Posted j (stopSetpoint (z.hoist j)) := by
  intro y
  cases hha : (z.hoist h).monitor.outcomes.ha with
  | true =>
    have hover := deliverOverload_taken hmode hsound hdemand hha
    have hla := congrArg (fun q => q.outcomes.la) (deliverOverload_monitor h h z)
    cases hslack : (z.hoist h).monitor.outcomes.la with
    | true =>
      have hy : y = addCause (gateOf h) .slack (deliverOverload h z) := by
        refine (if_pos (hla.trans hslack)).trans (reachCause_of_faulty .slack ?_ ?_) <;> rw [hover.gate]
        · exact hmode
        · rfl
      rw [hy]
      unfold addCause
      refine ⟨?_, fun j hj => ?_, hover.sup, hover.surroundings.trans (onGate_surroundings _ _ _),
        fun j hj => posted_of_hoist rfl rfl rfl (hover.posted j hj)⟩
      · have hcauses :
            (z.faultedGate (gateOf h) .overload).save.causes ||| BitVec.ofNat 8 (2 ^ Cause.slack.code) = 3#8 :=
          show 1#8 <<< Cause.overload.code ||| BitVec.ofNat 8 (2 ^ Cause.slack.code) = 3#8 by decide
        rw [State.gate_onGate_self, hover.gate, hcauses]
        rfl
      · rw [State.gate_onGate_ne _ _ _ _ hj, hover.others j hj]
    | false =>
      have hy : y = deliverOverload h z := deliverSlack_of_calm (hla.trans hslack)
      rw [hy]
      exact ⟨hover.gate, hover.others, hover.sup, hover.surroundings, hover.posted⟩
  | false =>
    have hla : (z.hoist h).monitor.outcomes.la = true := hdue.resolve_left (by rw [hha]; nofun)
    have hy : y = reachCause (gateOf h) .slack z := by
      unfold y
      rw [deliverOverload_of_calm hha]
      exact if_pos hla
    have hslack := reachCause_of_no_demand .slack hmode hsound hdemand
    rw [hy]
    exact ⟨hslack.gate, hslack.others, hslack.sup, hslack.surroundings, hslack.posted⟩

end delivered

theorem loadFaulted_mode (s : State) (g : GateNo) (a b : Bool) : (s.loadFaulted g a b).mode = (s.gate g).mode := by
  cases a <;> cases b <;> rfl

theorem loadFaulted_motion (s : State) (g : GateNo) (a b : Bool) : (s.loadFaulted g a b).motion = .faultStopping := by
  cases a <;> cases b <;> rfl

/-- LoadFaultsGate, of O30. -/
theorem loadFaultsGate : Sys2Proof.Claim.LoadFaultsGate := by
  intro ws k f s d h hr g x u hmode hsound hdrive hskew hmoving htrim hfresh henabled slack
  obtain ⟨t, w, place, ht, hw, hend⟩ := exec_noted_status hr
  have hsteady {z : State} (hz : Noted s z h d) : sequencerStatus h z = z := by
    refine sequencerStatus_of_running ?_ ?_ (hz.drive_self.trans hdrive) ?_ (fun e => ?_) fun e => ?_
    · rw [hz.gate]
      exact hmode
    · rw [hz.gate]
      exact hsound
    · rw [hz.skew, hz.record]
      exact hskew
    · rw [hz.gate] at e
      rw [hz.skew, hz.record]
      exact hmoving e
    · rw [hz.gate] at e
      rw [hz.skew, hz.record]
      exact htrim e
  have hz := hw.compareLoad
  have hmode' : ((compareLoad h w).gate (gateOf h)).mode ≠ .off := by rwa [hz.gate]
  have hsound' : ((compareLoad h w).gate (gateOf h)).faulty = false := by rwa [hz.gate]
  have hdemand : (compareLoad h w).demandsLockout (gateOf h) = false := by
    rw [hz.demandsLockout]
    exact demandsLockout_of_fresh hfresh henabled
  have hha : ((compareLoad h w).hoist h).monitor.outcomes.ha = true ↔ s.Overloads (u.hoist h).load :=
    (compareLoad_ha h w).trans hw.overloads_iff
  have hla : ((compareLoad h w).hoist h).monitor.outcomes.la = true ↔ slack := (compareLoad_la h w).trans hw.slackens_iff
  have htaken := deliveries_taken hmode' hsound' hdemand
  have hrunning {y : State} (hy : SameSurroundings (compareLoad h w) y) : (y.hoist h).drive = .running := by
    rw [hy.drive, hz.drive_self, hdrive]
  have hover : sequencerStatus h (deliverOverload h (compareLoad h w)) = deliverOverload h (compareLoad h w) := by
    cases e : ((compareLoad h w).hoist h).monitor.outcomes.ha with
    | true =>
      have hfault := deliverOverload_taken hmode' hsound' hdemand e
      refine sequencerStatus_of_faultStopping ?_ (hrunning hfault.surroundings) ?_ <;> rw [hfault.gate]
      · exact hmode'
      · rfl
    | false =>
      rw [deliverOverload_of_calm e]
      exact hsteady hz
  generalize ((compareLoad h w).hoist h).monitor.outcomes.ha = heavy at *
  generalize ((compareLoad h w).hoist h).monitor.outcomes.la = slackens at *
  have hleft (hdue : heavy = true ∨ slackens = true) :
      t.gate g = (compareLoad h w).loadFaulted g heavy slackens ∧
        (∀ j, j ≠ g → t.gate j = s.gate j) ∧ (s.sup.device ≠ .drain → t.sup = s.sup) ∧
        ∀ j, gateOf j = g → t.Posted j (stopSetpoint (u.hoist j)) := by
    obtain ⟨hgate, hothers, hsup, hsame, hposted⟩ := htaken hdue
    rw [handOnStatus_of_steady place (hsteady hw.toNoted) (hsteady hz) hover
      (sequencerStatus_of_faultStopping (by rwa [hgate, loadFaulted_mode]) (hrunning hsame)
        (by rw [hgate, loadFaulted_motion]))] at hend
    refine ⟨(hend.gate g).trans hgate, fun j hj => ?_, fun hdevice => ?_, fun j hj => ?_⟩
    · rw [hend.gate, hothers j hj, hz.gate]
    · rw [hend.sup, hsup, hz.sup_of_not_drain hdevice]
    · rw [← hz.stopSetpoint]
      exact hend.posted (hposted j hj)
  refine ⟨t, ht, fun hdue => (hleft (hdue.imp hha.mpr hla.mpr)).2, fun ho hs => ?_, fun ho hs => ?_, fun ho hs => ?_⟩
  · obtain rfl : heavy = true := hha.mpr ho
    obtain rfl : slackens = false := Bool.eq_false_iff.mpr fun e => hs (hla.mp e)
    exact (hleft (.inl rfl)).1.trans (hz.faultedGate g .overload)
  · obtain rfl : heavy = false := Bool.eq_false_iff.mpr fun e => ho (hha.mp e)
    obtain rfl : slackens = true := hla.mpr hs
    exact (hleft (.inr rfl)).1.trans (hz.faultedGate g .slack)
  · obtain rfl : heavy = true := hha.mpr ho
    obtain rfl : slackens = true := hla.mpr hs
    refine (hleft (.inl rfl)).1.trans ?_
    unfold State.loadFaulted
    dsimp only
    rw [Bool.and_self, if_pos rfl, if_pos rfl, hz.faultedGate g]

end Sys2Proof.Machine
end

section
/-!
PROOFS. A status at a gate in FAULT-STOPPING or FAULTED: the causes it brings, and the end of the fault stop (R151, R158, R161,
R163).
-/

namespace Sys2Proof.Machine

/-- What the end of a fault stop with this status decides of the recoverable indicator (R163). -/
def State.recovery (s : State) (h : HoistNo) (d : StatusData) : Recoverable :=
  let g := gateOf h
  let u := s.withStatus h d
  if (s.gate g).save.firstCause.recoverable && u.bothStill g && decide (|u.skew g| ≤ trimThreshold (s.record g)) then .yes
  else .no

/-- A faulted gate with causes added, and its fault stop ended or not. -/
def Gate.tookStatus (x : Gate) (causes : Byte) (ended : Bool) (r : Recoverable) : Gate :=
  let y := { x with save := { x.save with causes := x.save.causes ||| causes } }
  if ended then { y with motion := .faulted, stopTimer := none, save := { y.save with recoverable := r } } else y

theorem tookStatus_zero (x : Gate) (r : Recoverable) : x.tookStatus 0#8 false r = x := by simp [Gate.tookStatus]

theorem tookStatus_mode (x : Gate) (m : Byte) (e : Bool) (r : Recoverable) : (x.tookStatus m e r).mode = x.mode := by
  cases e <;> rfl

theorem tookStatus_faulty {x : Gate} (m : Byte) (e : Bool) (r : Recoverable) (hx : x.faulty = true) :
    (x.tookStatus m e r).faulty = true := by
  cases e
  · exact hx
  · rfl

/-- The gate takes the status of hoist `h` as `Gate.tookStatus` says, and nothing else of the state that a later event of
the same status reads changes. -/
structure Took (s z : State) (h : HoistNo) (d : StatusData) (causes : Byte) (ended : Bool) : Prop where
  gate : z.gate (gateOf h) = (s.gate (gateOf h)).tookStatus causes ended (s.recovery h d)
  others : ∀ j, j ≠ gateOf h → z.gate j = s.gate j
  store : z.store = s.store
  position : ∀ k, (z.hoist k).position = ((s.withStatus h d).hoist k).position
  load : ∀ k, (z.hoist k).load = ((s.withStatus h d).hoist k).load
  drive : ∀ k, (z.hoist k).drive = ((s.withStatus h d).hoist k).drive
  settle : ∀ k, (z.hoist k).settleTimer = (s.hoist k).settleTimer
  device : z.sup.device = s.sup.device
  sup : s.sup.device ≠ .drain → z.sup = s.sup
  stopping : ended = false → (s.gate (gateOf h)).motion = .faultStopping → z.sup = s.sup
  fulfilled : ended = true → s.sup.device = .drain → z.sup.drainFulfilled = (s.sup.drainFulfilled || z.drained)

/-- The outcomes held are those the status gives (R146, R150). -/
structure Heard (s z : State) (h : HoistNo) (d : StatusData) : Prop where
  ha : (z.hoist h).monitor.outcomes.ha = true ↔ s.Overloads ((s.withStatus h d).hoist h).load
  la : (z.hoist h).monitor.outcomes.la = true ↔
    s.Slackens ((s.withStatus h d).hoist h).load ∧ (s.hoist h).settleTimer = none

theorem Heard.of_monitor {s z y : State} {h : HoistNo} {d : StatusData} (hz : Heard s z h d)
    (e : (y.hoist h).monitor = (z.hoist h).monitor) : Heard s y h d :=
  ⟨by rw [e]; exact hz.ha, by rw [e]; exact hz.la⟩

theorem Noted.took {s w : State} {h : HoistNo} {d : StatusData} (hw : Noted s w h d) (hmode : (s.gate (gateOf h)).mode ≠ .off) :
    Took s w h d 0#8 false where
  gate := by rw [hw.gate, tookStatus_zero]
  others := fun j _ => hw.gate j
  store := hw.store
  position := hw.position
  load := hw.load
  drive := hw.drive
  settle := hw.settle
  device := hw.device
  sup := hw.sup_of_not_drain
  stopping := fun _ hm => hw.sup_of_busy hmode (by rw [hm]; nofun) (by rw [hm]; nofun)
  fulfilled := nofun

theorem drained_of_gates {s t : State} (hgates : ∀ g, (t.gate g).mode = (s.gate g).mode ∧ (t.gate g).motion = (s.gate g).motion)
    (hslots : ∀ h, (t.hoist h).slot.isNone = (s.hoist h).slot.isNone) : t.drained = s.drained := by
  unfold State.drained
  congr 2 <;> funext x
  · rw [(hgates x).1, (hgates x).2]
  · exact hslots x

theorem addCause_drained (g : GateNo) (c : Cause) (s : State) : (addCause g c s).drained = s.drained := by
  refine drained_of_gates (fun j => ?_) fun _ => rfl
  unfold addCause
  rw [State.gate_onGate]
  split
  next e =>
    rw [e]
    exact ⟨rfl, rfl⟩
  next => exact ⟨rfl, rfl⟩

theorem compareLoad_drained (h : HoistNo) (s : State) : (compareLoad h s).drained = s.drained := by
  have hnotices := compareLoad_notices h s
  refine Eq.trans (drained_congr hnotices.gates fun k => ?_) (withMonitor_drained s h _)
  rw [Bool.eq_iff_iff, Option.isNone_iff_eq_none, Option.isNone_iff_eq_none]
  exact Hoist.slot_none_of_exceptPhase (hnotices.hoists k)

section took

variable {s z : State} {h : HoistNo} {d : StatusData} {m : Byte} {e : Bool} (hz : Took s z h d m e)

include hz

theorem Took.compareLoad : Took s (compareLoad h z) h d m e ∧ Heard s (compareLoad h z) h d := by
  have hnotices := compareLoad_notices h z
  have hhoist (k : HoistNo) : ((z.withMonitor h (z.comparedLoad h)).hoist k).position = (z.hoist k).position ∧
      ((z.withMonitor h (z.comparedLoad h)).hoist k).load = (z.hoist k).load ∧
      ((z.withMonitor h (z.comparedLoad h)).hoist k).drive = (z.hoist k).drive ∧
      ((z.withMonitor h (z.comparedLoad h)).hoist k).settleTimer = (z.hoist k).settleTimer := by
    by_cases hk : k = h
    · rw [hk, withMonitor_hoist_self]
      exact ⟨rfl, rfl, rfl, rfl⟩
    · rw [withMonitor_hoist_ne _ _ hk]
      exact ⟨rfl, rfl, rfl, rfl⟩
  have hsup : (Machine.compareLoad h z).sup = z.sup := hnotices.sup
  refine ⟨⟨(compareLoad_gate h _ z).trans hz.gate, fun j hj => (compareLoad_gate h j z).trans (hz.others j hj),
    hnotices.store.trans hz.store,
    fun k => ((Hoist.position_of_exceptPhase (hnotices.hoists k)).trans (hhoist k).1).trans (hz.position k),
    fun k => ((Hoist.load_of_exceptPhase (hnotices.hoists k)).trans (hhoist k).2.1).trans (hz.load k),
    fun k => ((Hoist.drive_of_exceptPhase (hnotices.hoists k)).trans (hhoist k).2.2.1).trans (hz.drive k),
    fun k => ((Hoist.settleTimer_of_exceptPhase (hnotices.hoists k)).trans (hhoist k).2.2.2).trans (hz.settle k),
    by rw [hsup]; exact hz.device, by rw [hsup]; exact hz.sup, by rw [hsup]; exact hz.stopping,
    by rw [hsup, compareLoad_drained]; exact hz.fulfilled⟩, (compareLoad_ha h z).trans ?_, (compareLoad_la h z).trans ?_⟩
  · unfold State.Overloads
    rw [hz.load, hz.store]
  · unfold State.Slackens
    rw [hz.load, hz.store, hz.settle]

theorem Took.addCause (c : Cause) : Took s (addCause (gateOf h) c z) h d (m ||| BitVec.ofNat 8 (2 ^ c.code)) e where
  gate := by
    unfold Machine.addCause
    rw [State.gate_onGate_self, hz.gate]
    unfold Gate.tookStatus
    cases e <;> simp [BitVec.or_assoc]
  others := fun j hj => by
    unfold Machine.addCause
    rw [State.gate_onGate_ne _ _ _ _ hj]
    exact hz.others j hj
  store := hz.store
  position := hz.position
  load := hz.load
  drive := hz.drive
  settle := hz.settle
  device := hz.device
  sup := hz.sup
  stopping := hz.stopping
  fulfilled := by
    rw [addCause_drained]
    exact hz.fulfilled

variable (hmode : (s.gate (gateOf h)).mode ≠ .off) (hfaulty : (s.gate (gateOf h)).faulty = true)

include hmode hfaulty

theorem Took.reachCause (c : Cause) :
    Took s (reachCause (gateOf h) c z) h d (m ||| BitVec.ofNat 8 (2 ^ c.code)) e := by
  rw [reachCause_of_faulty c (by rwa [hz.gate, tookStatus_mode]) (by rw [hz.gate]; exact tookStatus_faulty m e _ hfaulty)]
  exact hz.addCause c

theorem Took.deliverOverload {b : Byte} (hheard : Heard s z h d)
    (hb : s.Overloads ((s.withStatus h d).hoist h).load ∧ b = 1#8 ∨ ¬s.Overloads ((s.withStatus h d).hoist h).load ∧ b = 0#8) :
    Took s (deliverOverload h z) h d (m ||| b) e := by
  unfold Machine.deliverOverload
  rcases hb with ⟨hover, rfl⟩ | ⟨hover, rfl⟩
  · rw [if_pos (hheard.ha.mpr hover)]
    exact hz.reachCause hmode hfaulty .overload
  · rw [if_neg fun hha => hover (hheard.ha.mp hha), BitVec.or_zero]
    exact hz

theorem Took.deliverSlack {b : Byte} (hheard : Heard s z h d)
    (hb : (s.Slackens ((s.withStatus h d).hoist h).load ∧ (s.hoist h).settleTimer = none) ∧ b = 2#8 ∨
      ¬(s.Slackens ((s.withStatus h d).hoist h).load ∧ (s.hoist h).settleTimer = none) ∧ b = 0#8) :
    Took s (deliverSlack h z) h d (m ||| b) e := by
  unfold Machine.deliverSlack
  rcases hb with ⟨hlate, rfl⟩ | ⟨hlate, rfl⟩
  · rw [if_pos (hheard.la.mpr hlate)]
    exact hz.reachCause hmode hfaulty .slack
  · rw [if_neg fun hla => hlate (hheard.la.mp hla), BitVec.or_zero]
    exact hz

end took

/-! ### The end of a fault stop (R163) -/

section ends

variable {s z : State} {h : HoistNo} {d : StatusData} {m : Byte} (hz : Took s z h d m false)

include hz

theorem Took.stopEnded (hmotion : (s.gate (gateOf h)).motion = .faultStopping) :
    Took s (endFaultStop (gateOf h) z) h d m true := by
  have hrecovery : (if (z.gate (gateOf h)).save.firstCause.recoverable && z.bothStill (gateOf h) &&
      decide (magnitude (z.skew (gateOf h)) ≤ trimThreshold (z.record (gateOf h))) then Recoverable.yes else .no) =
      s.recovery h d := by
    unfold State.recovery State.bothStill State.skew State.record State.leftOf State.rightOf
    rw [magnitude_eq, hz.gate, hz.store, hz.position, hz.position, hz.drive, hz.drive]
    rfl
  have hended : endFaultStop (gateOf h) z = testDrain (z.onGate (gateOf h) fun x =>
      { x with stopTimer := none, motion := .faulted, save := { x.save with recoverable := s.recovery h d } }) := by
    rw [← hrecovery]
    rfl
  rw [hended]
  generalize hy : (z.onGate (gateOf h) fun x =>
    { x with stopTimer := none, motion := .faulted, save := { x.save with recoverable := s.recovery h d } }) = y
  have hhoist (k : HoistNo) : (testDrain y).hoist k = z.hoist k := by
    rw [testDrain_hoist, ← hy]
    rfl
  have hdrained : (testDrain y).drained = y.drained :=
    drained_congr (testDrain_rest y).2.1 fun k => by rw [testDrain_hoist]
  have hsup : y.sup = s.sup := by
    rw [← hz.stopping rfl hmotion, ← hy]
    rfl
  exact
    { gate := by
        rw [testDrain_gate, ← hy, State.gate_onGate_self, hz.gate]
        rfl
      others := fun j hj => by
        rw [testDrain_gate, ← hy, State.gate_onGate_ne _ _ _ _ hj, hz.others j hj]
      store := by
        rw [(testDrain_surroundings y).store, ← hy]
        exact hz.store
      position := fun k => by rw [hhoist, hz.position]
      load := fun k => by rw [hhoist, hz.load]
      drive := fun k => by rw [hhoist, hz.drive]
      settle := fun k => by rw [hhoist, hz.settle]
      device := by rw [(testDrain_rest y).2.2.2, hsup]
      sup := fun hdevice => by
        rw [(testDrain_sup y).resolve_right fun e => hdevice (hsup ▸ e.1), hsup]
      stopping := nofun
      fulfilled := fun _ hdrain => by
        rw [testDrain_fulfilled (s := y) (by rw [hsup, hdrain]), hdrained, hsup] }

variable (hfaulty : (s.gate (gateOf h)).faulty = true)

include hfaulty

theorem Took.checkMotion : Took s (checkMotion (gateOf h) z) h d m
    (decide ((s.gate (gateOf h)).motion = .faultStopping) && (s.withStatus h d).bothAtRest (gateOf h)) := by
  have hmotion : (z.gate (gateOf h)).motion = (s.gate (gateOf h)).motion := by
    rw [hz.gate]
    rfl
  have hrest : z.bothAtRest (gateOf h) = (s.withStatus h d).bothAtRest (gateOf h) := by
    unfold State.bothAtRest State.leftOf State.rightOf
    rw [hz.drive, hz.drive]
  unfold Machine.checkMotion
  rw [hmotion, hrest]
  cases e : (s.gate (gateOf h)).motion with
  | faultStopping =>
    cases (s.withStatus h d).bothAtRest (gateOf h)
    · exact hz
    · exact hz.stopEnded e
  | faulted => exact hz
  | idle | moving | trim | stopping => simp [Gate.faulty, e] at hfaulty

variable (hmode : (s.gate (gateOf h)).mode ≠ .off)

include hmode

/-- The sequencer of a faulted gate adds DRIVE-FAULT and ends the stop, where they are due. -/
theorem Took.sequencerStatus {b : Byte} (hb : b = if d.drive = .fault then 8#8 else 0#8) :
    Took s (sequencerStatus h z) h d (m ||| b)
      (decide ((s.gate (gateOf h)).motion = .faultStopping) && (s.withStatus h d).bothAtRest (gateOf h)) := by
  have hdrive : (z.hoist h).drive = d.drive := by
    rw [hz.drive, withStatus_hoist_self]
    rfl
  have hfaulty' : (z.gate (gateOf h)).faulty = true := by
    rw [hz.gate]
    exact tookStatus_faulty m false _ hfaulty
  have hmode' : (z.gate (gateOf h)).mode ≠ .off := by rwa [hz.gate, tookStatus_mode]
  subst hb
  by_cases hd : d.drive = .fault
  · unfold Machine.sequencerStatus
    dsimp only
    rw [if_neg hmode', hdrive, hd, if_pos rfl]
    dsimp only
    rw [if_pos hfaulty']
    exact (hz.reachCause hmode hfaulty .driveFault).checkMotion hfaulty
  · rw [if_neg hd, BitVec.or_zero, sequencerStatus_of_sound hmode' (by rwa [hdrive]) fun _ => ?_]
    · exact hz.checkMotion hfaulty
    · refine Bool.eq_false_iff.mpr fun e => ?_
      rw [sound_of_takesLocal e] at hfaulty'
      exact Bool.false_ne_true hfaulty'

end ends

/-! ### The status as a whole -/

section handed

variable {s w : State} {h : HoistNo} {d : StatusData} (hw : Noted s w h d) (hmode : (s.gate (gateOf h)).mode ≠ .off)
  (hfaulty : (s.gate (gateOf h)).faulty = true)

include hw hmode hfaulty

/-- Wherever the status stands among the events, the gate has taken all it brings (R151, R161). -/
theorem handOnStatus_took (place : Nat) {drives overload slack : Byte}
    (hdrives : drives = if d.drive = .fault then 8#8 else 0#8)
    (hover : s.Overloads ((s.withStatus h d).hoist h).load ∧ overload = 1#8 ∨
      ¬s.Overloads ((s.withStatus h d).hoist h).load ∧ overload = 0#8)
    (hslack : (s.Slackens ((s.withStatus h d).hoist h).load ∧ (s.hoist h).settleTimer = none) ∧ slack = 2#8 ∨
      ¬(s.Slackens ((s.withStatus h d).hoist h).load ∧ (s.hoist h).settleTimer = none) ∧ slack = 0#8) :
    Took s (handOnStatus h place w) h d (drives ||| overload ||| slack)
      (decide ((s.gate (gateOf h)).motion = .faultStopping) && (s.withStatus h d).bothAtRest (gateOf h)) := by
  have hcompared := (hw.took hmode).compareLoad
  have hheavy {z : State} {m : Byte} {e : Bool} (hz : Took s z h d m e) (hheard : Heard s z h d) :=
    hz.deliverOverload hmode hfaulty hheard hover
  have hlight {z : State} {m : Byte} {e : Bool} (hz : Took s z h d m e) (hheard : Heard s z h d) :=
    hz.deliverSlack hmode hfaulty hheard hslack
  have hturn {z : State} {m : Byte} (hz : Took s z h d m false) := hz.sequencerStatus hfaulty hmode hdrives
  have hheard {z : State} (hz : Heard s z h d) : Heard s (deliverOverload h z) h d :=
    hz.of_monitor (deliverOverload_monitor h h z)
  have hheard' {z : State} (hz : Heard s z h d) : Heard s (sequencerStatus h z) h d :=
    hz.of_monitor (sequencerStatus_monitor h h z)
  unfold handOnStatus
  split_ifs
  · obtain ⟨hz, hz'⟩ := (hturn (hw.took hmode)).compareLoad
    have hall := hlight (hheavy hz hz') (hheard hz')
    rwa [BitVec.zero_or] at hall
  · have hall := hlight (hheavy (hturn hcompared.1) (hheard' hcompared.2)) (hheard (hheard' hcompared.2))
    rwa [BitVec.zero_or] at hall
  · have hall := hlight (hturn (hheavy hcompared.1 hcompared.2)) (hheard' (hheard hcompared.2))
    rwa [BitVec.zero_or, BitVec.or_comm overload] at hall
  · have hall := hturn (hlight (hheavy hcompared.1 hcompared.2) (hheard hcompared.2))
    rwa [BitVec.zero_or, BitVec.or_comm, ← BitVec.or_assoc] at hall

end handed

theorem recoverable_iff (c : Cause) : c.recoverable = true ↔ c ≠ .skew ∧ c ≠ .driveFault ∧ c ≠ .localTakeover := by
  cases c <;> simp [Cause.recoverable]

/-- FaultedGateTakesStatus, of O30. -/
theorem faultedGateTakesStatus : Sys2Proof.Claim.FaultedGateTakesStatus := by
  intro ws k f s d h hr g x u hmode hfaulty drives overload slack hdrives hover hslack y ends recovers
  obtain ⟨t, w, place, ht, hw, hend⟩ := exec_noted_status hr
  have htook := handOnStatus_took hw.toNoted hmode hfaulty place hdrives hover hslack
  generalize handOnStatus h place w = z at *
  have hends : (decide ((s.gate (gateOf h)).motion = .faultStopping) && (s.withStatus h d).bothAtRest (gateOf h)) = true ↔
      ends := by
    rw [Bool.and_eq_true, decide_eq_true_eq]
  have hrecovery : s.recovery h d = if recovers then .yes else .no := by
    unfold State.recovery
    refine if_congr ?_ rfl rfl
    rw [Bool.and_eq_true, Bool.and_eq_true, recoverable_iff, decide_eq_true_eq]
    simp only [recovers, and_assoc]
    rfl
  have hgate : t.gate g = x.tookStatus (drives ||| overload ||| slack) _ (s.recovery h d) := (hend.gate g).trans htook.gate
  have hcauses : x.save.causes ||| drives ||| overload ||| slack = x.save.causes ||| (drives ||| overload ||| slack) := by
    simp only [BitVec.or_assoc]
  refine ⟨t, ht, fun j hj => (hend.gate j).trans (htook.others j hj), fun hn => ?_, fun hy => ?_,
    fun hdevice => hend.sup.trans (htook.sup hdevice), fun hdrain hy => ?_⟩
  · rw [hgate, Bool.eq_false_iff.mpr fun e => hn (hends.mp e)]
    simp only [y, hcauses]
    rfl
  · rw [hgate, hends.mpr hy, hrecovery]
    simp only [y, hcauses]
    rfl
  · rw [hend.sup, htook.fulfilled (hends.mpr hy) hdrain, hend.drained]

/-- Settles O30: the faults by skew, drive state and load, and a status at a faulted gate. -/
theorem skewAlarmFaultsGate : Obligations.SkewAlarmFaultsGate :=
  ⟨skewFaultsGate, driveStateFaultsGate, loadOutcomeReachesGate, loadFaultsGate, faultedGateTakesStatus⟩

end Sys2Proof.Machine
end

section
/-!
PROOFS. A status is recorded, and its load compared, for the hoists it comes from and no other (R126, R127, R145 to R150).
-/

namespace Sys2Proof.Machine

/-! ### Around the comparison (R127, R150) -/

/-- An event that keeps the surroundings and compares nothing; it may start settle timers. -/
structure Uncompared (s t : State) : Prop where
  surroundings : SameSurroundings s t
  settling : Settling True s t

theorem Uncompared.refl (s : State) : Uncompared s s := ⟨.refl s, .refl s⟩

theorem Uncompared.trans {s t u : State} (h : Uncompared s t) (k : Uncompared t u) : Uncompared s u :=
  ⟨h.surroundings.trans k.surroundings, h.settling.trans k.settling⟩

theorem sequencerStatus_uncompared (h : HoistNo) (s : State) : Uncompared s (sequencerStatus h s) :=
  ⟨sequencerStatus_surroundings h s, sequencerStatus_settling fun hs => absurd trivial hs⟩

theorem reachCause_uncompared (g : GateNo) (c : Cause) (s : State) : Uncompared s (reachCause g c s) :=
  ⟨reachCause_surroundings g c s, reachCause_settling g c s⟩

theorem deliverOverload_uncompared (h : HoistNo) (s : State) : Uncompared s (deliverOverload h s) := by
  unfold deliverOverload
  split
  · exact reachCause_uncompared _ _ s
  · exact .refl s

theorem deliverSlack_uncompared (h : HoistNo) (s : State) : Uncompared s (deliverSlack h s) := by
  unfold deliverSlack
  split
  · exact reachCause_uncompared _ _ s
  · exact .refl s

theorem matchAck_uncompared (h : HoistNo) (tag : Byte) (s : State) : Uncompared s (matchAck h tag s) :=
  ⟨matchAck_surroundings h tag s, matchAck_settling h tag s⟩

/-- The one comparison of a status, and what comes before and after it. -/
theorem handOnStatus_around (h : HoistNo) (place : Nat) (w : State) :
    ∃ a, Uncompared w a ∧ Uncompared (compareLoad h a) (handOnStatus h place w) := by
  unfold handOnStatus
  split_ifs
  · exact ⟨_, sequencerStatus_uncompared h w, (deliverOverload_uncompared h _).trans (deliverSlack_uncompared h _)⟩
  · exact ⟨w, .refl w, ((sequencerStatus_uncompared h _).trans (deliverOverload_uncompared h _)).trans
      (deliverSlack_uncompared h _)⟩
  · exact ⟨w, .refl w, ((deliverOverload_uncompared h _).trans (sequencerStatus_uncompared h _)).trans
      (deliverSlack_uncompared h _)⟩
  · exact ⟨w, .refl w, ((deliverOverload_uncompared h _).trans (deliverSlack_uncompared h _)).trans
      (sequencerStatus_uncompared h _)⟩

theorem withMonitor_surroundings (s : State) (h : HoistNo) (q : Quantity) : SameSurroundings s (s.withMonitor h q) :=
  onHoist_surroundings s h _ (fun _ => rfl) (fun _ => rfl) (fun _ => rfl) (fun _ => rfl) (fun _ => rfl) fun _ => rfl

theorem compareLoad_surroundings (h : HoistNo) (s : State) : SameSurroundings s (compareLoad h s) :=
  (withMonitor_surroundings s h _).trans (compareLoad_notices h s).surroundings

theorem compareLoad_monitor_ne {h k : HoistNo} (s : State) (hk : k ≠ h) :
    ((compareLoad h s).hoist k).monitor = (s.hoist k).monitor := by
  rw [Hoist.monitor_of_exceptPhase ((compareLoad_notices h s).hoists k), withMonitor_hoist_ne _ _ hk]

theorem compareLoad_settle (h k : HoistNo) (s : State) :
    ((compareLoad h s).hoist k).settleTimer = (s.hoist k).settleTimer := by
  rw [Hoist.settleTimer_of_exceptPhase ((compareLoad_notices h s).hoists k)]
  by_cases hk : k = h
  · rw [hk, withMonitor_hoist_self]
  · rw [withMonitor_hoist_ne _ _ hk]

theorem compareLoad_quantities (h : HoistNo) (s : State) :
    (compareLoad h s).monitor.up = s.monitor.up ∧ (compareLoad h s).monitor.down = s.monitor.down ∧
      (compareLoad h s).monitor.head = s.monitor.head :=
  ⟨(compareLoad_notices h s).up, (compareLoad_notices h s).down, (compareLoad_notices h s).head⟩

/-! ### What a status records -/

/-- The figures of a hoist that a status could give it are those it had. -/
structure SameFigures (x y : Hoist) : Prop where
  position : y.position = x.position
  load : y.load = x.load
  drive : y.drive = x.drive
  valid : y.valid = x.valid
  monitor : y.monitor = x.monitor

theorem SameFigures.refl (x : Hoist) : SameFigures x x := ⟨rfl, rfl, rfl, rfl, rfl⟩

theorem SameFigures.trans {x y z : Hoist} (h : SameFigures x y) (k : SameFigures y z) : SameFigures x z :=
  ⟨k.position.trans h.position, k.load.trans h.load, k.drive.trans h.drive, k.valid.trans h.valid,
    k.monitor.trans h.monitor⟩

/-- The figures of the status `d`. -/
structure Hoist.Holds (x : Hoist) (d : StatusData) : Prop where
  position : x.position = max 0 (min 16000 d.position)
  load : x.load = max (-4000) (min 4000 d.load)
  drive : x.drive = d.drive
  valid : x.valid = true

theorem Hoist.Holds.of_same {x y : Hoist} {d : StatusData} (h : x.Holds d) (k : SameFigures x y) : y.Holds d :=
  ⟨k.position.trans h.position, k.load.trans h.load, k.drive.trans h.drive, k.valid.trans h.valid⟩

/-- The hoists of `hs` hold the status, their loads compared under the settle timer as it stood before or stands after; no
other hoist, and no other quantity, is concerned. -/
structure Recorded (d : StatusData) (hs : List HoistNo) (s t : State) : Prop where
  store : t.store = s.store
  levels : t.levels = s.levels
  forcedIndex : t.forcedIndex = s.forcedIndex
  holdLine : t.sup.holdLine = s.sup.holdLine
  pending : t.pending = s.pending
  quantities : t.monitor.up = s.monitor.up ∧ t.monitor.down = s.monitor.down ∧ t.monitor.head = s.monitor.head
  settle : ∀ k, (t.hoist k).settleTimer = (s.hoist k).settleTimer ∨ (t.hoist k).settleTimer = s.settleStart
  holds : ∀ h ∈ hs, (t.hoist h).Holds d
  compared : ∀ h ∈ hs, ∃ timer : Option Nat, (timer = (s.hoist h).settleTimer ∨ timer = (t.hoist h).settleTimer) ∧
    ComparedFrom (s.hoist h).monitor (t.hoist h).monitor s.store.thresholds .load (t.hoist h).load timer.isSome
  kept : ∀ k ∉ hs, SameFigures (s.hoist k) (t.hoist k)

/-- A value that can only become `start` stands at the first or at the last of three. -/
theorem first_or_last {α : Type} {start a b c : α} (hab : b = a ∨ b = start) (hbc : c = b ∨ c = start) : b = a ∨ b = c := by
  rcases hab with hb | hb
  · exact .inl hb
  · rcases hbc with hc | hc
    · exact .inr hc.symm
    · exact .inr (hb.trans hc.symm)

theorem Aside.recorded {s t : State} (h : Aside s t) (d : StatusData) : Recorded d [] s t where
  store := h.store
  levels := h.levels
  forcedIndex := h.forcedIndex
  holdLine := congrArg Supervisor.holdLine h.sup
  pending := h.pending
  quantities := ⟨h.up, h.down, h.head⟩
  settle := fun k => .inl (Hoist.settleTimer_of_exceptPhase (h.exceptPhase k))
  holds := nofun
  compared := nofun
  kept := fun k _ =>
    have e := h.exceptPhase k
    ⟨Hoist.position_of_exceptPhase e, Hoist.load_of_exceptPhase e, Hoist.drive_of_exceptPhase e,
      Hoist.valid_of_exceptPhase e, Hoist.monitor_of_exceptPhase e⟩

theorem Recorded.trans {d : StatusData} {hs ks : List HoistNo} {s t u : State} (h : Recorded d hs s t)
    (k : Recorded d ks t u) (hdisjoint : ∀ j ∈ hs, j ∉ ks) : Recorded d (hs ++ ks) s u := by
  have hstart : t.settleStart = s.settleStart := by
    unfold State.settleStart
    rw [h.store]
  have hlater (j : HoistNo) : (u.hoist j).settleTimer = (t.hoist j).settleTimer ∨ (u.hoist j).settleTimer = s.settleStart := by
    rw [← hstart]
    exact k.settle j
  have hmiddle (j : HoistNo) := first_or_last (h.settle j) (hlater j)
  refine ⟨k.store.trans h.store, k.levels.trans h.levels, k.forcedIndex.trans h.forcedIndex, k.holdLine.trans h.holdLine,
    k.pending.trans h.pending, ⟨k.quantities.1.trans h.quantities.1, k.quantities.2.1.trans h.quantities.2.1,
      k.quantities.2.2.trans h.quantities.2.2⟩, fun j => ?_, fun j hj => ?_, fun j hj => ?_, fun j hj => ?_⟩
  · rcases hlater j with e | e
    · rw [e]
      exact h.settle j
    · exact .inr e
  · by_cases hk : j ∈ ks
    · exact k.holds j hk
    · exact (h.holds j ((List.mem_append.mp hj).resolve_right hk)).of_same (k.kept j hk)
  · rcases List.mem_append.mp hj with hmem | hmem
    · have hsame := k.kept j (hdisjoint j hmem)
      obtain ⟨timer, htimer, hcompared⟩ := h.compared j hmem
      rw [hsame.monitor, hsame.load]
      exact ⟨timer, htimer.elim .inl fun e => e ▸ hmiddle j, hcompared⟩
    · have hsame := h.kept j fun hj' => hdisjoint j hj' hmem
      obtain ⟨timer, htimer, hcompared⟩ := k.compared j hmem
      rw [hsame.monitor, h.store] at hcompared
      exact ⟨timer, htimer.elim (fun e => e ▸ hmiddle j) .inr, hcompared⟩
  · obtain ⟨hnot, hnot'⟩ := not_or.mp (mt List.mem_append.mpr hj)
    exact (h.kept j hnot).trans (k.kept j hnot')

theorem received_uncompared (u : State) (h : HoistNo) (d : StatusData) (m : Bool) :
    Uncompared (u.withStatus h d) (u.received h d m) := by
  unfold State.received
  split
  · exact matchAck_uncompared h _ _
  · exact .refl _

theorem withOrders_uncompared (s : State) (o : Orders) : Uncompared s { s with orders := o } :=
  ⟨⟨rfl, rfl, rfl, rfl, rfl, rfl, rfl, rfl, rfl, rfl, fun _ => rfl, fun _ => rfl, fun _ => rfl, fun _ => rfl,
    fun _ => rfl, fun _ => rfl, rfl⟩, .of_hoists rfl rfl rfl⟩

/-- A status at one hoist records itself there, and is compared there once. -/
theorem takeStatus_recorded (h : HoistNo) (d : StatusData) (m : Bool) (u : State) :
    Recorded d [h] u (takeStatus h d m u) := by
  obtain ⟨place, o, htaken⟩ := takeStatus_eq h d m u
  obtain ⟨a, hbefore, hafter⟩ := handOnStatus_around h place { u.received h d m with orders := o }
  rw [← htaken] at hafter
  generalize takeStatus h d m u = t at *
  have hfirst := ((received_uncompared u h d m).trans (withOrders_uncompared _ o)).trans hbefore
  have hsame := (hfirst.surroundings.trans (compareLoad_surroundings h a)).trans hafter.surroundings
  have hrest := hafter.surroundings
  have hunsettled (k : HoistNo) : ((u.withStatus h d).hoist k).settleTimer = (u.hoist k).settleTimer ∧
      ((u.withStatus h d).hoist k).monitor = (u.hoist k).monitor := by
    by_cases hk : k = h
    · rw [hk, withStatus_hoist_self]
      exact ⟨rfl, rfl⟩
    · rw [withStatus_hoist_ne _ _ hk]
      exact ⟨rfl, rfl⟩
  have hearly (k : HoistNo) : (a.hoist k).settleTimer = (u.hoist k).settleTimer ∨ (a.hoist k).settleTimer = u.settleStart := by
    rw [← (hunsettled k).1]
    exact (hfirst.settling.settle k).imp_right And.right
  have hstart : (compareLoad h a).settleStart = u.settleStart := by
    unfold State.settleStart
    rw [(compareLoad_surroundings h a).store, hfirst.surroundings.store]
    rfl
  have hlate (k : HoistNo) : (t.hoist k).settleTimer = (a.hoist k).settleTimer ∨ (t.hoist k).settleTimer = u.settleStart := by
    rw [← hstart, ← compareLoad_settle h k a]
    exact (hafter.settling.settle k).imp_right And.right
  refine ⟨hsame.store, hsame.levels, hsame.forcedIndex, hsame.holdLine, hsame.pending, ?_, fun k => ?_, fun k hk => ?_,
    fun k hk => ?_, fun k hk => ?_⟩
  · obtain ⟨hup, hdown, hhead⟩ := hafter.settling.quantities
    obtain ⟨hup', hdown', hhead'⟩ := compareLoad_quantities h a
    obtain ⟨hup'', hdown'', hhead''⟩ := hfirst.settling.quantities
    exact ⟨(hup.trans hup').trans hup'', (hdown.trans hdown').trans hdown'', (hhead.trans hhead').trans hhead''⟩
  · rcases hlate k with e | e
    · rw [e]
      exact hearly k
    · exact .inr e
  · rw [List.mem_singleton.mp hk]
    have hself := withStatus_hoist_self u h d
    exact ⟨(hsame.position h).trans (by rw [hself]; rfl), (hsame.load h).trans (by rw [hself]; rfl),
      (hsame.drive h).trans (by rw [hself]; rfl), (hsame.valid h).trans (by rw [hself]; rfl)⟩
  · rw [List.mem_singleton.mp hk]
    refine ⟨(a.hoist h).settleTimer, first_or_last (hearly h) (hlate h), ?_⟩
    have hmonitor : (a.hoist h).monitor = (u.hoist h).monitor := (hfirst.settling.monitors h).trans (hunsettled h).2
    have hstore : a.store = u.store := hfirst.surroundings.store
    have hload : (t.hoist h).load = (a.hoist h).load := (hrest.load h).trans ((compareLoad_surroundings h a).load h)
    rw [hafter.settling.monitors, compareLoad_monitor, hload]
    unfold State.comparedLoad
    rw [hmonitor, hstore]
    exact compared_from ..
  · have hne : k ≠ h := fun e => hk (List.mem_singleton.mpr e)
    have hself : (u.withStatus h d).hoist k = u.hoist k := withStatus_hoist_ne u d hne
    exact ⟨(hsame.position k).trans (by rw [hself]), (hsame.load k).trans (by rw [hself]),
      (hsame.drive k).trans (by rw [hself]), (hsame.valid k).trans (by rw [hself]),
      ((hafter.settling.monitors k).trans (compareLoad_monitor_ne a hne)).trans
        ((hfirst.settling.monitors k).trans (hunsettled k).2)⟩

theorem foldl_takeStatus_recorded (d : StatusData) (m : Bool) {hs : List HoistNo} (hnodup : hs.Nodup) (u : State) :
    Recorded d hs u (hs.foldl (fun acc h => takeStatus h d m acc) u) := by
  induction hs generalizing u with
  | nil => exact (Aside.refl u).recorded d
  | cons h hs ih =>
    obtain ⟨hnot, hnodup⟩ := List.nodup_cons.mp hnodup
    exact (takeStatus_recorded h d m u).trans (ih hnodup _) fun j hj => List.mem_singleton.mp hj ▸ hnot

theorem hoistsAt_nodup (s : State) (a : Byte) : (s.hoistsAt a).Nodup := by
  unfold State.hoistsAt
  split
  · exact List.nodup_nil
  · exact allHoists_nodup.filter _

/-- StatusRecordedAndCompared, of O27. -/
theorem statusRecordedAndCompared : Sys2Proof.Claim.StatusRecordedAndCompared := by
  intro ws k f s d harrives hkind hdata hconsumed
  obtain ⟨t, u, ht, hu, _, hafter⟩ := exec_frameArrival_consumed harrives (.inr hkind) hconsumed
  rw [readData_of_status _ _ hkind hdata, hu.hoistsAt] at hafter
  have hfold := foldl_takeStatus_recorded d (s.matches f) (hoistsAt_nodup s f.src) u
  have hall : Recorded d (s.hoistsAt f.src) s t := by
    have h := ((hu.recorded d).trans hfold (by nofun)).trans (hafter.recorded d) (by simp)
    rwa [List.nil_append, List.append_nil] at h
  obtain ⟨hup, hdown, hhead⟩ := hall.quantities
  refine ⟨t, ht, fun h hh => ?_, fun h hh => ?_, hup, hdown, hhead, hall.store, hall.levels, hall.forcedIndex, hall.holdLine,
    hall.pending⟩
  · obtain ⟨hposition, hload, hdrive, hvalid⟩ := hall.holds h hh
    obtain ⟨timer, htimer, hcompared⟩ := hall.compared h hh
    exact ⟨hposition, hload, hdrive, hvalid, timer.isSome, htimer.imp (congrArg _) (congrArg _), hcompared⟩
  · obtain ⟨hposition, hload, hdrive, hvalid, hmonitor⟩ := hall.kept h hh
    exact ⟨hposition, hload, hdrive, hvalid, hmonitor⟩

/-! ### The notices (R155) -/

/-- A gate in OFF takes no part in a status (R111, R151). -/
theorem handOnStatus_of_off {h : HoistNo} {w : State} (place : Nat) (hmode : (w.gate (gateOf h)).mode = .off) :
    handOnStatus h place w = compareLoad h w := by
  have hmode' : ((compareLoad h w).gate (gateOf h)).mode = .off := by rwa [compareLoad_gate]
  have hheavy : deliverOverload h (compareLoad h w) = compareLoad h w := by
    unfold deliverOverload
    rw [reachCause_of_off _ _ _ hmode', ite_self]
  have hlight : deliverSlack h (compareLoad h w) = compareLoad h w := by
    unfold deliverSlack
    rw [reachCause_of_off _ _ _ hmode', ite_self]
  have hrests := sequencerStatus_of_off h _ hmode'
  rw [handOnStatus_of_steady place (sequencerStatus_of_off h _ hmode) hrests (by rwa [hheavy]) (by rwa [hheavy, hlight]),
    hheavy, hlight]

/-- The notices of the comparison of a status stand at the end of its command, with none offered but these. -/
theorem Seen.noticesAlarms {s w t : State} {h : HoistNo} {d : StatusData} (hw : Seen s w h d)
    (hafter : Aside (compareLoad h w) t) :
    s.NoticesAlarms t .load (16 + h.val) (w.hoist h).load (w.hoist h).monitor.flags (w.comparedLoad h).flags := by
  have hv := hw.withMonitor (w.comparedLoad h)
  have hnotices : (w.withMonitor h (w.comparedLoad h)).NoticesAlarms (compareLoad h w) .load (16 + h.val) (w.hoist h).load
      (w.hoist h).monitor.flags (w.comparedLoad h).flags := notifyAlarms_noticesAlarms ..
  unfold State.NoticesAlarms at hnotices ⊢
  rw [hv.store, hv.tagCounter] at hnotices
  obtain ⟨hhigh, hlow, hnone⟩ := hnotices
  exact ⟨fun h0 hroom => hafter.placed.notice (hhigh h0 (hv.room hroom)),
    fun h0 h3 hroom => hafter.placed.notice (hlow h0 h3 (hv.room hroom)), fun h0 h3 => hafter.tagCounter.trans (hnone h0 h3)⟩

/-- LoadAlarmNoticed, of O27. -/
theorem loadAlarmNoticed : Sys2Proof.Claim.LoadAlarmNoticed := by
  intro ws k f s d h hr hmode
  obtain ⟨t, u, place, o, ht, hu, hroom, hafter⟩ := exec_status hr
  have hw := (hu.seen_received hroom h d (s.matches f)).withOrders o
  have hmonitor : (State.hoist { u.received h d (s.matches f) with orders := o } h).monitor = (s.hoist h).monitor := by
    refine ((received_uncompared u h d (s.matches f)).settling.monitors h).trans ?_
    rw [withStatus_hoist_self]
    exact (Hoist.monitor_of_exceptPhase (hu.exceptPhase h) :)
  rw [handOnStatus_of_off place (by rw [hw.gate]; exact hmode)] at hafter
  have hnotices := hw.noticesAlarms hafter
  have hhoist := hafter.exceptPhase h
  have hload := (Hoist.load_of_exceptPhase hhoist).trans ((compareLoad_surroundings h _).load h)
  have hcompared := (Hoist.monitor_of_exceptPhase hhoist).trans (compareLoad_monitor h _)
  rw [← hload, ← hcompared, hmonitor] at hnotices
  refine ⟨t, ht, (hafter.gates.trans (compareLoad_gates h _)).trans hw.gates, ?_, hnotices⟩
  exact ((Hoist.settleTimer_of_exceptPhase hhoist).trans (compareLoad_settle h h _)).trans (hw.settle h)

/-- Settles O27: the records and comparisons of a status, and its notices. -/
theorem hoistStatusRecorded : Obligations.HoistStatusRecorded := ⟨statusRecordedAndCompared, loadAlarmNoticed⟩

end Sys2Proof.Machine
end
